-- ==== Sys2Proof/Word.lean ====
section
/-! DEFINITION. The plain words and containers the model is written in: bytes, fixed tables, level arithmetic on integers. -/

namespace Sys2Proof

/-- One byte of a request or response frame (R164). -/
abbrev Byte := BitVec 8

/-- One 32-bit slot word of an audio link (R165). -/
abbrev SlotWord := BitVec 32

/-- A label: its characters, one byte each (R164). -/
abbrev Label := List Nat

/-- Level code OFF, silence (0.5.3). -/
def off : Int := -400

/-- A fixed number `n` of like records, numbered from 0 (the operator's number less 1, 0.5.1). -/
structure Table (α : Type) (n : Nat) where
  rows : List α
  size : rows.length = n
deriving DecidableEq, Repr

namespace Table

variable {α β : Type} {n : Nat}

def get (t : Table α n) (i : Fin n) : α :=
  t.rows.get ⟨i.val, by rw [t.size]; exact i.isLt⟩

def set (t : Table α n) (i : Fin n) (a : α) : Table α n :=
  ⟨t.rows.set i.val a, by rw [List.length_set, t.size]⟩

def modify (t : Table α n) (i : Fin n) (f : α → α) : Table α n :=
  t.set i (f (t.get i))

def replicate (n : Nat) (a : α) : Table α n :=
  ⟨List.replicate n a, List.length_replicate⟩

def map (f : α → β) (t : Table α n) : Table β n :=
  ⟨t.rows.map f, by rw [List.length_map, t.size]⟩

def ofFn (f : Fin n → α) : Table α n :=
  ⟨(List.finRange n).map f, by rw [List.length_map, List.length_finRange]⟩

/-- The first `n` rows of a list, filled up with `a`. -/
def ofList (a : α) (l : List α) : Table α n :=
  ⟨(List.range n).map (fun i => l.getD i a), by rw [List.length_map, List.length_range]⟩

theorem ext_get {t u : Table α n} (h : ∀ i, t.get i = u.get i) : t = u := by
  obtain ⟨a, ha⟩ := t
  obtain ⟨b, hb⟩ := u
  have : a = b := by
    apply List.ext_getElem (by rw [ha, hb])
    intro i h1 h2
    exact h ⟨i, by omega⟩
  subst this
  rfl

@[simp] theorem get_set_self (t : Table α n) (i : Fin n) (a : α) : (t.set i a).get i = a := by
  simp [get, set]

theorem get_set_ne (t : Table α n) {i j : Fin n} (a : α) (h : i ≠ j) :
    (t.set i a).get j = t.get j := by
  have : i.val ≠ j.val := fun e => h (Fin.ext e)
  simp [get, set, this]

theorem get_set (t : Table α n) (i j : Fin n) (a : α) :
    (t.set i a).get j = if i = j then a else t.get j := by
  by_cases h : i = j
  · subst h; simp
  · simp [h, get_set_ne t a h]

theorem get_modify (t : Table α n) (i j : Fin n) (f : α → α) :
    (t.modify i f).get j = if i = j then f (t.get j) else t.get j := by
  unfold modify
  rw [get_set]
  by_cases h : i = j <;> simp [h]

@[simp] theorem get_replicate (a : α) (i : Fin n) : (replicate n a).get i = a := by
  simp [get, replicate]

@[simp] theorem get_map (f : α → β) (t : Table α n) (i : Fin n) : (t.map f).get i = f (t.get i) := by
  simp [get, map]

@[simp] theorem get_ofFn (f : Fin n → α) (i : Fin n) : (ofFn f).get i = f i := by
  simp [get, ofFn]

end Table

/-- A value above the top of a range is taken as the top, one below the bottom as the bottom (R40, R163). -/
def clampCode (lo hi z : Int) : Int := max lo (min hi z)

theorem clampCode_ge {lo hi : Int} (z : Int) : lo ≤ clampCode lo hi z := by
  unfold clampCode; omega

theorem clampCode_le {lo hi : Int} (z : Int) (h : lo ≤ hi) : clampCode lo hi z ≤ hi := by
  unfold clampCode; omega

/-- The item numbered `k` from 1 (0.5.1), if `k` is a number from 1 to `n`. -/
def idx (n k : Nat) : Option (Fin n) :=
  if h : 1 ≤ k ∧ k ≤ n then some ⟨k - 1, by omega⟩ else none

/-- An index field that may be absent: 0 is absent (R164). `none` when out of range. -/
def optIdx (n k : Nat) : Option (Option (Fin n)) :=
  if k = 0 then some none else (idx n k).map some

/-- The number, from 1, that the operator sees. -/
def num {n : Nat} (i : Fin n) : Nat := i.val + 1

/-- The number of an optional item, 0 when absent (R164). -/
def optNum {n : Nat} : Option (Fin n) → Nat
  | none => 0
  | some i => num i

/-- The members of a set mask, ascending (least significant bit for member 1, R164). -/
def members {n : Nat} (m : BitVec n) : List (Fin n) :=
  (List.finRange n).filter (fun i => m.getLsbD i.val)

/-- The set with one member. -/
def only {n : Nat} (i : Fin n) : BitVec n := BitVec.ofNat n (2 ^ i.val)

end Sys2Proof
end

