-- ==== Sys2Proof/Syntax.lean ====
section
/-! DEFINITION. The commands of the block: one constructor of `Instr` for each row of spec/opcode_table.json.
The operands of a request are the fields of its payload as numbers, before any check (R162, R164), so that
every value the port can carry is a command; the operands of an event say which record it meets. -/

namespace Sys2Proof

/-! ## Elements (R40) and the things events name -/

/-- The source of a foldback entry (R102). -/
inductive Source where
  | role (r : Fin 64)
  | channel (c : Fin 64)
  | programme (b : Fin 8)
deriving DecidableEq, Repr

/-- The source of a relay main entry (R116). -/
inductive RelaySource where
  | channel (c : Fin 64)
  | programme (b : Fin 8)
deriving DecidableEq, Repr

/-- The eleven kinds of element the Fade Engine moves (R40). -/
inductive Element where
  | group (g : Fin 16)
  | role (r : Fin 64)
  | master (f : Fin 12)
  | send (f : Fin 12) (src : Source)
  | relaySend (src : RelaySource)
  | station (s : Fin 32)
  | duck (s : Fin 32)
  | tbDuck (f : Fin 12)
  | xout (r : Fin 64)
  | xin (r : Fin 64)
  | link (n : Fin 4)
deriving DecidableEq, Repr

/-- The level of a show-input line (R75). -/
inductive Line where
  | high
  | low
deriving DecidableEq, Repr

/-- An accepted change of a show input (R75). -/
inductive Edge where
  | press
  | release
deriving DecidableEq, Repr

/-- The three causes of a whole-device reset procedure (R169). -/
inductive Cause where
  | power
  | supply
  | pin
deriving DecidableEq, Repr

/-! ## Payload fields as the wire carries them (R164) -/

/-- A 4-byte element address. -/
structure ElemAddr where
  kind : Nat
  index : Nat
  srcKind : Nat
  srcIndex : Nat
deriving DecidableEq, Repr

/-- A 2-byte source of a mix entry or relay main entry. -/
structure SrcAddr where
  kind : Nat
  index : Nat
deriving DecidableEq, Repr

/-- A 2-byte measured point. -/
structure PointAddr where
  kind : Nat
  index : Nat
deriving DecidableEq, Repr

/-- The selected fields of ROLE_MODIFY with their values (R13); `beyond`: a selection bit names no field. -/
structure RoleFields where
  label : Option Label := none
  performer : Option Nat := none
  cover : Option Nat := none
  group : Option Nat := none
  level : Option Int := none
  buses : Option Nat := none
  station : Option Nat := none
  beyond : Bool := false
deriving DecidableEq, Repr

/-- The selected fields of CHANNEL_SET (R14). -/
structure ChannelFields where
  trim : Option Int := none
  polarity : Option Nat := none
  mute : Option Nat := none
  buses : Option Nat := none
  level : Option Int := none
  group : Option Nat := none
  beyond : Bool := false
deriving DecidableEq, Repr

/-- The selected fields of GROUP_SET (R15). -/
structure GroupFields where
  level : Option Int := none
  label : Option Label := none
  beyond : Bool := false
deriving DecidableEq, Repr

/-- One item of LEVEL_SET (R57). -/
structure LevelItem where
  addr : ElemAddr
  target : Int
  time : Nat
deriving DecidableEq, Repr

/-- The three forms of FADE_READ (R58), or a form byte beyond them. -/
inductive FadeForm where
  | element (addr : ElemAddr)
  | summary
  | owner (slot : Nat)
  | unknown (form : Nat)
deriving DecidableEq, Repr

/-- The fields of an action after its header (R164), or a kind that is none of the five. -/
inductive RawBody where
  | level (addr : ElemAddr) (target : Int) (time : Nat)
  | member (role group : Nat)
  | route (role buses : Nat)
  | call (preset : Nat)
  | trigger (code : Nat)
  | unknown (kind : Nat)
deriving DecidableEq, Repr

structure RawAction where
  delay : Nat
  body : RawBody
deriving DecidableEq, Repr

/-- A cue record as CUE_STORE carries it (R65, R164). -/
structure RawCue where
  number : Nat
  label : Label
  follow : Nat
  followTime : Nat
  actions : List RawAction
deriving DecidableEq, Repr

/-- Enable, acting edge and filter length of one selected input of INPUT_SET (R77). -/
structure InputSetting where
  enable : Nat
  edge : Nat
  length : Nat
deriving DecidableEq, Repr

structure InputFields where
  go : Option InputSetting := none
  hold : Option InputSetting := none
  call : Option InputSetting := none
  beyond : Bool := false
deriving DecidableEq, Repr

/-- The selected fields of MIX_SET (R106). -/
structure MixFields where
  label : Option Label := none
  listener : Option Nat := none
  master : Option Int := none
  ceiling : Option Int := none
  beyond : Bool := false
deriving DecidableEq, Repr

/-- One item of MIX_ENTRY_SET (R107) or RELAY_ENTRY_SET (R117). -/
structure EntryItem where
  source : SrcAddr
  level : Int
deriving DecidableEq, Repr

/-- One source or ALL (R108, R117), or a form byte beyond them. -/
inductive RemoveForm where
  | one (source : SrcAddr)
  | all
  | unknown (form : Nat)
deriving DecidableEq, Repr

/-- The selected fields of TALKBACK_SET (R110). -/
structure TalkbackFields where
  source : Option Nat := none
  targets : Option Nat := none
  level : Option Int := none
  depth : Option Int := none
  beyond : Bool := false
deriving DecidableEq, Repr

/-- The selected fields of RELAY_SET (R118). -/
structure RelayFields where
  channel : Option Nat := none
  level : Option Int := none
  beyond : Bool := false
deriving DecidableEq, Repr

/-- The selected fields of STATION_SET (R119). -/
structure StationFields where
  label : Option Label := none
  volume : Option Int := none
  programme : Option Nat := none
  calls : Option Nat := none
  beyond : Bool := false
deriving DecidableEq, Repr

/-- The target of a call preset (R121), or a form byte beyond the three. -/
inductive RawTarget where
  | stations (mask : Nat)
  | roles (mask : Nat)
  | all
  | unknown (form : Nat)
deriving DecidableEq, Repr

/-- Every field of PRESET_SET after the preset number (R121). -/
structure RawPreset where
  source : Nat
  target : RawTarget
  priority : Nat
  gain : Int
  depth : Int
  maxLength : Nat
  silence : Nat
deriving DecidableEq, Repr

/-- Every field of MONITOR_SET after the monitor number (R139). -/
structure RawMonitor where
  enabled : Nat
  point : PointAddr
  low : Int
  high : Int
  condition : Nat
  hold : Nat
  action : Nat
deriving DecidableEq, Repr

/-- The selected items of LINK_SET with their on/off bytes (R159). -/
structure LinkFields where
  inputs : Table (Option Nat) 4 := Table.replicate 4 none
  outputs : Table (Option Nat) 4 := Table.replicate 4 none
  monitor : Option Nat := none
  beyond : Bool := false
deriving DecidableEq, Repr

/-- One item of SLOT_MAP_SET (R157): output link, slot, source byte. -/
structure SlotItem where
  link : Nat
  slot : Nat
  source : Nat
deriving DecidableEq, Repr

/-! ## The commands -/

/-- One command of the block; the constructors stand in the order of the table. -/
inductive Instr where
  /-- SEL_N rises after these whole bytes and this many bits over (R161, R162). -/
  | transaction (bytes : List Byte) (bitsOver : Fin 8)
  | poll
  | pollAlias
  | identify
  | portReset
  | clearShow
  | attentionRead
  | attentionClear (mask : Nat)
  | attentionEnable (mask : Nat)
  | roleRead (role : Nat)
  | channelRead (channel : Nat)
  | groupRead (group : Nat)
  | roleFind (performer covers : Nat)
  | roleSet (role : Nat) (label : Label) (performer cover : Nat)
  | roleModify (roles : Nat) (fields : RoleFields)
  | channelSet (channels : Nat) (fields : ChannelFields)
  | groupSet (group : Nat) (fields : GroupFields)
  | roleRetire (role : Nat)
  | roleRebind (role channel time : Nat)
  | levelSet (items : List LevelItem)
  | fadeRead (form : FadeForm)
  | cueStore (cue : RawCue)
  | cueDelete (first last : Nat)
  | cueRead (number : Nat)
  | cueList (start page : Nat)
  | standbySet (number : Nat)
  | go
  | hold
  | resume
  | safeSet (selection value : Nat)
  | inputSet (fields : InputFields)
  | runningRead (slot : Nat)
  | engineRead
  | mixSet (mix : Nat) (fields : MixFields)
  | mixEntrySet (mix : Nat) (items : List EntryItem)
  | mixEntryRemove (mix : Nat) (form : RemoveForm)
  | mixRead (mix : Nat)
  | mixFind (role : Nat)
  | talkbackSet (tb : Nat) (fields : TalkbackFields)
  | talkbackOn (tb : Nat)
  | talkbackOff (tb : Nat)
  | talkbackRead
  | relayEntrySet (items : List EntryItem)
  | relayEntryRemove (form : RemoveForm)
  | relaySet (fields : RelayFields)
  | relaySelect (selection : Nat)
  | relayRead
  | stationSet (stations : Nat) (fields : StationFields)
  | stationRead (station : Nat)
  | presetSet (preset : Nat) (fields : RawPreset)
  | presetRead (preset : Nat)
  | callStart (preset : Nat)
  | callEnd (preset : Nat)
  | callRead
  | monitorSet (monitor : Nat) (fields : RawMonitor)
  | monitorRead (monitor : Nat)
  | meterRead (points : List PointAddr)
  | linkSet (fields : LinkFields)
  | clockReturn
  | slotMapSet (items : List SlotItem)
  | linkRead (form : Nat)
  | powerCause
  | supplyCause
  | pinCause
  /-- The named cause ends (R169). -/
  | causeEnd (cause : Cause)
  /-- The strap's level, true for high, at the instant latched (R170). -/
  | clkroleLatch (high : Bool)
  | resetProcedureEnd
  /-- One frame of the part; `wckEdge`: a WCK edge was seen in the frame period before it (R147). -/
  | frame (wckEdge : Bool)
  /-- The end of a control interval; each line's new level if it moved since the last one (R75, R148). -/
  | controlIntervalEnd (go hold call : Option Line)
  | fadeComplete (element : Element)
  | actionDue (slot : Fin 8)
  | followGo
  | goNPress (edge : Edge)
  | holdNPress (edge : Edge)
  | callNPress
  | callNRelease
  | callTimeout
  | callSilent
  | monitorTrip (monitor : Fin 16)
  /-- The 16 slot words of the link frame, slot 1 first (R152, R165). -/
  | linkFrameArrival (link : Fin 4) (words : Table SlotWord 16)
  | partialFrameDiscard (link : Fin 4)
  | linkLost (link : Fin 4)
  | outputLinkFrame (link : Fin 4)
  | fallback
  | returnToWck
  | returnAbandoned
  | transactionBegin
  | frameSync (link : Fin 4)
deriving DecidableEq, Repr

end Sys2Proof
end

