-- ==== Sys2Proof/Decode.lean ====
section
/-! DEFINITION. Decoding. The table of commands gives no row any bits, so no word spells a command; a request frame on
the control port is decoded from its bytes by the frame checks of R162 and the layouts of R164. -/

namespace Sys2Proof

/-- No row of the table has bits, so no word spells a command. -/
def decodeTableWord (_nbits _w : Nat) : Option Instr := none

/-! ## Reading a payload (R164) -/

/-- A reader of payload bytes; `none` when the payload is too short. -/
abbrev Reader := StateT (List Byte) Option

def readByte : Reader Nat := fun bytes =>
  match bytes with
  | [] => none
  | b :: rest => some (b.toNat, rest)

/-- An unsigned integer of `n` bytes, most significant first. -/
def readUint : Nat → Reader Nat
  | 0 => pure 0
  | n + 1 => do
    let hi ← readByte
    let lo ← readUint n
    pure (hi * 256 ^ n + lo)

/-- A 16-bit number in two's complement. -/
def readLevel : Reader Int := do
  let n ← readUint 2
  pure (if n < 32768 then n else (n : Int) - 65536)

def readTime : Reader Nat := readUint 3

/-- `n` items, one after another. -/
def readTimes {α : Type} (item : Reader α) : Nat → Reader (List α)
  | 0 => pure []
  | n + 1 => do
    let a ← item
    let rest ← readTimes item n
    pure (a :: rest)

/-- A list: a count byte, then its items. -/
def readList {α : Type} (item : Reader α) : Reader (List α) := do
  let n ← readByte
  readTimes item n

/-- A label: its length byte, then its characters. -/
def readLabel : Reader Label := readList readByte

/-- The value of the member of a selection with the given bit, if it is selected. -/
def readSelected {α : Type} (mask bit : Nat) (value : Reader α) : Reader (Option α) :=
  if mask.testBit bit then do
    let a ← value
    pure (some a)
  else pure none

/-- What follows cannot be laid out and is not checked. DESIGN CHOICE, log 15. -/
def skipRest : Reader Unit := fun _ => some ((), [])

/-- A selection with a bit beyond its `n` members: what follows its known members is not checked. -/
def readBeyond (mask n : Nat) : Reader Bool :=
  if mask < 2 ^ n then pure false
  else do
    skipRest
    pure true

def readElemAddr : Reader ElemAddr := do
  let kind ← readByte
  let index ← readByte
  let srcKind ← readByte
  let srcIndex ← readByte
  pure ⟨kind, index, srcKind, srcIndex⟩

def readSrcAddr : Reader SrcAddr := do
  let kind ← readByte
  let index ← readByte
  pure ⟨kind, index⟩

def readPoint : Reader PointAddr := do
  let kind ← readByte
  let index ← readByte
  pure ⟨kind, index⟩

/-! ## The fields of each request, in the order its rule names them -/

def readRoleFields : Reader RoleFields := do
  let mask ← readByte
  let label ← readSelected mask 0 readLabel
  let performer ← readSelected mask 1 (readUint 2)
  let cover ← readSelected mask 2 readByte
  let group ← readSelected mask 3 readByte
  let level ← readSelected mask 4 readLevel
  let buses ← readSelected mask 5 readByte
  let station ← readSelected mask 6 readByte
  let beyond ← readBeyond mask 7
  pure ⟨label, performer, cover, group, level, buses, station, beyond⟩

def readChannelFields : Reader ChannelFields := do
  let mask ← readByte
  let trim ← readSelected mask 0 readLevel
  let polarity ← readSelected mask 1 readByte
  let mute ← readSelected mask 2 readByte
  let buses ← readSelected mask 3 readByte
  let level ← readSelected mask 4 readLevel
  let group ← readSelected mask 5 readByte
  let beyond ← readBeyond mask 6
  pure ⟨trim, polarity, mute, buses, level, group, beyond⟩

def readGroupFields : Reader GroupFields := do
  let mask ← readByte
  let level ← readSelected mask 0 readLevel
  let label ← readSelected mask 1 readLabel
  let beyond ← readBeyond mask 2
  pure ⟨level, label, beyond⟩

def readLevelItem : Reader LevelItem := do
  let addr ← readElemAddr
  let target ← readLevel
  let time ← readTime
  pure ⟨addr, target, time⟩

/-- Forms ELEMENT, SUMMARY, OWNER (R58). -/
def readFadeForm : Reader FadeForm := do
  let form ← readByte
  match form with
  | 0 => do
    let addr ← readElemAddr
    pure (.element addr)
  | 1 => pure .summary
  | 2 => do
    let slot ← readByte
    pure (.owner slot)
  | _ => do
    skipRest
    pure (.unknown form)

/-- The fields of an action's kind; of a kind that is none of the five nothing more can be read. -/
def readBody (kind : Nat) : Reader RawBody :=
  match kind with
  | 0 => do
    let addr ← readElemAddr
    let target ← readLevel
    let time ← readTime
    pure (.level addr target time)
  | 1 => do
    let role ← readByte
    let group ← readByte
    pure (.member role group)
  | 2 => do
    let role ← readByte
    let buses ← readByte
    pure (.route role buses)
  | 3 => do
    let preset ← readByte
    pure (.call preset)
  | 4 => do
    let code ← readByte
    pure (.trigger code)
  | _ => pure (.unknown kind)

/-- Up to `n` actions, each with its header first; an unknown kind ends the reading (log 15). -/
def readActions : Nat → Reader (List RawAction)
  | 0 => pure []
  | n + 1 => do
    let kind ← readByte
    let delay ← readTime
    let body ← readBody kind
    if kind ≤ 4 then do
      let rest ← readActions n
      pure (⟨delay, body⟩ :: rest)
    else do
      skipRest
      pure [⟨delay, body⟩]

def readCue : Reader RawCue := do
  let number ← readUint 2
  let label ← readLabel
  let follow ← readByte
  let followTime ← readTime
  let count ← readByte
  let actions ← readActions count
  pure ⟨number, label, follow, followTime, actions⟩

def readSetting : Reader InputSetting := do
  let enable ← readByte
  let edge ← readByte
  let length ← readByte
  pure ⟨enable, edge, length⟩

def readInputFields : Reader InputFields := do
  let mask ← readByte
  let go ← readSelected mask 0 readSetting
  let hold ← readSelected mask 1 readSetting
  let call ← readSelected mask 2 readSetting
  let beyond ← readBeyond mask 3
  pure ⟨go, hold, call, beyond⟩

def readMixFields : Reader MixFields := do
  let mask ← readByte
  let label ← readSelected mask 0 readLabel
  let listener ← readSelected mask 1 readByte
  let master ← readSelected mask 2 readLevel
  let ceiling ← readSelected mask 3 readLevel
  let beyond ← readBeyond mask 4
  pure ⟨label, listener, master, ceiling, beyond⟩

def readEntryItem : Reader EntryItem := do
  let source ← readSrcAddr
  let level ← readLevel
  pure ⟨source, level⟩

/-- One source, or ALL (R108, R117). -/
def readRemoveForm : Reader RemoveForm := do
  let form ← readByte
  match form with
  | 0 => do
    let source ← readSrcAddr
    pure (.one source)
  | 1 => pure .all
  | _ => do
    skipRest
    pure (.unknown form)

def readTalkbackFields : Reader TalkbackFields := do
  let mask ← readByte
  let source ← readSelected mask 0 readByte
  let targets ← readSelected mask 1 (readUint 2)
  let level ← readSelected mask 2 readLevel
  let depth ← readSelected mask 3 readLevel
  let beyond ← readBeyond mask 4
  pure ⟨source, targets, level, depth, beyond⟩

def readRelayFields : Reader RelayFields := do
  let mask ← readByte
  let channel ← readSelected mask 0 readByte
  let level ← readSelected mask 1 readLevel
  let beyond ← readBeyond mask 2
  pure ⟨channel, level, beyond⟩

def readStationFields : Reader StationFields := do
  let mask ← readByte
  let label ← readSelected mask 0 readLabel
  let volume ← readSelected mask 1 readLevel
  let programme ← readSelected mask 2 readByte
  let calls ← readSelected mask 3 readByte
  let beyond ← readBeyond mask 4
  pure ⟨label, volume, programme, calls, beyond⟩

/-- The fields of a preset after its target. -/
def readPresetRest (source : Nat) (target : RawTarget) : Reader RawPreset := do
  let priority ← readByte
  let gain ← readLevel
  let depth ← readLevel
  let maxLength ← readTime
  let silence ← readTime
  pure ⟨source, target, priority, gain, depth, maxLength, silence⟩

/-- The target's forms are a station set, a role set and ALL (R121). -/
def readPreset : Reader RawPreset := do
  let source ← readByte
  let form ← readByte
  match form with
  | 0 => do
    let mask ← readUint 4
    readPresetRest source (.stations mask)
  | 1 => do
    let mask ← readUint 8
    readPresetRest source (.roles mask)
  | 2 => readPresetRest source .all
  | _ => do
    skipRest
    pure ⟨source, .unknown form, 0, 0, 0, 0, 0⟩

def readMonitor : Reader RawMonitor := do
  let enabled ← readByte
  let point ← readPoint
  let low ← readLevel
  let high ← readLevel
  let condition ← readByte
  let hold ← readTime
  let action ← readByte
  pure ⟨enabled, point, low, high, condition, hold, action⟩

/-- The four items of a mask from bit `base` on. -/
def readFour (mask base : Nat) : Reader (Table (Option Nat) 4) := do
  let a ← readSelected mask base readByte
  let b ← readSelected mask (base + 1) readByte
  let c ← readSelected mask (base + 2) readByte
  let d ← readSelected mask (base + 3) readByte
  pure ⟨[a, b, c, d], rfl⟩

def readLinkFields : Reader LinkFields := do
  let mask ← readUint 2
  let inputs ← readFour mask 0
  let outputs ← readFour mask 4
  let monitor ← readSelected mask 8 readByte
  let beyond ← readBeyond mask 9
  pure ⟨inputs, outputs, monitor, beyond⟩

def readSlotItem : Reader SlotItem := do
  let link ← readByte
  let slot ← readByte
  let source ← readByte
  pure ⟨link, slot, source⟩

/-- Forms STATUS and MAP (R160). -/
def readLinkForm : Reader Nat := do
  let form ← readByte
  if form ≤ 1 then pure form
  else do
    skipRest
    pure form

/-- The request of a code, from its payload; `none` for a code that is no row of the catalogue. -/
def readRequest (code : Nat) : Option (Reader Instr) :=
  match code with
  | 1 => some (pure .poll)
  | 2 => some (pure .identify)
  | 3 => some (pure .portReset)
  | 4 => some (pure .clearShow)
  | 5 => some (pure .attentionRead)
  | 6 => some (do
    let mask ← readUint 2
    pure (.attentionClear mask))
  | 7 => some (do
    let mask ← readUint 2
    pure (.attentionEnable mask))
  | 8 => some (do
    let role ← readByte
    pure (.roleRead role))
  | 9 => some (do
    let channel ← readByte
    pure (.channelRead channel))
  | 10 => some (do
    let group ← readByte
    pure (.groupRead group))
  | 11 => some (do
    let performer ← readUint 2
    let covers ← readByte
    pure (.roleFind performer covers))
  | 12 => some (do
    let role ← readByte
    let label ← readLabel
    let performer ← readUint 2
    let cover ← readByte
    pure (.roleSet role label performer cover))
  | 13 => some (do
    let roles ← readUint 8
    let fields ← readRoleFields
    pure (.roleModify roles fields))
  | 14 => some (do
    let channels ← readUint 8
    let fields ← readChannelFields
    pure (.channelSet channels fields))
  | 15 => some (do
    let group ← readByte
    let fields ← readGroupFields
    pure (.groupSet group fields))
  | 16 => some (do
    let role ← readByte
    pure (.roleRetire role))
  | 17 => some (do
    let role ← readByte
    let channel ← readByte
    let time ← readTime
    pure (.roleRebind role channel time))
  | 18 => some (do
    let items ← readList readLevelItem
    pure (.levelSet items))
  | 19 => some (do
    let form ← readFadeForm
    pure (.fadeRead form))
  | 20 => some (do
    let cue ← readCue
    pure (.cueStore cue))
  | 21 => some (do
    let first ← readUint 2
    let last ← readUint 2
    pure (.cueDelete first last))
  | 22 => some (do
    let number ← readUint 2
    pure (.cueRead number))
  | 23 => some (do
    let start ← readUint 2
    let page ← readByte
    pure (.cueList start page))
  | 24 => some (do
    let number ← readUint 2
    pure (.standbySet number))
  | 25 => some (pure .go)
  | 26 => some (pure .hold)
  | 27 => some (pure .resume)
  | 28 => some (do
    let selection ← readUint 16
    let value ← readUint 16
    pure (.safeSet selection value))
  | 29 => some (do
    let fields ← readInputFields
    pure (.inputSet fields))
  | 30 => some (do
    let slot ← readByte
    pure (.runningRead slot))
  | 31 => some (pure .engineRead)
  | 32 => some (do
    let mix ← readByte
    let fields ← readMixFields
    pure (.mixSet mix fields))
  | 33 => some (do
    let mix ← readByte
    let items ← readList readEntryItem
    pure (.mixEntrySet mix items))
  | 34 => some (do
    let mix ← readByte
    let form ← readRemoveForm
    pure (.mixEntryRemove mix form))
  | 35 => some (do
    let mix ← readByte
    pure (.mixRead mix))
  | 36 => some (do
    let role ← readByte
    pure (.mixFind role))
  | 37 => some (do
    let tb ← readByte
    let fields ← readTalkbackFields
    pure (.talkbackSet tb fields))
  | 38 => some (do
    let tb ← readByte
    pure (.talkbackOn tb))
  | 39 => some (do
    let tb ← readByte
    pure (.talkbackOff tb))
  | 40 => some (pure .talkbackRead)
  | 41 => some (do
    let items ← readList readEntryItem
    pure (.relayEntrySet items))
  | 42 => some (do
    let form ← readRemoveForm
    pure (.relayEntryRemove form))
  | 43 => some (do
    let fields ← readRelayFields
    pure (.relaySet fields))
  | 44 => some (do
    let selection ← readByte
    pure (.relaySelect selection))
  | 45 => some (pure .relayRead)
  | 46 => some (do
    let stations ← readUint 4
    let fields ← readStationFields
    pure (.stationSet stations fields))
  | 47 => some (do
    let station ← readByte
    pure (.stationRead station))
  | 48 => some (do
    let preset ← readByte
    let fields ← readPreset
    pure (.presetSet preset fields))
  | 49 => some (do
    let preset ← readByte
    pure (.presetRead preset))
  | 50 => some (do
    let preset ← readByte
    pure (.callStart preset))
  | 51 => some (do
    let preset ← readByte
    pure (.callEnd preset))
  | 52 => some (pure .callRead)
  | 53 => some (do
    let monitor ← readByte
    let fields ← readMonitor
    pure (.monitorSet monitor fields))
  | 54 => some (do
    let monitor ← readByte
    pure (.monitorRead monitor))
  | 55 => some (do
    let points ← readList readPoint
    pure (.meterRead points))
  | 56 => some (do
    let fields ← readLinkFields
    pure (.linkSet fields))
  | 57 => some (pure .clockReturn)
  | 58 => some (do
    let items ← readList readSlotItem
    pure (.slotMapSet items))
  | 59 => some (do
    let form ← readLinkForm
    pure (.linkRead form))
  | 60 => some (pure .pollAlias)
  | _ => none

/-! ## A whole frame (R162) -/

/-- What a received frame is taken as. -/
inductive FrameKind where
  /-- Its first byte is the code of PORT_RESET. -/
  | portReset
  /-- Answered BAD_REQUEST, echoing this byte. -/
  | bad (echo : Nat)
  | request (code : Nat) (i : Instr)
deriving DecidableEq, Repr

/-- Code, length and payload of a frame of whole bytes; `none` when a check of R162 fails. -/
def readFrame (code hi lo : Byte) (payload : List Byte) : Option Instr :=
  let length := hi.toNat * 256 + lo.toNat
  if length ≤ 252 ∧ payload.length = length then
    match readRequest code.toNat with
    | none => none
    | some reader =>
      match reader payload with
      | some (i, []) => some i
      | some (_, _ :: _) => none
      | none => none
  else none

/-- The frame checks on the bytes received and the bits left over. -/
def classifyFrame (bytes : List Byte) (bitsOver : Fin 8) : FrameKind :=
  match bytes with
  | [] => .bad 0
  | code :: rest =>
    if code = 3#8 then .portReset
    else if bitsOver ≠ 0 then .bad code.toNat
    else
      match rest with
      | hi :: lo :: payload =>
        match readFrame code hi lo payload with
        | some i => .request code.toNat i
        | none => .bad code.toNat
      | _ => .bad code.toNat

end Sys2Proof
end

