-- ==== Sys2Proof/Config.lean ====
section
/-! DEFINITION. What is fixed for the part: its capacities and limits, and the free values the spec leaves open. -/

namespace Sys2Proof.Config

/-- Places of the fade table (R42). -/
def fadePlaces : Nat := 128

/-- Longest fade time and action delay, in ms (0.5.4, R45, R62). -/
def longestFade : Nat := 600000

/-- Longest rebind crossfade, in ms (R9, R17). -/
def longestCrossfade : Nat := 2000

/-- Where a count serving as an attention detail holds (R55, R88, R89). -/
def countTop : Nat := 255

/-- Where the cue timer and a slot's elapsed hold (R78, R94). -/
def timerTop : Nat := 16777215

/-- Cue records of the list (R59). -/
def cuePlaces : Nat := 512

/-- Actions of one cue (R61). -/
def actionPlaces : Nat := 16

/-- Entries of one foldback mix (R101). -/
def mixEntryPlaces : Nat := 24

/-- Main entries of the relay programme (R116). -/
def relayEntryPlaces : Nat := 8

/-- Pending calls (R122, R126). -/
def callPlaces : Nat := 8

/-- Codes of the trigger queue (R91). -/
def triggerPlaces : Nat := 16

/-- Frames of one control interval (R148). -/
def intervalFrames : Nat := 48

/-- Where a slip count holds (R151). -/
def slipTop : Nat := 65535

/-- Part frames a LOCKED link bridges without a new link frame (R153). -/
def missedTop : Nat := 4

/-- The internal frame periods that are looked back over for a WCK edge: WCK is present while one was seen in the last 3
(R147). -/
def wckPeriods : Nat := 3

/-- The floor value of an OFF end of a fade, −40.00 dB (R51). -/
def floorLevel : Int := -160

/-- A peak at or below this is silent to a call's silence check, −60.00 dBFS (R132). -/
def silentPeak : Int := -240

/-- Silicon revision (R173): 1, the first revision. DESIGN CHOICE, log 26. -/
def siliconRevision : Nat := 1

/-- FREE VALUE, log 20: the strap level taken by a reset procedure that ends although no CLKROLE
sample stands (true is high). R170 has the part latch one within the window and says nothing else. -/
opaque unlatchedStrap : Nat → Bool

end Sys2Proof.Config
end

