-- ==== Sys2Proof/Machine/State.lean ====
section
/-! DEFINITION. The state of the block: every record, counter, mode and pin the spec gives it, as plain data,
block by block in the order of the chapters; the outcomes of a step; and the state after reset. -/

namespace Sys2Proof.Machine

/-! ## Chapter 1: the Role Table -/

inductive Polarity where
  | normal
  | inverted
deriving DecidableEq, Repr

/-- The role that holds a channel, and how (R1). -/
inductive Binding where
  | none
  | current (r : Fin 64)
  | releasing (r : Fin 64)
deriving DecidableEq, Repr

/-- An input channel record; the defaults are its values after reset and CLEAR_SHOW (R1). The link state
field is a reflection of the receiver's state and is not stored here. -/
structure Channel where
  trim : Int := 0
  polarity : Polarity := .normal
  mute : Bool := false
  directBuses : BitVec 8 := 0#8
  directLevel : Int := off
  directGroup : Option (Fin 16) := none
  binding : Binding := .none
deriving DecidableEq, Repr

inductive Cover where
  | principal
  | understudy
  | swing
deriving DecidableEq, Repr

/-- A role slot; the defaults are its vacant values (R4). -/
structure Role where
  active : Bool := false
  label : Label := []
  performer : Option Nat := none
  cover : Cover := .principal
  channel : Option (Fin 64) := none
  releasing : Option (Fin 64) := none
  group : Option (Fin 16) := none
  level : Int := 0
  buses : BitVec 8 := 3#8
  station : Option (Fin 32) := none
  xout : Int := 0
  xin : Int := 0
deriving DecidableEq, Repr

/-- A group record (R6). -/
structure Group where
  level : Int := off
  label : Label := []
deriving DecidableEq, Repr

structure RoleTable where
  channels : Table Channel 64 := Table.replicate 64 {}
  roles : Table Role 64 := Table.replicate 64 {}
  groups : Table Group 16 := Table.replicate 16 {}
deriving DecidableEq, Repr

/-! ## Chapter 2: the Mix Engine -/

/-- The 53 samples of the frame last computed, waiting for transmission (R35). -/
structure Outputs where
  bus : Table Int 8 := Table.replicate 8 0
  mix : Table Int 12 := Table.replicate 12 0
  relay : Int := 0
  station : Table Int 32 := Table.replicate 32 0
deriving DecidableEq, Repr

/-- One of the 117 measured points (R36). -/
inductive Point where
  | channel (c : Fin 64)
  | programme (b : Fin 8)
  | mix (f : Fin 12)
  | relay
  | station (s : Fin 32)
deriving DecidableEq, Repr

/-- The Mix Engine's own state (R39). The measured points stand in the order of R36: channels, buses,
mixes, RELAY, stations. -/
structure MixEngine where
  out : Outputs := {}
  largest : Table Nat 117 := Table.replicate 117 0
  peaks : Table Int 117 := Table.replicate 117 off
deriving DecidableEq, Repr

/-! ## Chapter 3: the Fade Engine -/

/-- The class of a fade entry, with the owning running-cue slot of a CUE entry (R42, R44). -/
inductive FadeOwner where
  | cue (slot : Fin 8)
  | host
  | system
deriving DecidableEq, Repr

/-- A fade table entry (R42). -/
structure FadeEntry where
  element : Element
  owner : FadeOwner
  start : Int
  target : Int
  duration : Nat
  elapsed : Nat
deriving DecidableEq, Repr

/-! ## Chapter 4: the Cue List -/

/-- What an action does (R63, R64). -/
inductive ActionBody where
  | level (el : Element) (target : Int) (time : Nat)
  | member (r : Fin 64) (group : Option (Fin 16))
  | route (r : Fin 64) (buses : BitVec 8)
  | call (preset : Fin 16)
  | trigger (code : Nat)
deriving DecidableEq, Repr

/-- A timed action (R62). -/
structure Action where
  delay : Nat
  body : ActionBody
deriving DecidableEq, Repr

/-- A cue record (R61); `follow` is absent for NONE and holds the follow time for FOLLOW. -/
structure Cue where
  number : Nat
  label : Label
  follow : Option Nat
  actions : List Action
deriving DecidableEq, Repr

/-- The cue list and the standby pointer; `none` is END (R59). -/
structure CueList where
  cues : List Cue := []
  standby : Option Nat := none
deriving DecidableEq, Repr

/-! ## Chapter 5: the Cue Engine -/

inductive ActingEdge where
  | press
  | release
  | both
deriving DecidableEq, Repr

/-- A show input: its line, its filter and its settings (R75, R76). -/
structure ShowInput where
  /-- The level the line stands at. DESIGN CHOICE at reset, log 3. -/
  line : Line := .high
  /-- DESIGN CHOICE at reset, log 3: the first sample after a reset overwrites it without an edge. -/
  accepted : Line := .high
  /-- Whether a sample has been taken since the reset procedure (R75). -/
  primed : Bool := false
  count : Nat := 0
  length : Nat := 4
  enable : Bool := true
  edge : ActingEdge := .press
deriving DecidableEq, Repr

inductive GoSource where
  | line
  | port
  | follow
deriving DecidableEq, Repr

/-- An action not yet executed, with its remaining delay (R78). -/
structure PendingAction where
  action : Action
  remaining : Nat
deriving DecidableEq, Repr

/-- A running-cue slot; the defaults are the FREE values (R78). -/
structure Slot where
  running : Bool := false
  cue : Option Nat := none
  serial : BitVec 32 := 0#32
  source : Option GoSource := none
  elapsed : Nat := 0
  actions : List PendingAction := []
  owned : Nat := 0
  skipped : Nat := 0
deriving DecidableEq, Repr

structure CueEngine where
  goInput : ShowInput := {}
  holdInput : ShowInput := {}
  callInput : ShowInput := { edge := .both }
  slots : Table Slot 8 := Table.replicate 8 {}
  serial : BitVec 32 := 0#32
  /-- GROUP 1-16 in bits 0-15, ROLE 1-64 in 16-79, MIX 1-12 in 80-91, STATION 1-32 in 92-123, RELAY in 124. -/
  safes : BitVec 125 := 0#125
  timer : Nat := 0
  lastInterval : Nat := 0
  /-- The follow compare: disarmed, or armed with its follow time (R95). -/
  follow : Option Nat := none
  hold : Bool := false
  triggers : List Nat := []
deriving DecidableEq, Repr

/-! ## Chapter 6: the Foldback Unit -/

/-- An entry of a mix: its source and its level, the element SEND (R102). -/
structure MixEntry where
  source : Source
  level : Int
deriving DecidableEq, Repr

/-- A foldback mix record (R101). -/
structure Mix where
  label : Label := []
  listener : Option (Fin 64) := none
  master : Int := off
  ceiling : Int := -24
  protect : Nat := 0
  duck : Int := 0
  entries : List MixEntry := []
deriving DecidableEq, Repr

/-- A talkback record (R110). -/
structure Talkback where
  source : Option (Fin 64) := none
  targets : BitVec 12 := 0#12
  level : Int := 0
  depth : Int := 0
  on : Bool := false
deriving DecidableEq, Repr

structure Foldback where
  mixes : Table Mix 12 := Table.replicate 12 {}
  talkbacks : Table Talkback 2 := Table.replicate 2 {}
deriving DecidableEq, Repr

/-! ## Chapter 7: the Relay Unit -/

/-- A relay main entry: its source and its level, the element RELAYSEND (R116). -/
structure RelayEntry where
  source : RelaySource
  level : Int
deriving DecidableEq, Repr

inductive Selection where
  | main
  | backup
deriving DecidableEq, Repr

/-- A station record; `inCall` is its state, PROGRAMME when false and CALL when true (R119). -/
structure Station where
  label : Label := []
  volume : Int := -40
  programme : Bool := true
  calls : Bool := true
  duck : Int := 0
  inCall : Bool := false
deriving DecidableEq, Repr

inductive CallTarget where
  | stations (set : BitVec 32)
  | roles (set : BitVec 64)
  | all
deriving DecidableEq, Repr

inductive Priority where
  | routine
  | standard
  | urgent
deriving DecidableEq, Repr

/-- A call preset, empty while its talk source is absent (R121). -/
structure Preset where
  source : Option (Fin 64) := none
  target : CallTarget := .all
  priority : Priority := .standard
  gain : Int := 0
  depth : Int := 80
  maxLength : Nat := 60000
  silence : Nat := 0
deriving DecidableEq, Repr

inductive Origin where
  | port
  | cue
  | line
deriving DecidableEq, Repr

/-- What a call record holds from its acceptance on (R122). -/
structure Call where
  preset : Fin 16
  origin : Origin
  serial : BitVec 32
  priority : Priority
deriving DecidableEq, Repr

/-- The active call with what a call record holds only while ACTIVE (R122). -/
structure ActiveCall where
  call : Call
  stations : BitVec 32
  activeTime : Nat := 0
  silenceTime : Nat := 0
deriving DecidableEq, Repr

/-- Why a call ended (R129). -/
inductive EndReason where
  | host
  | line
  | timeout
  | silent
  | preempted
  | displaced
  | noTarget
  | cleared
deriving DecidableEq, Repr

structure Relay where
  entries : List RelayEntry := []
  backup : Option (Fin 64) := none
  backupLevel : Int := 0
  selection : Selection := .main
  stations : Table Station 32 := Table.replicate 32 {}
  presets : Table Preset 16 := Table.replicate 16 {}
  arrivals : BitVec 32 := 0#32
  active : Option ActiveCall := none
  queue : List Call := []
deriving DecidableEq, Repr

/-! ## Chapter 8: the Monitor Unit -/

inductive Window where
  | inside
  | below
  | above
  | outside
deriving DecidableEq, Repr

inductive TripAction where
  | notify
  | relayBackup
  | muteChannel
deriving DecidableEq, Repr

inductive MonitorState where
  | off
  | watching
  | counting
  | tripped
deriving DecidableEq, Repr

/-- A monitor record (R138). -/
structure Monitor where
  enabled : Bool := false
  point : Point := .channel 0
  low : Int := -400
  high : Int := 0
  condition : Window := .below
  hold : Nat := 1000
  action : TripAction := .notify
  state : MonitorState := .off
  count : Nat := 0
deriving DecidableEq, Repr

/-! ## Chapter 9: the Link Interface -/

inductive ClockRole where
  | master
  | slave
deriving DecidableEq, Repr

inductive ClockSource where
  | internal
  | wck
deriving DecidableEq, Repr

/-- The frame clock state (R147, R148). -/
structure Clock where
  /-- DESIGN CHOICE at reset, log 2: the strap taken as low. -/
  role : ClockRole := .master
  source : ClockSource := .internal
  monitor : Bool := true
  returnWaiting : Bool := false
  /-- Internal frame periods that have passed since the one with the last WCK edge, 3 for 3 or more: WCK is absent
  then, no edge lying in the last 3 periods (R147). DESIGN CHOICE at reset, log 4. -/
  wckAge : Nat := 3
  frameCount : Nat := 0
deriving DecidableEq, Repr

inductive LinkState where
  | disabled
  | waitSync
  | locked
  | lost
deriving DecidableEq, Repr

/-- A receiver record (R151). -/
structure Receiver where
  enable : Bool := false
  state : LinkState := .disabled
  /-- A link frame is being received: a frame sync has come since the link was enabled and since the
  last whole link frame (R152, R154). -/
  receiving : Bool := false
  newest : Option (Table Int 16) := none
  held : Table Int 16 := Table.replicate 16 0
  missed : Nat := 0
  slips : Nat := 0
  ramp : Int := off
deriving DecidableEq, Repr

/-- What an entry of the output slot map names (R157). -/
inductive SlotSource where
  | none
  | programme (b : Fin 8)
  | mix (f : Fin 12)
  | relay
  | station (s : Fin 32)
  | trigger
deriving DecidableEq, Repr

/-- An output link (R156, R157): what is in use, what waits for its next frame boundary, and the 16 slot
words it last sent on ODAT, `none` where a slot was left undriven. -/
structure OutLink where
  enable : Bool := false
  waitingEnable : Option Bool := none
  slots : Table SlotSource 16 := Table.replicate 16 .none
  waitingSlots : Table (Option SlotSource) 16 := Table.replicate 16 none
  sent : Table (Option SlotWord) 16 := Table.replicate 16 none
deriving DecidableEq, Repr

structure Links where
  clock : Clock := {}
  receivers : Table Receiver 4 := Table.replicate 4 {}
  outputs : Table OutLink 4 := Table.replicate 4 {}
deriving DecidableEq, Repr

/-! ## Chapter 10: the Control Port, attention and reset -/

/-- The status codes (R163). -/
inductive Status where
  | ok
  | notReady
  | badRequest
  | badIndex
  | notFound
  | full
  | inUse
  | held
  | endOfList
  | invalid
deriving DecidableEq, Repr

/-- A field of a response payload, by its encoding (R164). -/
inductive Field where
  /-- index, enumeration, on/off, count or other small number: 1 byte -/
  | byte (n : Nat)
  /-- cue number, performer, or a count above 255: 2 bytes -/
  | two (n : Nat)
  /-- time, elapsed or timer value: 3 bytes -/
  | time (n : Nat)
  /-- serial or counter: 4 bytes -/
  | four (n : Nat)
  /-- level code, peak code or attenuation: 2 bytes, signed -/
  | level (z : Int)
  /-- a set of the given number of bytes -/
  | set (bytes : Nat) (mask : Nat)
  | label (l : Label)
deriving DecidableEq, Repr

/-- A response (R163, R164): status, echoed code, payload. -/
structure Response where
  status : Status
  code : Nat
  fields : List Field
deriving DecidableEq, Repr

/-- The pending response (R161); while EXECUTING it holds the request being executed. -/
inductive PortResponse where
  | empty
  | executing (code : Nat) (request : Instr)
  | ready (r : Response)
deriving DecidableEq, Repr

/-- SEL_N and the transaction open on it (R161): `closed` is SEL_N high; `opened e` is a transaction
that began, `e` saying that it met an executing request; `ignored` is SEL_N low with no transaction. -/
inductive Transaction where
  | closed
  | opened (metExecuting : Bool)
  | ignored
deriving DecidableEq, Repr

structure Port where
  response : PortResponse := .empty
  transaction : Transaction := .closed
  /-- The bytes shifted out on SDO, zero bytes after them; `none` while SDO is undriven (R161). -/
  sdo : Option (List Byte) := none
deriving DecidableEq, Repr

/-- Why a GO was turned away (R80). -/
inductive IgnoreReason where
  | held
  | ended
deriving DecidableEq, Repr

/-- The details of the attention conditions that have one (R166); the defaults are clear. The snap
count, the ACTION_SKIPPED count and the TRIGGER_LOST count have their one home here (R55, R88, R89). -/
structure Details where
  links : BitVec 4 := 0#4
  fired : Option Nat := none
  done : Option (Nat × Nat) := none
  forced : Option Nat := none
  snaps : Nat := 0
  skips : Nat := 0
  ignored : Option IgnoreReason := none
  lost : Nat := 0
  call : Option (Fin 16 × EndReason) := none
  limiter : BitVec 12 := 0#12
  trips : BitVec 16 := 0#16
  hold : Option Bool := none
deriving DecidableEq, Repr

/-- The 16 attention conditions: flags and enables by the mask bits of R166, and the details. -/
structure Attention where
  flags : BitVec 16 := 0#16
  enables : BitVec 16 := 0xFFFF#16
  details : Details := {}
deriving DecidableEq, Repr

/-- A reset procedure that is running (R169, R170). -/
structure Procedure where
  cause : Cause
  ended : Bool := false
  strap : Option Bool := none
deriving DecidableEq, Repr

structure Resets where
  procedure : Option Procedure := none
  /-- The causes that are present (R169). -/
  power : Bool := false
  supply : Bool := false
  pin : Bool := false
deriving DecidableEq, Repr

/-! ## The end of a control interval -/

/-- The blocks whose part of an end has commands of its own: each takes its part as one event (R82, R133, R148, R172). -/
inductive EndBlock where
  | fades
  | monitors
  | relay
  | cue
deriving DecidableEq, Repr

/-- How many of the lines stage 3 of R82 has sampled: none, HOLD_N, GO_N after it, or CALL_N after both. -/
inductive Sampled where
  | none
  | hold
  | go
  | all
deriving DecidableEq, Repr

/-- How far the end of the control interval that has ended is taken (R148). The model's own, log 8: the commands that are
one part of an end each come before CONTROL_INTERVAL_END, which takes the rest, so each part is taken once. -/
structure Ending where
  /-- The 48th frame has been computed, and its end is not taken whole yet. -/
  due : Bool := false
  /-- The peaks of the interval are complete (R38). -/
  measured : Bool := false
  /-- Elements whose entries were made or rewritten since the 48th frame: their fades belong to the interval that
  follows, and take no step at this end (R47, R85). -/
  fresh : List Element := []
  /-- The Fade Engine has stepped its entries (R50). -/
  stepped : Bool := false
  /-- The monitors that have taken their step (R141). -/
  monitors : BitVec 16 := 0#16
  /-- The active call has been counted (R132). -/
  called : Bool := false
  /-- A command has taken a part of this end: what is no part of it finds it whole (R82, R172; log 38). -/
  begun : Bool := false
  /-- The block of which the last command of its own took a part: another block's part finds its part whole (log 38). -/
  block : Option EndBlock := none
  /-- The slots and the cue timer have been counted: stages 1 and 2 of R82. -/
  counted : Bool := false
  /-- The lines that stage 3 of R82 has sampled. -/
  sampled : Sampled := .none
deriving DecidableEq, Repr

/-! ## The machine -/

/-- The state of the block, and the queue of the commands that are waiting. -/
structure State where
  table : RoleTable := {}
  mixer : MixEngine := {}
  fades : List FadeEntry := []
  cues : CueList := {}
  engine : CueEngine := {}
  foldback : Foldback := {}
  relay : Relay := {}
  monitors : Table Monitor 16 := Table.replicate 16 {}
  links : Links := {}
  attention : Attention := {}
  port : Port := {}
  resets : Resets := {}
  ending : Ending := {}
  /-- The model's own: how many free values have been read. DESIGN CHOICE at reset, log 20. -/
  freeIndex : Nat := 0
  /-- The commands that are waiting, first in, first out. -/
  pending : List Instr := []
deriving DecidableEq, Repr

/-- Reasons to stop with a fault. There are none: the spec stops the part on no command. A request it
turns away is answered with a status (R163), and every other event has an effect. -/
inductive Fault where
deriving DecidableEq, Repr

/-- Reasons to refuse. -/
inductive Refusal where
  /-- Raised by `exec` alone, for a command that has no meaning yet (safe); every command has one. -/
  | notModelled (mnemonic : String)
deriving DecidableEq, Repr

/-- What a command answers. -/
abbrev Out := Host.Outcome State Fault Refusal

/-- The machine right after a whole-device reset (each field's default above is its value after reset):
the attention flags hold the cause of the procedure alone (R166, R170), taken as POWER. DESIGN CHOICE,
log 2: the spec makes the cause and the strap inputs. -/
def State.reset : State := { attention := { flags := 1#16 } }

end Sys2Proof.Machine
end

