-- ==== Sys2Proof/Machine/Ops.lean ====
section
/-! DEFINITION. The named operations over the records of State: reading and changing one record, reading and
writing the value of an element in its owner's record, and answering a request. -/

namespace Sys2Proof.Machine

/-! ## One record of a table -/

def State.channel (s : State) (c : Fin 64) : Channel := s.table.channels.get c
def State.role (s : State) (r : Fin 64) : Role := s.table.roles.get r
def State.group (s : State) (g : Fin 16) : Group := s.table.groups.get g
def State.slot (s : State) (k : Fin 8) : Slot := s.engine.slots.get k
def State.mix (s : State) (f : Fin 12) : Mix := s.foldback.mixes.get f
def State.talkback (s : State) (t : Fin 2) : Talkback := s.foldback.talkbacks.get t
def State.station (s : State) (n : Fin 32) : Station := s.relay.stations.get n
def State.preset (s : State) (p : Fin 16) : Preset := s.relay.presets.get p
def State.monitor (s : State) (m : Fin 16) : Monitor := s.monitors.get m
def State.receiver (s : State) (n : Fin 4) : Receiver := s.links.receivers.get n
def State.output (s : State) (n : Fin 4) : OutLink := s.links.outputs.get n

def State.modChannel (s : State) (c : Fin 64) (f : Channel → Channel) : State :=
  { s with table := { s.table with channels := s.table.channels.modify c f } }
def State.modRole (s : State) (r : Fin 64) (f : Role → Role) : State :=
  { s with table := { s.table with roles := s.table.roles.modify r f } }
def State.modGroup (s : State) (g : Fin 16) (f : Group → Group) : State :=
  { s with table := { s.table with groups := s.table.groups.modify g f } }
def State.modSlot (s : State) (k : Fin 8) (f : Slot → Slot) : State :=
  { s with engine := { s.engine with slots := s.engine.slots.modify k f } }
def State.modMix (s : State) (i : Fin 12) (f : Mix → Mix) : State :=
  { s with foldback := { s.foldback with mixes := s.foldback.mixes.modify i f } }
def State.modTalkback (s : State) (t : Fin 2) (f : Talkback → Talkback) : State :=
  { s with foldback := { s.foldback with talkbacks := s.foldback.talkbacks.modify t f } }
def State.modStation (s : State) (n : Fin 32) (f : Station → Station) : State :=
  { s with relay := { s.relay with stations := s.relay.stations.modify n f } }
def State.modPreset (s : State) (p : Fin 16) (f : Preset → Preset) : State :=
  { s with relay := { s.relay with presets := s.relay.presets.modify p f } }
def State.modMonitor (s : State) (m : Fin 16) (f : Monitor → Monitor) : State :=
  { s with monitors := s.monitors.modify m f }
def State.modReceiver (s : State) (n : Fin 4) (f : Receiver → Receiver) : State :=
  { s with links := { s.links with receivers := s.links.receivers.modify n f } }
def State.modOutput (s : State) (n : Fin 4) (f : OutLink → OutLink) : State :=
  { s with links := { s.links with outputs := s.links.outputs.modify n f } }

/-- A change of the Cue Engine's fields outside its slots. -/
def State.modEngine (s : State) (f : CueEngine → CueEngine) : State := { s with engine := f s.engine }
/-- A change of the Relay Unit's fields outside its stations and presets. -/
def State.modRelay (s : State) (f : Relay → Relay) : State := { s with relay := f s.relay }
def State.modClock (s : State) (f : Clock → Clock) : State :=
  { s with links := { s.links with clock := f s.links.clock } }

/-- A change of how far the end of the interval is taken. -/
def State.modEnding (s : State) (f : Ending → Ending) : State := { s with ending := f s.ending }

/-- Whether a whole-device reset procedure is running (R170). -/
def State.inReset (s : State) : Bool := s.resets.procedure.isSome

/-! ## Elements (R40) -/

/-- The bottom of an element's range (R40): OFF for the level kinds, 0 for the attenuations. -/
def elemLo : Element → Int
  | .duck _ | .tbDuck _ => 0
  | .group _ | .role _ | .master _ | .send _ _ | .relaySend _ | .station _ | .xout _ | .xin _ | .link _ => off

/-- The top of an element's range (R40). -/
def elemHi : Element → Int
  | .group _ | .role _ | .master _ | .send _ _ | .relaySend _ => 40
  | .duck _ | .tbDuck _ => 400
  | .station _ | .xout _ | .xin _ | .link _ => 0

/-- Whether the kind has an interpolation floor (R40, R51). -/
def elemFloor : Element → Bool
  | .duck _ | .tbDuck _ => false
  | .group _ | .role _ | .master _ | .send _ _ | .relaySend _ | .station _ | .xout _ | .xin _ | .link _ => true

/-- Whether classes CUE and HOST may fade the kind (R40). -/
def elemOpen : Element → Bool
  | .group _ | .role _ | .master _ | .send _ _ | .relaySend _ | .station _ => true
  | .duck _ | .tbDuck _ | .xout _ | .xin _ | .link _ => false

/-- A target or written value brought into its element's range (R5, R40). -/
def elemClamp (el : Element) (z : Int) : Int := clampCode (elemLo el) (elemHi el) z

/-- The value of an element, in its owner's record; `none` when the element does not exist (R40, R41). -/
def State.value? (s : State) : Element → Option Int
  | .group g => some (s.group g).level
  | .role r => some (s.role r).level
  | .master f => some (s.mix f).master
  | .send f src => ((s.mix f).entries.find? (fun e => e.source = src)).map (·.level)
  | .relaySend src => (s.relay.entries.find? (fun e => e.source = src)).map (·.level)
  | .station n => some (s.station n).volume
  | .duck n => some (s.station n).duck
  | .tbDuck f => some (s.mix f).duck
  | .xout r => some (s.role r).xout
  | .xin r => some (s.role r).xin
  | .link n => some (s.receiver n).ramp

/-- Write an element's value into its owner's record, clamped to the field's range (R5, R40); an
element that does not exist is not written. -/
def State.write (s : State) (el : Element) (z : Int) : State :=
  let v := elemClamp el z
  match el with
  | .group g => s.modGroup g (fun x => { x with level := v })
  | .role r => s.modRole r (fun x => { x with level := v })
  | .master f => s.modMix f (fun x => { x with master := v })
  | .send f src => s.modMix f (fun x =>
      { x with entries := x.entries.map (fun e => if e.source = src then { e with level := v } else e) })
  | .relaySend src => s.modRelay (fun x =>
      { x with entries := x.entries.map (fun e => if e.source = src then { e with level := v } else e) })
  | .station n => s.modStation n (fun x => { x with volume := v })
  | .duck n => s.modStation n (fun x => { x with duck := v })
  | .tbDuck f => s.modMix f (fun x => { x with duck := v })
  | .xout r => s.modRole r (fun x => { x with xout := v })
  | .xin r => s.modRole r (fun x => { x with xin := v })
  | .link n => s.modReceiver n (fun x => { x with ramp := v })

/-- Whether a fade or action may be started on the element (R41, R57, R87): a SEND or RELAYSEND must exist,
and the slot of a ROLE must be ACTIVE. -/
def State.available (s : State) (el : Element) : Bool :=
  match el with
  | .role r => (s.role r).active
  | .send _ _ | .relaySend _ => (s.value? el).isSome
  | .group _ | .master _ | .station _ | .duck _ | .tbDuck _ | .xout _ | .xin _ | .link _ => true

/-! ## Answering a request -/

/-- What a block makes of a request: refused with a status and nothing changed, or the response's
payload fields and the state after (R163). -/
abbrev Answer := Except Status (List Field × State)

/-- The response becomes READY (R161, R163): a refused request has length 0 and changes nothing. -/
def respond (code : Nat) (s : State) : Answer → State
  | .ok (fields, s') => { s' with port := { s'.port with response := .ready ⟨.ok, code, fields⟩ } }
  | .error st => { s with port := { s.port with response := .ready ⟨st, code, []⟩ } }

/-- The next free value's index, counted on. -/
def State.readFree (s : State) : State := { s with freeIndex := s.freeIndex + 1 }

end Sys2Proof.Machine
end

