-- ==== Sys2Proof/Machine/Flags.lean ====
section
/-! DEFINITION. The attention conditions: raising them with their details, clearing them, and ATTN_N (10.4). -/

namespace Sys2Proof.Machine

/-- The 16 attention conditions (R166). -/
inductive Condition where
  | powerReset
  | supplyReset
  | pinReset
  | clockFallback
  | linkChange
  | cueFired
  | cueDone
  | cueForced
  | fadeSnap
  | actionSkipped
  | goIgnored
  | triggerLost
  | callChange
  | limiter
  | monitorTrip
  | holdChange
deriving DecidableEq, Repr

/-- The mask bit of a condition (R166). -/
def condBit : Condition → Fin 16
  | .powerReset => 0
  | .supplyReset => 1
  | .pinReset => 2
  | .clockFallback => 3
  | .linkChange => 4
  | .cueFired => 5
  | .cueDone => 6
  | .cueForced => 7
  | .fadeSnap => 8
  | .actionSkipped => 9
  | .goIgnored => 10
  | .triggerLost => 11
  | .callChange => 12
  | .limiter => 13
  | .monitorTrip => 14
  | .holdChange => 15

/-- The cause condition of a reset procedure (R166, R170). -/
def causeCondition : Cause → Condition
  | .power => .powerReset
  | .supply => .supplyReset
  | .pin => .pinReset

/-- A block raises a condition: its flag is set and its detail written, whatever its enable (R166). -/
def State.raise (s : State) (c : Condition) (f : Details → Details) : State :=
  { s with attention :=
      { s.attention with
        flags := s.attention.flags ||| only (condBit c)
        details := f s.attention.details } }

def raiseClockFallback (s : State) : State := s.raise .clockFallback id

/-- A link locked or was lost (R155). -/
def raiseLinkChange (n : Fin 4) (s : State) : State :=
  s.raise .linkChange (fun d => { d with links := d.links ||| only n })

def raiseCueFired (cue : Nat) (s : State) : State :=
  s.raise .cueFired (fun d => { d with fired := some cue })

/-- The cue number and the slot's skipped count (R90). -/
def raiseCueDone (cue skipped : Nat) (s : State) : State :=
  s.raise .cueDone (fun d => { d with done := some (cue, skipped) })

def raiseCueForced (cue : Nat) (s : State) : State :=
  s.raise .cueForced (fun d => { d with forced := some cue })

/-- `n` snaps at once: the snap count rises by `n`, holding at 255 (R22, R54, R55). -/
def raiseFadeSnap (n : Nat) (s : State) : State :=
  s.raise .fadeSnap (fun d => { d with snaps := min (d.snaps + n) Config.countTop })

def raiseActionSkipped (s : State) : State :=
  s.raise .actionSkipped (fun d => { d with skips := min (d.skips + 1) Config.countTop })

def raiseGoIgnored (why : IgnoreReason) (s : State) : State :=
  s.raise .goIgnored (fun d => { d with ignored := some why })

def raiseTriggerLost (s : State) : State :=
  s.raise .triggerLost (fun d => { d with lost := min (d.lost + 1) Config.countTop })

/-- A call ended (R129). -/
def raiseCallChange (p : Fin 16) (why : EndReason) (s : State) : State :=
  s.raise .callChange (fun d => { d with call := some (p, why) })

def raiseLimiter (f : Fin 12) (s : State) : State :=
  s.raise .limiter (fun d => { d with limiter := d.limiter ||| only f })

def raiseMonitorTrip (m : Fin 16) (s : State) : State :=
  s.raise .monitorTrip (fun d => { d with trips := d.trips ||| only m })

def raiseHoldChange (inForce : Bool) (s : State) : State :=
  s.raise .holdChange (fun d => { d with hold := some inForce })

/-- The details after the conditions of a mask are cleared (R167). -/
def clearDetails (mask : BitVec 16) (d : Details) : Details :=
  let clr (c : Condition) : Bool := mask.getLsbD (condBit c).val
  { links := if clr .linkChange then 0#4 else d.links
    fired := if clr .cueFired then none else d.fired
    done := if clr .cueDone then none else d.done
    forced := if clr .cueForced then none else d.forced
    snaps := if clr .fadeSnap then 0 else d.snaps
    skips := if clr .actionSkipped then 0 else d.skips
    ignored := if clr .goIgnored then none else d.ignored
    lost := if clr .triggerLost then 0 else d.lost
    call := if clr .callChange then none else d.call
    limiter := if clr .limiter then 0#12 else d.limiter
    trips := if clr .monitorTrip then 0#16 else d.trips
    hold := if clr .holdChange then none else d.hold }

/-- ATTENTION_CLEAR's change: the flag and the detail of each selected condition are cleared (R167). -/
def clearConditions (mask : BitVec 16) (s : State) : State :=
  { s with attention :=
      { s.attention with
        flags := s.attention.flags &&& ~~~mask
        details := clearDetails mask s.attention.details } }

/-- ATTN_N is low exactly when a condition is both pending and enabled, outside a reset procedure (R168). -/
def attnLow (s : State) : Bool :=
  !s.inReset && (s.attention.flags &&& s.attention.enables) != 0#16

end Sys2Proof.Machine
end

