-- ==== Sys2Proof/Machine/Fades.lean ====
section
/-! DEFINITION. The Fade Engine's shared operations (chapter 3): fade requests, direct writes, removals, stepping and
completion, with the gain and loss reports to the running-cue slots and the completion of a cue (R90). -/

namespace Sys2Proof.Machine

/-! ## Reports and the completion of cues -/

/-- A gain report naming the owner's slot raises its owned-fade count (R44, R78). -/
def gainReport : FadeOwner → State → State
  | .cue k, s => s.modSlot k (fun x => { x with owned := x.owned + 1 })
  | .host, s => s
  | .system, s => s

/-- A loss report naming the owner's slot lowers its owned-fade count (R44, R78). -/
def lossReport : FadeOwner → State → State
  | .cue k, s => s.modSlot k (fun x => { x with owned := x.owned - 1 })
  | .host, s => s
  | .system, s => s

/-- A RUNNING slot has nothing pending and owns no fade (R90). -/
def finished (x : Slot) : Bool := x.running && x.actions.isEmpty && decide (x.owned = 0)

/-- The test for completion of one slot: it becomes FREE and raises CUE_DONE (R90). -/
def settle (k : Fin 8) (s : State) : State :=
  let x := s.slot k
  if finished x then raiseCueDone (x.cue.getD 0) x.skipped (s.modSlot k (fun _ => {})) else s

/-- The test at the loss reports of a step (R90), slot by slot in ascending number. DESIGN CHOICE, log 17:
the spec leaves the order of several completions open. -/
def settleAll (s : State) : State := (List.finRange 8).foldl (fun s k => settle k s) s

/-- The same test for every slot but one that is still executing its actions (R81, R83, R85). -/
def settleOthers (k : Fin 8) (s : State) : State :=
  ((List.finRange 8).filter (fun j => j ≠ k)).foldl (fun s j => settle j s) s

/-! ## Entries -/

/-- The entry that addresses an element, if any (R42). -/
def State.entry? (s : State) (el : Element) : Option FadeEntry := s.fades.find? (fun e => e.element = el)

/-- The entry on an element is taken out of the table and its loss is reported; nothing else is written (R49). -/
def removeEntry (el : Element) (s : State) : State :=
  match s.entry? el with
  | none => s
  | some e => lossReport e.owner { s with fades := s.fades.filter (fun x => x.element ≠ el) }

/-- A direct write: the entry on the element is removed first, of whichever class, and the value is then
written (R48). -/
def directWrite (el : Element) (z : Int) (s : State) : State := (removeEntry el s).write el z

/-- A CUE entry on the element is removed; HOST and SYSTEM entries stay (R49, R92). -/
def removeCueEntry (el : Element) (s : State) : State :=
  match s.entry? el with
  | some ⟨_, .cue _, _, _, _, _⟩ => removeEntry el s
  | _ => s

/-- Which case of R45 took a fade request. -/
inductive FadeCase where
  | set
  | fading
  | snapped
deriving DecidableEq, Repr

/-- A snap: the target is written at once, and the snap count and FADE_SNAP rise (R54). -/
def snapTo (el : Element) (target : Int) (s : State) : State :=
  raiseFadeSnap 1 (directWrite el target s)

/-- A fade that starts while the end of an interval is being taken belongs to the interval that follows: its element is
noted, so that it takes no step at this end (R47, R85). -/
def noteFresh (el : Element) (s : State) : State :=
  if s.ending.due then s.modEnding (fun x => { x with fresh := el :: x.fresh }) else s

/-- A new entry, made at the element's current value, with a gain report for a CUE owner (R46). -/
def newEntry (e : FadeEntry) (s : State) : State :=
  noteFresh e.element (gainReport e.owner { s with fades := s.fades ++ [e] })

/-- An entry rewritten in place (R47). The gain report is taken before the loss report, so that a slot
that replaces its own entry is never counted at 0. DEDUCED, log 17 (R44). -/
def replaceEntry (old e : FadeEntry) (s : State) : State :=
  noteFresh e.element
    (lossReport old.owner
      (gainReport e.owner
        { s with fades := s.fades.map (fun x => if x.element = e.element then e else x) }))

/-- A fade request (R45): the target and duration are clamped, and the first case that holds decides. An
element that does not exist is refused before this (R41). -/
def fadeRequest (el : Element) (target : Int) (time : Nat) (owner : FadeOwner) (s : State) : FadeCase × State :=
  match s.value? el with
  | none => (.set, s)
  | some cur =>
    let t := elemClamp el target
    let d := min time Config.longestFade
    if d = 0 ∨ t = cur then (.set, directWrite el t s)
    else
      match s.entry? el with
      | some old => (.fading, replaceEntry old ⟨el, owner, cur, t, d, 0⟩ s)
      | none =>
        if s.fades.length < Config.fadePlaces then (.fading, newEntry ⟨el, owner, cur, t, d, 0⟩ s)
        else (.snapped, snapTo el t s)

/-! ## The end of a crossfade (R21) -/

/-- A binding ends: the channel's binding field becomes none (R3, R7). -/
def unbindChannel (c : Fin 64) (s : State) : State := s.modChannel c (fun x => { x with binding := .none })

def unbindOpt (c : Option (Fin 64)) (s : State) : State :=
  match c with
  | none => s
  | some c => unbindChannel c s

/-- The fade of XOUT r has reached its target: the releasing channel is unbound, the field becomes absent
and XOUT r is written to 0 (R21). -/
def endCrossfade (r : Fin 64) (s : State) : State :=
  directWrite (.xout r) 0
    ((unbindOpt (s.role r).releasing s).modRole r (fun x => { x with releasing := none }))

/-! ## Stepping and completion -/

/-- The owner of an element acts on the completion of its fade: the Role Table alone does (R53). -/
def ownerTold (el : Element) (s : State) : State :=
  match el with
  | .xout r => endCrossfade r s
  | .group _ | .role _ | .master _ | .send _ _ | .relaySend _ | .station _ | .duck _ | .tbDuck _ | .xin _
  | .link _ => s

/-- An entry completes: its target is written, its place freed, and the completion reported (R53). -/
def completeEntry (e : FadeEntry) (s : State) : State :=
  ownerTold e.element
    (lossReport e.owner
      (({ s with fades := s.fades.filter (fun x => x.element ≠ e.element) } : State).write e.element e.target))

/-- An OFF end is taken at the floor value when the other end lies above it (R51). -/
def interpEnd (el : Element) (this other : Int) : Int :=
  if elemFloor el = true ∧ this = off ∧ other > Config.floorLevel then Config.floorLevel else this

/-- start + trunc((target − start) × elapsed / duration), between the interpolation ends (R50, R51). -/
def interp (el : Element) (start target : Int) (elapsed duration : Nat) : Int :=
  let a := interpEnd el start target
  let b := interpEnd el target start
  a + Int.tdiv ((b - a) * elapsed) duration

/-- A CUE entry is frozen while HOLD is in force (R52). -/
def frozen (s : State) (e : FadeEntry) : Bool :=
  match e.owner with
  | .cue _ => s.engine.hold
  | .host => false
  | .system => false

/-- The entry takes no step at this end: it is frozen, and the running cues do not count at the end (R52). -/
def standsStill (s : State) (e : FadeEntry) : Bool := frozen s e && !s.ending.counted

/-- The next step of the entry brings it to its duration (R53). -/
def lastStep (e : FadeEntry) : Bool := decide (e.duration ≤ e.elapsed + 1)

/-- One entry's step at an interval end (R50). -/
def stepEntry (el : Element) (s : State) : State :=
  match s.entry? el with
  | none => s
  | some e =>
    if standsStill s e then s
    else if lastStep e then completeEntry e s
    else
      ({ s with fades := s.fades.map (fun x =>
          if x.element = el then { x with elapsed := x.elapsed + 1 } else x) } : State).write el
        (interp el e.start e.target (e.elapsed + 1) e.duration)

/-- The elements whose entries step at this end: all but those whose fades belong to the interval that follows (R47,
R50). -/
def steppingElements (s : State) : List Element :=
  (s.fades.map (fun e => e.element)).filter (fun el => !s.ending.fresh.contains el)

/-- The Fade Engine's end of a control interval: every entry of the interval that ended steps once (R50), and the slots
whose last fade this took complete (R90). -/
def stepFades (s : State) : State :=
  settleAll ((steppingElements s).foldl (fun s el => stepEntry el s) s)

/-- Forced completion: every entry the slot owns is brought to its target (R56). -/
def completeOwned (k : Fin 8) (s : State) : State :=
  (s.fades.filter (fun e => e.owner = .cue k)).foldl (fun s e => completeEntry e s) s

end Sys2Proof.Machine
end

