-- ==== Sys2Proof/Machine/Operands.lean ====
section
/-! DEFINITION. The operand forms of requests: each field kind of R164 checked against its range, with the status
of R163 that answers a value outside it, and turned into the record values of State. -/

namespace Sys2Proof.Machine

/-! ## Checks -/

/-- A check with its status (R163). -/
def require (ok : Bool) (st : Status) : Except Status Unit := if ok then .ok () else .error st

/-- A value that a check produces, with the status of its failing (R163). -/
def need {α : Type} (st : Status) : Option α → Except Status α
  | some a => .ok a
  | none => .error st

/-- An index out of range is answered BAD_INDEX (R163, R164). -/
def index (n k : Nat) : Except Status (Fin n) := need .badIndex (idx n k)

/-- An index that may be absent (R164). -/
def indexOpt (n k : Nat) : Except Status (Option (Fin n)) := need .badIndex (optIdx n k)

/-- A set mask; a bit beyond the count is answered BAD_INDEX (R164). -/
def maskOf (n m : Nat) : Except Status (BitVec n) :=
  need .badIndex (if m < 2 ^ n then some (BitVec.ofNat n m) else none)

/-- The same check on a field that may not be selected. -/
def opt {α β : Type} (f : α → Except Status β) : Option α → Except Status (Option β)
  | none => .ok none
  | some a => (f a).map some

/-- A label: its length limit, and characters from 32 to 126 (R164). -/
def labelOk (limit : Nat) (l : Label) : Bool :=
  decide (l.length ≤ limit) && l.all (fun c => decide (32 ≤ c ∧ c ≤ 126))

/-- A field that is not selected passes every check. -/
def optOk {α : Type} (p : α → Bool) : Option α → Bool
  | none => true
  | some a => p a

/-- An on/off byte (R164). -/
def onOffOk (n : Nat) : Bool := decide (n ≤ 1)

def isOn (n : Nat) : Bool := decide (n = 1)

/-- A selected value replaces the old one. -/
def pick {α : Type} (old : α) : Option α → α
  | none => old
  | some a => a

/-! ## Enumerations, numbered from 0 in the order their tables list them (R164) -/

def coverOf : Nat → Option Cover
  | 0 => some .principal
  | 1 => some .understudy
  | 2 => some .swing
  | _ => none

def coverNum : Cover → Nat
  | .principal => 0
  | .understudy => 1
  | .swing => 2

def polarityOf : Nat → Option Polarity
  | 0 => some .normal
  | 1 => some .inverted
  | _ => none

def polarityNum : Polarity → Nat
  | .normal => 0
  | .inverted => 1

def actingEdgeOf : Nat → Option ActingEdge
  | 0 => some .press
  | 1 => some .release
  | 2 => some .both
  | _ => none

def actingEdgeNum : ActingEdge → Nat
  | .press => 0
  | .release => 1
  | .both => 2

/-- 1 ROUTINE, 2 STANDARD, 3 URGENT (R164). -/
def priorityOf : Nat → Option Priority
  | 1 => some .routine
  | 2 => some .standard
  | 3 => some .urgent
  | _ => none

/-- The rank of a priority, which is also its number (R121, R164). -/
def rank : Priority → Nat
  | .routine => 1
  | .standard => 2
  | .urgent => 3

def selectionOf : Nat → Option Selection
  | 0 => some .main
  | 1 => some .backup
  | _ => none

def selectionNum : Selection → Nat
  | .main => 0
  | .backup => 1

def windowOf : Nat → Option Window
  | 0 => some .inside
  | 1 => some .below
  | 2 => some .above
  | 3 => some .outside
  | _ => none

def windowNum : Window → Nat
  | .inside => 0
  | .below => 1
  | .above => 2
  | .outside => 3

def tripActionOf : Nat → Option TripAction
  | 0 => some .notify
  | 1 => some .relayBackup
  | 2 => some .muteChannel
  | _ => none

def tripActionNum : TripAction → Nat
  | .notify => 0
  | .relayBackup => 1
  | .muteChannel => 2

def monitorStateNum : MonitorState → Nat
  | .off => 0
  | .watching => 1
  | .counting => 2
  | .tripped => 3

def linkStateNum : LinkState → Nat
  | .disabled => 0
  | .waitSync => 1
  | .locked => 2
  | .lost => 3

def goSourceNum : GoSource → Nat
  | .line => 0
  | .port => 1
  | .follow => 2

def originNum : Origin → Nat
  | .port => 0
  | .cue => 1
  | .line => 2

def endReasonNum : EndReason → Nat
  | .host => 0
  | .line => 1
  | .timeout => 2
  | .silent => 3
  | .preempted => 4
  | .displaced => 5
  | .noTarget => 6
  | .cleared => 7

/-- A level of a line. DESIGN CHOICE, log 39: no field table numbers it. -/
def lineNum : Line → Nat
  | .high => 0
  | .low => 1

/-! ## Sources, element addresses, points, slot sources (R164) -/

/-- The index of a source lies in the range of its kind. -/
def srcIndexOk (kind index : Nat) : Bool :=
  match kind with
  | 1 => (idx 64 index).isSome
  | 2 => (idx 64 index).isSome
  | 3 => (idx 8 index).isSome
  | _ => true

/-- Source kinds 1 ROLE, 2 CHANNEL, 3 PROGRAMME (R164). -/
def sourceOf (kind index : Nat) : Option Source :=
  match kind with
  | 1 => (idx 64 index).map .role
  | 2 => (idx 64 index).map .channel
  | 3 => (idx 8 index).map .programme
  | _ => none

/-- A relay main entry takes no ROLE source (R116, R117). -/
def relaySourceOf (kind index : Nat) : Option RelaySource :=
  match kind with
  | 2 => (idx 64 index).map .channel
  | 3 => (idx 8 index).map .programme
  | _ => none

def sourceKind : Source → Nat
  | .role _ => 1
  | .channel _ => 2
  | .programme _ => 3

def sourceIndex : Source → Nat
  | .role r => num r
  | .channel c => num c
  | .programme b => num b

def relaySourceKind : RelaySource → Nat
  | .channel _ => 2
  | .programme _ => 3

def relaySourceIndex : RelaySource → Nat
  | .channel c => num c
  | .programme b => num b

/-- The number of elements of a kind, as its index counts them; a RELAYSEND has no index of its own (R40). -/
def kindCount : Nat → Nat
  | 0 => 16
  | 1 => 64
  | 2 => 12
  | 3 => 12
  | 5 => 32
  | 6 => 32
  | 7 => 12
  | 8 => 64
  | 9 => 64
  | 10 => 4
  | _ => 0

/-- Every number of an address lies in the range of what it numbers (R57, R65). The index byte of a
RELAYSEND names nothing and is 0. DESIGN CHOICE, log 14. -/
def addrIndexOk (a : ElemAddr) : Bool :=
  match a.kind with
  | 0 | 1 | 2 | 5 | 6 | 7 | 8 | 9 | 10 => (idx (kindCount a.kind) a.index).isSome
  | 3 => (idx 12 a.index).isSome && srcIndexOk a.srcKind a.srcIndex
  | 4 => decide (a.index = 0) && srcIndexOk a.srcKind a.srcIndex
  | _ => true

/-- The element an address names: kinds 0 to 10 in the order of R40; source bytes 0 but for SEND and
RELAYSEND (R164). -/
def elementOf (a : ElemAddr) : Option Element :=
  let plain : Bool := decide (a.srcKind = 0 ∧ a.srcIndex = 0)
  match a.kind with
  | 0 => if plain then (idx 16 a.index).map .group else none
  | 1 => if plain then (idx 64 a.index).map .role else none
  | 2 => if plain then (idx 12 a.index).map .master else none
  | 3 => (idx 12 a.index).bind (fun f => (sourceOf a.srcKind a.srcIndex).map (.send f))
  | 4 => if a.index = 0 then (relaySourceOf a.srcKind a.srcIndex).map .relaySend else none
  | 5 => if plain then (idx 32 a.index).map .station else none
  | 6 => if plain then (idx 32 a.index).map .duck else none
  | 7 => if plain then (idx 12 a.index).map .tbDuck else none
  | 8 => if plain then (idx 64 a.index).map .xout else none
  | 9 => if plain then (idx 64 a.index).map .xin else none
  | 10 => if plain then (idx 4 a.index).map .link else none
  | _ => none

/-- The address that names an element (R164). -/
def addrOf : Element → ElemAddr
  | .group g => ⟨0, num g, 0, 0⟩
  | .role r => ⟨1, num r, 0, 0⟩
  | .master f => ⟨2, num f, 0, 0⟩
  | .send f src => ⟨3, num f, sourceKind src, sourceIndex src⟩
  | .relaySend src => ⟨4, 0, relaySourceKind src, relaySourceIndex src⟩
  | .station n => ⟨5, num n, 0, 0⟩
  | .duck n => ⟨6, num n, 0, 0⟩
  | .tbDuck f => ⟨7, num f, 0, 0⟩
  | .xout r => ⟨8, num r, 0, 0⟩
  | .xin r => ⟨9, num r, 0, 0⟩
  | .link n => ⟨10, num n, 0, 0⟩

/-- Points: 0 CHANNEL, 1 PROGRAMME, 2 MIX, 3 RELAY, 4 STATION; the index is 0 for RELAY (R164). -/
def pointIndexOk (a : PointAddr) : Bool :=
  match a.kind with
  | 0 => (idx 64 a.index).isSome
  | 1 => (idx 8 a.index).isSome
  | 2 => (idx 12 a.index).isSome
  | 3 => decide (a.index = 0)
  | 4 => (idx 32 a.index).isSome
  | _ => true

def pointOf (a : PointAddr) : Option Point :=
  match a.kind with
  | 0 => (idx 64 a.index).map .channel
  | 1 => (idx 8 a.index).map .programme
  | 2 => (idx 12 a.index).map .mix
  | 3 => if a.index = 0 then some .relay else none
  | 4 => (idx 32 a.index).map .station
  | _ => none

def pointAddr : Point → PointAddr
  | .channel c => ⟨0, num c⟩
  | .programme b => ⟨1, num b⟩
  | .mix f => ⟨2, num f⟩
  | .relay => ⟨3, 0⟩
  | .station n => ⟨4, num n⟩

/-- Output slot sources: 0 NONE, 1-8 buses, 9-20 mixes, 21 RELAY, 22-53 stations, 54 TRIGGER; above 54
BAD_INDEX (R164). -/
def slotSourceOf (n : Nat) : Option SlotSource :=
  if n = 0 then some .none
  else if n ≤ 8 then (idx 8 n).map .programme
  else if n ≤ 20 then (idx 12 (n - 8)).map .mix
  else if n = 21 then some .relay
  else if n ≤ 53 then (idx 32 (n - 21)).map .station
  else if n = 54 then some .trigger
  else none

def slotSourceNum : SlotSource → Nat
  | .none => 0
  | .programme b => num b
  | .mix f => 8 + num f
  | .relay => 21
  | .station n => 21 + num n
  | .trigger => 54

/-! ## Actions and cues (R62 to R65) -/

def bodyIndexOk : RawBody → Bool
  | .level a _ _ => addrIndexOk a
  | .member r g => (idx 64 r).isSome && (optIdx 16 g).isSome
  | .route r b => (idx 64 r).isSome && decide (b < 256)
  | .call p => (idx 16 p).isSome
  | .trigger _ => true
  | .unknown _ => true

/-- The action a body asks for, its target and fade time clamped (R63); `none` for a value that R65
answers INVALID. -/
def bodyOf : RawBody → Option ActionBody
  | .level a target time =>
    (elementOf a).bind (fun el =>
      if elemOpen el then some (.level el (elemClamp el target) (min time Config.longestFade)) else none)
  | .member r g => (idx 64 r).bind (fun r => (optIdx 16 g).map (.member r))
  | .route r b => (idx 64 r).map (fun r => .route r (BitVec.ofNat 8 b))
  | .call p => (idx 16 p).map .call
  | .trigger c => if 1 ≤ c ∧ c ≤ 255 then some (.trigger c) else none
  | .unknown _ => none

/-- The delay is clamped when stored (R62). -/
def actionOf (a : RawAction) : Option Action :=
  (bodyOf a.body).map (fun b => ⟨min a.delay Config.longestFade, b⟩)

/-- Every action of a list, or none when one of them is refused. -/
def actionsOf : List RawAction → Option (List Action)
  | [] => some []
  | a :: rest => (actionOf a).bind (fun x => (actionsOf rest).map (x :: ·))

/-- A cue number is an integer from 1 to 9999 (R60). -/
def cueNumberOk (n : Nat) : Bool := decide (1 ≤ n ∧ n ≤ 9999)

/-- The record CUE_STORE stores, clamped (R61 to R65); `none` for a value that R65 answers INVALID. -/
def cueOf (c : RawCue) : Option Cue :=
  if labelOk 16 c.label && decide (c.follow ≤ 1) && decide (1 ≤ c.actions.length ∧ c.actions.length ≤ 16) then
    (actionsOf c.actions).map (fun as =>
      { number := c.number
        label := c.label
        follow := if c.follow = 1 then some (min c.followTime Config.longestFade) else none
        actions := as })
  else none

end Sys2Proof.Machine
end

