-- ==== Sys2Proof/Machine/Calls.lean ====
section
/-! DEFINITION. The Relay Unit's shared operations on calls (7.4 to 7.7): requests, the queue, activation, handover
and endings; and the backup request (R118). -/

namespace Sys2Proof.Machine

/-- Membership of a set. -/
def inSet {n : Nat} (m : BitVec n) (i : Fin n) : Bool := m.getLsbD i.val

/-- The set of the members that satisfy a test. -/
def setWhere {n : Nat} (p : Fin n → Bool) : BitVec n :=
  (List.finRange n).foldl (fun m i => if p i then m ||| only i else m) 0#n

/-! ## Resolving a target and choosing the next call -/

/-- Some ACTIVE role of the set has the station in its station field (R127). -/
def roleStation (set : BitVec 64) (n : Fin 32) (s : State) : Bool :=
  (List.finRange 64).any (fun r => inSet set r && (s.role r).active && decide ((s.role r).station = some n))

/-- The target names the station (R127). -/
def targets (t : CallTarget) (n : Fin 32) (s : State) : Bool :=
  match t with
  | .all => true
  | .stations set => inSet set n
  | .roles set => roleStation set n s

/-- The station set a preset's target resolves to, from the records as they stand: the stations named
whose calls enabled is on (R127). -/
def resolve (p : Fin 16) (s : State) : BitVec 32 :=
  setWhere (fun n => (s.station n).calls && targets (s.preset p).target n s)

/-- The first call whose resolved set is not empty, the calls left behind it, and the presets whose calls
ended NO_TARGET on the way, in order (R127, R129). -/
def pickCall (s : State) : List Call → Option ActiveCall × List Call × List (Fin 16)
  | [] => (none, [], [])
  | c :: rest =>
    let set := resolve c.preset s
    if set = 0#32 then
      let (a, q, gone) := pickCall s rest
      (a, q, c.preset :: gone)
    else (some { call := c, stations := set }, rest, [])

/-! ## Handover (R128) -/

/-- One station's part of a handover from set `o` to set `n`. -/
def handoverStation (o n : BitVec 32) (depth : Int) (s : State) (st : Fin 32) : State :=
  if inSet n st then
    (fadeRequest (.duck st) depth 100 .system (s.modStation st (fun x => { x with inCall := true }))).2
  else if inSet o st then
    (fadeRequest (.duck st) 0 250 .system (s.modStation st (fun x => { x with inCall := false }))).2
  else s

/-- The stations are taken in ascending number (R128). -/
def handover (o n : BitVec 32) (depth : Int) (s : State) : State :=
  (List.finRange 32).foldl (handoverStation o n depth) s

def activeSet : Option ActiveCall → BitVec 32
  | none => 0#32
  | some a => a.stations

def activeDepth (s : State) : Option ActiveCall → Int
  | none => 0
  | some a => (s.preset a.call.preset).depth

/-- The first of `calls` that holds a station becomes the active call, each call passed over ends
NO_TARGET, and one handover is made from the set `o` (R127, R129). -/
def advance (o : BitVec 32) (calls : List Call) (s : State) : State :=
  let (a, q, gone) := pickCall s calls
  let s1 := gone.foldl (fun s p => raiseCallChange p .noTarget s) s
  let s2 := s1.modRelay (fun x => { x with active := a, queue := q })
  handover o (activeSet a) (activeDepth s a) s2

/-- The active call ends, and the head of the queue replaces it in the same step (R129). -/
def endActive (why : EndReason) (s : State) : State :=
  match s.relay.active with
  | none => s
  | some a => advance a.stations s.relay.queue (raiseCallChange a.call.preset why s)

/-- A pending call of the preset leaves the queue; no station changes (R129). -/
def endPending (p : Fin 16) (why : EndReason) (s : State) : State :=
  raiseCallChange p why
    (s.modRelay (fun x => { x with queue := x.queue.filter (fun c => c.preset ≠ p) }))

/-! ## Requests (R123 to R126) -/

/-- The preset's call is the active one. -/
def callActive (p : Fin 16) (s : State) : Bool :=
  match s.relay.active with
  | none => false
  | some a => decide (a.call.preset = p)

def callPending (p : Fin 16) (s : State) : Bool := s.relay.queue.any (fun c => decide (c.preset = p))

/-- The preset has a call pending or active (R121, R123). -/
def callLives (p : Fin 16) (s : State) : Bool := callActive p s || callPending p s

/-- A call's age: the arrival counter less its serial, modulo 2^32 (R122). -/
def callAge (s : State) (c : Call) : Nat := (s.relay.arrivals - c.serial).toNat

/-- The latest-arrived call of the lowest priority among the pending calls (R125). -/
def victim (s : State) : List Call → Option Call
  | [] => none
  | c :: rest =>
    match victim s rest with
    | none => some c
    | some d =>
      if rank c.priority < rank d.priority then some c
      else if rank c.priority = rank d.priority ∧ callAge s c < callAge s d then some c
      else some d

/-- The place after every pending call of its own or higher priority and before every call of lower
priority (R126). -/
def enqueue (c : Call) : List Call → List Call
  | [] => [c]
  | d :: rest => if rank c.priority ≤ rank d.priority then d :: enqueue c rest else c :: d :: rest

/-- A call's place in the queue, from 1. -/
def placeOf (c : Call) (q : List Call) : Nat := q.findIdx (fun d => decide (d = c)) + 1

/-- What became of an accepted call (R123). -/
inductive CallOutcome where
  | active
  | pending (place : Nat)
  | ended
deriving DecidableEq, Repr

/-- What the Relay Unit answers to a call request (R123); `other` is the preset of the call displaced
or preempted. -/
inductive CallReply where
  | presetEmpty
  | inUse
  | full
  | accepted (serial : BitVec 32) (outcome : CallOutcome) (other : Option (Fin 16))
deriving DecidableEq, Repr

/-- The outcome of a call that was activated at once: it is the active call, or it ended NO_TARGET. -/
def activationOutcome (c : Call) (s : State) : CallOutcome :=
  match s.relay.active with
  | some a => if a.call = c then .active else .ended
  | none => .ended

/-- The queue without the call that is displaced. -/
def without (d : Call) (q : List Call) : List Call := q.filter (fun c => c ≠ d)

/-- An accepted call joins the queue, displacing the latest of the lowest priority when eight calls are
pending (R125, R126); `none` when it cannot. -/
def joinQueue (c : Call) (s : State) : Option (State × Option (Fin 16)) :=
  if s.relay.queue.length < Config.callPlaces then
    some (s.modRelay (fun x => { x with queue := enqueue c x.queue }), none)
  else
    match victim s s.relay.queue with
    | none => none
    | some d =>
      if rank d.priority < rank c.priority then
        some (raiseCallChange d.preset .displaced
          (s.modRelay (fun x => { x with queue := enqueue c (without d x.queue) })), some d.preset)
      else none

/-- The Relay Unit counts an accepted request: the arrival counter rises and is its serial (R122). -/
def countArrival (s : State) : State := s.modRelay (fun x => { x with arrivals := x.arrivals + 1#32 })

/-- A call request of any origin (R123 to R125, R137). -/
def callRequest (p : Fin 16) (origin : Origin) (s : State) : CallReply × State :=
  if (s.preset p).source.isNone then (.presetEmpty, s)
  else if callLives p s then (.inUse, s)
  else
    let c : Call := ⟨p, origin, s.relay.arrivals + 1#32, (s.preset p).priority⟩
    match s.relay.active with
    | none =>
      let s' := advance 0#32 (c :: s.relay.queue) (countArrival s)
      (.accepted c.serial (activationOutcome c s') none, s')
    | some a =>
      if c.priority = .urgent ∧ rank a.call.priority < rank .urgent then
        let s' := advance a.stations (c :: s.relay.queue)
          (raiseCallChange a.call.preset .preempted (countArrival s))
        (.accepted c.serial (activationOutcome c s') (some a.call.preset), s')
      else
        match joinQueue c s with
        | none => (.full, s)
        | some (s', other) =>
          (.accepted c.serial (.pending (placeOf c s'.relay.queue)) other, countArrival s')

/-- The request was accepted (R88, R123). -/
def CallReply.isAccepted : CallReply → Bool
  | .accepted _ _ _ => true
  | .presetEmpty | .inUse | .full => false

/-! ## Limits (R132) -/

/-- The measured points in the order of R36. -/
def pointIndex : Point → Fin 117
  | .channel c => ⟨c.val, by omega⟩
  | .programme b => ⟨64 + b.val, by omega⟩
  | .mix f => ⟨72 + f.val, by omega⟩
  | .relay => ⟨84, by omega⟩
  | .station n => ⟨85 + n.val, by omega⟩

/-- The last completed peak of a point (R38). -/
def State.peak (s : State) (p : Point) : Int := s.mixer.peaks.get (pointIndex p)

/-- The talk source's peak for the interval just ended is silent (R132). -/
def talkSilent (a : ActiveCall) (s : State) : Bool :=
  match (s.preset a.call.preset).source with
  | none => true
  | some c => decide (s.peak (.channel c) ≤ Config.silentPeak)

/-- The active call's silence time after one more interval end (R132). -/
def silenceAfter (a : ActiveCall) (s : State) : Nat :=
  if (s.preset a.call.preset).silence = 0 then a.silenceTime
  else if talkSilent a s then a.silenceTime + 1 else 0

/-- The next interval end brings the active time to the maximum length (R132). -/
def timesOut (a : ActiveCall) (s : State) : Bool :=
  decide ((s.preset a.call.preset).maxLength ≤ a.activeTime + 1)

/-- The next interval end brings the silence time to the silence limit (R132). -/
def fallsSilent (a : ActiveCall) (s : State) : Bool :=
  decide ((s.preset a.call.preset).silence ≠ 0 ∧ (s.preset a.call.preset).silence ≤ silenceAfter a s)

/-- The Relay Unit's end of a control interval; TIMEOUT goes before SILENT (R132). -/
def countCall (s : State) : State :=
  match s.relay.active with
  | none => s
  | some a =>
    if timesOut a s then endActive .timeout s
    else if fallsSilent a s then endActive .silent s
    else s.modRelay (fun x =>
      { x with active := some { a with activeTime := a.activeTime + 1, silenceTime := silenceAfter a s } })

/-! ## Backup (R118) -/

/-- A backup request sets BACKUP when the selection is MAIN and a backup channel is set (R118). -/
def backupRequest (s : State) : State :=
  if s.relay.selection = .main ∧ s.relay.backup.isSome then
    s.modRelay (fun x => { x with selection := .backup })
  else s

end Sys2Proof.Machine
end

