-- ==== Sys2Proof/Machine/Cues.lean ====
section
/-! DEFINITION. The Cue Engine's shared operations (chapter 5): the safe check, executing an action, forced completion,
GO, HOLD, the show-input filters, and the three stages of an interval end. -/

namespace Sys2Proof.Machine

/-! ## Safes (R86, R92) -/

/-- The flag that covers an element a cue may move, by its bit in the safe set (R86, R164). -/
def elemFlag : Element → Option (Fin 125)
  | .group g => some ⟨g.val, by omega⟩
  | .role r => some ⟨16 + r.val, by omega⟩
  | .master f => some ⟨80 + f.val, by omega⟩
  | .send f _ => some ⟨80 + f.val, by omega⟩
  | .station n => some ⟨92 + n.val, by omega⟩
  | .relaySend _ => some ⟨124, by omega⟩
  | .duck _ | .tbDuck _ | .xout _ | .xin _ | .link _ => none

/-- The one flag that covers what an action changes; CALL and TRIGGER have none (R86). -/
def safeFlag : ActionBody → Option (Fin 125)
  | .level el _ _ => elemFlag el
  | .member r _ => some ⟨16 + r.val, by omega⟩
  | .route r _ => some ⟨16 + r.val, by omega⟩
  | .call _ => none
  | .trigger _ => none

/-- The flag, if there is one, is set. -/
def flagSet (safes : BitVec 125) : Option (Fin 125) → Bool
  | none => false
  | some i => inSet safes i

/-! ## Actions (R85 to R91) -/

/-- An action that cannot act on what it names: the slot's and the engine's counts rise (R89). -/
def skipAction (k : Fin 8) (s : State) : State :=
  raiseActionSkipped (s.modSlot k (fun x => { x with skipped := x.skipped + 1 }))

/-- A TRIGGER appends its code, or drops it when the queue holds 16 (R88, R91). -/
def pushTrigger (code : Nat) (s : State) : State :=
  if s.engine.triggers.length < Config.triggerPlaces then
    s.modEngine (fun x => { x with triggers := x.triggers ++ [code] })
  else raiseTriggerLost s

/-- An action that passed the safe check (R87 to R89); in a forced completion every fade time is taken
as 0 (R83). -/
def actOn (k : Fin 8) (forced : Bool) (b : ActionBody) (s : State) : State :=
  match b with
  | .level el target time =>
    if s.available el then (fadeRequest el target (if forced then 0 else time) (.cue k) s).2
    else skipAction k s
  | .member r g =>
    if (s.role r).active then s.modRole r (fun x => { x with group := g }) else skipAction k s
  | .route r b =>
    if (s.role r).active then s.modRole r (fun x => { x with buses := b }) else skipAction k s
  | .call p =>
    let (reply, s') := callRequest p .cue s
    if reply.isAccepted then s' else skipAction k s
  | .trigger c => pushTrigger c s

/-- An action whose flag is set at the moment it executes is skipped silently (R86). -/
def execAction (k : Fin 8) (forced : Bool) (a : Action) (s : State) : State :=
  if flagSet s.engine.safes (safeFlag a.body) then s else actOn k forced a.body s

/-- The action is due: nothing of its delay remains. -/
def due (p : PendingAction) : Bool := decide (p.remaining = 0)

/-- The first due action leaves the slot's pending list. -/
def dropDue (k : Fin 8) (s : State) : State := s.modSlot k (fun x => { x with actions := x.actions.eraseP due })

/-- The due actions of a slot execute in list order and leave its list (R81, R85); a cue whose fade one of
them took completes at that loss report (R90). -/
def runDue (k : Fin 8) (s : State) : State :=
  ((s.slot k).actions.filter due).foldl
    (fun s p => settleOthers k (dropDue k (execAction k false p.action s))) s

/-! ## Slots (R78, R79) -/

/-- The age of a slot, modulo 2^32 (R79). -/
def slotAge (s : State) (k : Fin 8) : Nat := (s.engine.serial - (s.slot k).serial).toNat

def insertByAge (s : State) (k : Fin 8) : List (Fin 8) → List (Fin 8)
  | [] => [k]
  | j :: rest => if slotAge s j < slotAge s k then k :: j :: rest else j :: insertByAge s k rest

/-- The RUNNING slots from the oldest to the youngest (R79, R85). -/
def slotsByAge (s : State) : List (Fin 8) :=
  ((List.finRange 8).filter (fun k => (s.slot k).running)).foldr (insertByAge s) []

/-- The lowest-numbered FREE slot (R81). -/
def freeSlot (s : State) : Option (Fin 8) := (List.finRange 8).find? (fun k => !(s.slot k).running)

/-- Forced completion (R83): the pending actions execute at once, the owned entries are completed, and the
slot becomes FREE with CUE_FORCED. -/
def forceComplete (k : Fin 8) (s : State) : State :=
  let s1 := (s.slot k).actions.foldl (fun s p => settleOthers k (execAction k true p.action s)) s
  raiseCueForced ((s.slot k).cue.getD 0) ((completeOwned k s1).modSlot k (fun _ => {}))

/-- Before the take, the oldest running cue is force-completed when all eight slots run; the number of the
cue forced (R81, R83). -/
def makeRoom (s : State) : Option Nat × State :=
  match freeSlot s with
  | some _ => (none, s)
  | none =>
    match slotsByAge s with
    | [] => (none, s)
    | k :: _ => ((s.slot k).cue, forceComplete k s)

/-! ## GO (R80, R81) -/

/-- The smallest cue number above `n` in the list, or END (R71). -/
def nextAbove (n : Nat) (cues : List Cue) : Option Nat := (cues.find? (fun c => n < c.number)).map (·.number)

/-- The record of a number (R60). -/
def findCue (n : Nat) (s : State) : Option Cue := s.cues.cues.find? (fun c => c.number = n)

/-- The cue the standby pointer names (R70). -/
def standbyCue (s : State) : Option Cue := s.cues.standby.bind (fun n => findCue n s)

/-- What a fired GO reports (R84). -/
structure GoReport where
  cue : Nat
  slot : Fin 8
  serial : BitVec 32
  standby : Option Nat
  forced : Option Nat
  completed : Bool
deriving DecidableEq, Repr

/-- A slot made RUNNING by a GO (R81, stage 3). -/
def firedSlot (cue : Cue) (serial : BitVec 32) (src : GoSource) : Slot :=
  { running := true
    cue := some cue.number
    serial := serial
    source := some src
    actions := cue.actions.map (fun a => ⟨a, a.delay⟩) }

/-- Stages 2 to 5 of a fired GO: the take, the slot, the timer and the follow compare (R71, R81). -/
def startCue (k : Fin 8) (src : GoSource) (cue : Cue) (s : State) : State :=
  let serial := s.engine.serial + 1#32
  let s1 : State := { s with cues := { s.cues with standby := nextAbove cue.number s.cues.cues } }
  (s1.modEngine (fun x =>
    { x with serial := serial, lastInterval := x.timer, timer := 0, follow := cue.follow })).modSlot k
      (fun _ => firedSlot cue serial src)

/-- A fired GO, all stages (R81). The slot falls back to the first when none is free, which no state that
keeps R78 meets. -/
def fireGo (src : GoSource) (cue : Cue) (s : State) : GoReport × State :=
  let (forced, s0) := makeRoom s
  let k := (freeSlot s0).getD 0
  let s1 := startCue k src cue s0
  let s2 := settle k (raiseCueFired cue.number (runDue k s1))
  (⟨cue.number, k, s1.engine.serial, s1.cues.standby, forced, !(s2.slot k).running⟩, s2)

/-- A GO from any source: turned away under HOLD, then at END, and otherwise fired (R80). -/
def goEvent (src : GoSource) (s : State) : Except IgnoreReason (GoReport × State) :=
  if s.engine.hold then .error .held
  else
    match standbyCue s with
    | none => .error .ended
    | some cue => .ok (fireGo src cue s)

/-- A GO from a line or from the follow compare: when it is turned away GO_IGNORED is raised (R80). -/
def goUnasked (src : GoSource) (s : State) : State :=
  match goEvent src s with
  | .error why => raiseGoIgnored why s
  | .ok (_, s') => s'

/-! ## HOLD (R97) -/

def takeHold (s : State) : State :=
  if s.engine.hold then s else raiseHoldChange true (s.modEngine (fun x => { x with hold := true }))

def releaseHold (s : State) : State :=
  if s.engine.hold then raiseHoldChange false (s.modEngine (fun x => { x with hold := false })) else s

/-! ## The end of an interval, stage 1: the slots (R85) -/

/-- A RUNNING slot counts: elapsed rises by 1 and every remaining delay falls by 1 (R85). -/
def countSlot (k : Fin 8) (s : State) : State :=
  s.modSlot k (fun x =>
    { x with
      elapsed := min (x.elapsed + 1) Config.timerTop
      actions := x.actions.map (fun p => { p with remaining := p.remaining - 1 }) })

/-- One slot's part of stage 1: count, execute what falls due, test for completion (R85, R90). -/
def slotEnd (s : State) (k : Fin 8) : State :=
  if (s.slot k).running then settle k (runDue k (countSlot k s)) else s

/-- Stage 1, from the oldest slot to the youngest; under HOLD nothing counts (R82, R85, R97). -/
def countSlots (s : State) : State := if s.engine.hold then s else (slotsByAge s).foldl slotEnd s

/-! ## Stage 2: the timer and the follow compare (R94, R95) -/

/-- An armed compare has reached its time, or 1 when that is 0 (R95). -/
def followReached (follow : Option Nat) (timer : Nat) : Bool :=
  match follow with
  | none => false
  | some t => decide (max t 1 ≤ timer)

/-- The compare disarms and gives a GO with source FOLLOW (R95). -/
def fireFollow (s : State) : State := goUnasked .follow (s.modEngine (fun x => { x with follow := none }))

def countTimer (s : State) : State :=
  if s.engine.hold then s
  else
    let s1 := s.modEngine (fun x => { x with timer := min (x.timer + 1) Config.timerTop })
    if followReached s1.engine.follow s1.engine.timer then fireFollow s1 else s1

/-! ## Stages 1 and 2 of one end -/

/-- Stages 1 and 2 of R82, taken once at an end. -/
def takeCounts (s : State) : State := (countTimer (countSlots s)).modEnding (fun x => { x with counted := true })

/-! ## Stage 3: the show inputs (R75, R76) -/

/-- One sample of a line: the new filter and the edge it accepted, if any (R75). -/
def sampleInput (i : ShowInput) : ShowInput × Option Edge :=
  if !i.primed then ({ i with accepted := i.line, primed := true, count := 0 }, none)
  else if i.line = i.accepted then ({ i with count := 0 }, none)
  else if i.length ≤ i.count + 1 then
    ({ i with accepted := i.line, count := 0 }, some (if i.line = .low then .press else .release))
  else ({ i with count := i.count + 1 }, none)

/-- An edge of an enabled input acts when it is the acting edge or the acting edge is BOTH (R76). -/
def edgeActs (i : ShowInput) (e : Edge) : Bool :=
  i.enable &&
    match i.edge with
    | .both => true
    | .press => decide (e = .press)
    | .release => decide (e = .release)

/-- A CALL_N press submits a call request for preset 1 with origin LINE (R76, R123). -/
def callPress (s : State) : State := (callRequest 0 .line s).2

/-- A CALL_N release ends the LINE-origin call on preset 1, if one lives (R131). -/
def callRelease (s : State) : State :=
  match s.relay.active with
  | some a =>
    if a.call.preset = 0 ∧ a.call.origin = .line then endActive .line s
    else if s.relay.queue.any (fun c => decide (c.preset = 0 ∧ c.origin = .line)) then endPending 0 .line s
    else s
  | none =>
    if s.relay.queue.any (fun c => decide (c.preset = 0 ∧ c.origin = .line)) then endPending 0 .line s else s

def holdEdge (e : Edge) (s : State) : State := if edgeActs s.engine.holdInput e then takeHold s else s

def goEdge (e : Edge) (s : State) : State := if edgeActs s.engine.goInput e then goUnasked .line s else s

def callEdge (e : Edge) (s : State) : State :=
  if edgeActs s.engine.callInput e then
    match e with
    | .press => callPress s
    | .release => callRelease s
  else s

def onEdge (f : Edge → State → State) (e : Option Edge) (s : State) : State :=
  match e with
  | none => s
  | some e => f e s

/-- HOLD_N is sampled, and its acting edge taken (R75, R76). -/
def sampleHold (s : State) : State :=
  let h := sampleInput s.engine.holdInput
  onEdge holdEdge h.2 (s.modEngine (fun x => { x with holdInput := h.1 }))

/-- The same of GO_N. -/
def sampleGo (s : State) : State :=
  let g := sampleInput s.engine.goInput
  onEdge goEdge g.2 (s.modEngine (fun x => { x with goInput := g.1 }))

/-- The same of CALL_N. -/
def sampleCall (s : State) : State :=
  let c := sampleInput s.engine.callInput
  onEdge callEdge c.2 (s.modEngine (fun x => { x with callInput := c.1 }))

/-- Stage 3: the three lines are sampled and the acting edges taken, HOLD_N before GO_N (R76, R82). DESIGN CHOICE, log 31:
the edge of CALL_N is taken after both. -/
def sampleInputs (s : State) : State := sampleCall (sampleGo (sampleHold s))

end Sys2Proof.Machine
end

