-- ==== Sys2Proof/Machine/Mixing.lean ====
section
/-! DEFINITION. The Mix Engine (chapter 2): the multiplier table, effective levels, the accumulation of a destination,
the three stages of a frame, and the peak codes. -/

namespace Sys2Proof.Machine

/-! ## The multiplier table and the thresholds (R32, R37) -/

/-- `m` less one half is not above `c` × 10^(q/80), compared exactly on 80th powers. -/
def halfBelow (c : Nat) (q : Int) (m : Nat) : Bool :=
  decide ((2 * m - 1) ^ 80 * 10 ^ (-q).toNat ≤ (2 * c) ^ 80 * 10 ^ q.toNat)

/-- The largest number below 2^bits, built on `r`, that is not more than one half above `c` × 10^(q/80). -/
def nearestFrom (c : Nat) (q : Int) : Nat → Nat → Nat
  | 0, r => r
  | b + 1, r => nearestFrom c q b (if halfBelow c q (r + 2 ^ b) then r + 2 ^ b else r)

/-- `c` × 10^(q/80) rounded to the nearest integer, ties away from zero, for results below 2^26. -/
def nearest (c : Nat) (q : Int) : Nat := nearestFrom c q 26 0

/-- The multiplier M(q) of a level code (R32). -/
def gain (q : Int) : Int := if q ≤ off then 0 else (nearest 4194304 q : Int)

/-- The threshold t(q) of a peak code (R37). -/
def threshold (q : Int) : Nat := nearest 8388608 q

/-- The largest of the codes `q`, `q` − 1, … (`n` of them) whose threshold is at most `m`, or −400. -/
def peakFrom (m : Nat) : Nat → Int → Int
  | 0, _ => off
  | n + 1, q => if threshold q ≤ m then q else peakFrom m n (q - 1)

/-- The peak code of a largest magnitude (R37). -/
def peakCode (m : Nat) : Int := if m = 0 then off else peakFrom m 400 0

/-! ## Effective levels (R23, R31) -/

/-- The clamp: −400 or below is OFF, above +48 is +48 (R23, R31). -/
def clampLevel (z : Int) : Int := clampCode off 48 z

/-- The effective level of a term: OFF when the channel is muted or a level component is OFF; otherwise the
sum of the components less the attenuations, clamped (R23). -/
def effective (muted : Bool) (components attenuations : List Int) : Int :=
  if muted || components.contains off then off
  else clampLevel (components.sum - attenuations.sum)

/-- A term: a source sample and the effective level it is used at. -/
structure Term where
  sample : Int
  level : Int
deriving DecidableEq, Repr

/-! ## Accumulation, rounding and saturation (R33) -/

def lowest : Int := -8388608
def highest : Int := 8388607

/-- The sum is saturated to the sample range (R33). -/
def saturate (z : Int) : Int := clampCode lowest highest z

/-- Half an output step is added and the sum is shifted right 22 bits with floor (R33). -/
def roundShift (acc : Int) : Int := (acc + 2097152) / 4194304

/-- The accumulator of a destination: every product at full precision. The sum of R33 never reaches 2^55,
so the 56-bit accumulator is this exact sum. DEDUCED, log 19 (R33). -/
def accumulate (terms : List Term) : Int := (terms.map (fun t => t.sample * gain t.level)).sum

/-- The sample of a destination (R33). -/
def mixDown (terms : List Term) : Int := saturate (roundShift (accumulate terms))

/-! ## The channel's part (R2, R24) -/

/-- The input link that carries a channel, and its slot on it (0.5.1, R153). -/
def linkOf (c : Fin 64) : Fin 4 := ⟨c.val / 16, by omega⟩
def slotOf (c : Fin 64) : Fin 16 := ⟨c.val % 16, by omega⟩

/-- The 16 samples a receiver supplies to a part frame (R153). -/
def supplied (r : Receiver) : Table Int 16 :=
  match r.state with
  | .locked =>
    match r.newest with
    | some f => f
    | none => if r.missed < Config.missedTop then r.held else Table.replicate 16 0
  | .disabled | .waitSync | .lost => Table.replicate 16 0

/-- Inversion, with the most negative sample taken to the largest positive one (R2). -/
def withPolarity (p : Polarity) (x : Int) : Int :=
  match p with
  | .normal => x
  | .inverted => if x = lowest then highest else -x

/-- The sample the Mix Engine uses for a channel, given what the links supply (R2, R24). -/
def sourceSample (input : Table (Table Int 16) 4) (s : State) (c : Fin 64) : Int :=
  withPolarity (s.channel c).polarity ((input.get (linkOf c)).get (slotOf c))

/-- A term that draws on a channel: its trim and LINK go with the destination's components (R24). -/
def channelTerm (input : Table (Table Int 16) 4) (s : State) (c : Fin 64) (components attenuations : List Int) :
    Term :=
  ⟨sourceSample input s c,
   effective (s.channel c).mute
     ((s.channel c).trim :: (s.receiver (linkOf c)).ramp :: components) attenuations⟩

/-! ## Terms by destination (R25 to R30) -/

/-- The level of a group, or 0 when the field is absent (R3, R23). -/
def groupTerm (s : State) : Option (Fin 16) → Int
  | none => 0
  | some g => (s.group g).level

/-- The term of an optional channel. -/
def optTerm (c : Option (Fin 64)) (f : Fin 64 → Term) : List Term :=
  match c with
  | none => []
  | some c => [f c]

/-- What role `r` feeds into bus `b` (R25). -/
def roleBusTerms (input : Table (Table Int 16) 4) (s : State) (b : Fin 8) (r : Fin 64) : List Term :=
  let x := s.role r
  if x.active && inSet x.buses b then
    optTerm x.channel (fun c => channelTerm input s c [x.level, groupTerm s x.group, x.xin] []) ++
    optTerm x.releasing (fun c => channelTerm input s c [x.level, groupTerm s x.group, x.xout] [])
  else []

/-- What an unbound channel feeds into bus `b` (R26). -/
def directBusTerms (input : Table (Table Int 16) 4) (s : State) (b : Fin 8) (c : Fin 64) : List Term :=
  let x := s.channel c
  if decide (x.binding = .none) && inSet x.directBuses b then
    [channelTerm input s c [x.directLevel, groupTerm s x.directGroup] []]
  else []

def busTerms (input : Table (Table Int 16) 4) (s : State) (b : Fin 8) : List Term :=
  (List.finRange 64).flatMap (roleBusTerms input s b) ++ (List.finRange 64).flatMap (directBusTerms input s b)

/-- The terms of one entry of mix `f` (R27, R103). -/
def entryTerms (input : Table (Table Int 16) 4) (bus : Table Int 8) (s : State) (f : Fin 12) (e : MixEntry) :
    List Term :=
  let m := s.mix f
  let att : List Int := [(m.protect : Int), m.duck]
  match e.source with
  | .role r =>
    let x := s.role r
    if x.active then
      optTerm x.channel (fun c => channelTerm input s c [e.level, x.xin, m.master] att) ++
      optTerm x.releasing (fun c => channelTerm input s c [e.level, x.xout, m.master] att)
    else []
  | .channel c => [channelTerm input s c [e.level, m.master] att]
  | .programme b => [⟨bus.get b, effective false [e.level, m.master] att⟩]

/-- The term of a talkback record that is ON with a source, in a target mix (R28). -/
def talkbackTerms (input : Table (Table Int 16) 4) (s : State) (f : Fin 12) (t : Fin 2) : List Term :=
  let x := s.talkback t
  if x.on && inSet x.targets f then
    optTerm x.source (fun c => channelTerm input s c [x.level] [((s.mix f).protect : Int)])
  else []

def mixTerms (input : Table (Table Int 16) 4) (bus : Table Int 8) (s : State) (f : Fin 12) : List Term :=
  (s.mix f).entries.flatMap (entryTerms input bus s f) ++ (List.finRange 2).flatMap (talkbackTerms input s f)

def relayEntryTerm (input : Table (Table Int 16) 4) (bus : Table Int 8) (s : State) (e : RelayEntry) : Term :=
  match e.source with
  | .channel c => channelTerm input s c [e.level] []
  | .programme b => ⟨bus.get b, effective false [e.level] []⟩

/-- The terms of RLY (R29). -/
def relayTerms (input : Table (Table Int 16) 4) (bus : Table Int 8) (s : State) : List Term :=
  match s.relay.selection with
  | .main => s.relay.entries.map (relayEntryTerm input bus s)
  | .backup => optTerm s.relay.backup (fun c => channelTerm input s c [s.relay.backupLevel] [])

/-- The term of the active call in a station of its set (R30). -/
def callTerms (input : Table (Table Int 16) 4) (s : State) (n : Fin 32) : List Term :=
  match s.relay.active with
  | none => []
  | some a =>
    if inSet a.stations n then
      optTerm (s.preset a.call.preset).source
        (fun c => channelTerm input s c [(s.preset a.call.preset).gain] [])
    else []

/-- The terms of a station (R30). -/
def stationTerms (input : Table (Table Int 16) 4) (rly : Int) (s : State) (n : Fin 32) : List Term :=
  let x := s.station n
  (if x.programme then [⟨rly, effective false [x.volume] [x.duck]⟩] else []) ++ callTerms input s n

/-! ## The frame (R34, R36) -/

/-- The 53 samples of a frame, in the three stages of R34. -/
def computeFrame (input : Table (Table Int 16) 4) (s : State) : Outputs :=
  let bus : Table Int 8 := Table.ofFn (fun b => mixDown (busTerms input s b))
  let mix : Table Int 12 := Table.ofFn (fun f => mixDown (mixTerms input bus s f))
  let rly : Int := mixDown (relayTerms input bus s)
  ⟨bus, mix, rly, Table.ofFn (fun n => mixDown (stationTerms input rly s n))⟩

/-- The peak sample of a channel: before mute and without LINK (R36). A trim above +48 is used at +48, since
the multiplier table ends there and R31 lets no other code select a multiplier. DEDUCED, log 19. -/
def channelPeakSample (input : Table (Table Int 16) 4) (s : State) (c : Fin 64) : Int :=
  mixDown [⟨sourceSample input s c, clampLevel (s.channel c).trim⟩]

/-- The point of an index (R36). -/
def pointAt (i : Fin 117) : Point :=
  if h : i.val < 64 then .channel ⟨i.val, h⟩
  else if h : i.val < 72 then .programme ⟨i.val - 64, by omega⟩
  else if h : i.val < 84 then .mix ⟨i.val - 72, by omega⟩
  else if _h : i.val < 85 then .relay
  else .station ⟨i.val - 85, by omega⟩

/-- The peak sample of a point in a frame (R36). -/
def peakSample (input : Table (Table Int 16) 4) (o : Outputs) (s : State) : Point → Int
  | .channel c => channelPeakSample input s c
  | .programme b => o.bus.get b
  | .mix f => o.mix.get f
  | .relay => o.relay
  | .station n => o.station.get n

/-- The Mix Engine computes a frame: the samples replace the last ones, and each point's largest magnitude
takes in the frame (R34 to R36). -/
def mixFrame (input : Table (Table Int 16) 4) (s : State) : State :=
  let o := computeFrame input s
  { s with mixer :=
      { s.mixer with
        out := o
        largest := Table.ofFn (fun i =>
          max (s.mixer.largest.get i) (peakSample input o s (pointAt i)).natAbs) } }

/-! ## The end of an interval (R37, R38) -/

/-- Each largest magnitude becomes the point's last completed peak and starts again at 0 (R37, R38). -/
def completePeaks (s : State) : State :=
  { s with mixer :=
      { s.mixer with
        peaks := s.mixer.largest.map peakCode
        largest := Table.replicate 117 0 } }

end Sys2Proof.Machine
end

