-- ==== Sys2Proof/Machine/Linking.lean ====
section
/-! DEFINITION. The Link Interface's shared operations (chapter 9): receivers, output link frames, the frame clock. -/

namespace Sys2Proof.Machine

/-! ## Receivers (R151 to R155) -/

/-- The sample of a slot word: bits 31 to 8 in two's complement; the auxiliary byte is ignored (R165). -/
def wordSample (w : SlotWord) : Int := (w.extractLsb' 8 24).toInt

/-- The slot word of a sample with an auxiliary byte (R165). -/
def slotWord (sample : Int) (aux : Nat) : SlotWord := BitVec.ofInt 24 sample ++ BitVec.ofNat 8 aux

/-- A LOCKED link with nothing left to hold becomes LOST: samples 0, missed count 0, the ramp written to OFF,
and LINK_CHANGE raised (R153, R155). -/
def loseLink (n : Fin 4) (s : State) : State :=
  raiseLinkChange n
    (directWrite (.link n) off
      (s.modReceiver n (fun x => { x with state := .lost, held := Table.replicate 16 0, missed := 0 })))

/-- The link has bridged all it may: the next part frame without a link frame finds it LOST (R153). -/
def linkSpent (r : Receiver) : Bool :=
  decide (r.state = .locked) && r.newest.isNone && decide (Config.missedTop ≤ r.missed)

/-- A part frame meets the receiver of a link: the last column of R153. -/
def advanceReceiver (n : Fin 4) (s : State) : State :=
  let r := s.receiver n
  match r.state with
  | .locked =>
    match r.newest with
    | some f => s.modReceiver n (fun x => { x with held := f, newest := none, missed := 0 })
    | none =>
      if linkSpent r then loseLink n s else s.modReceiver n (fun x => { x with missed := x.missed + 1 })
  | .disabled | .waitSync | .lost => s

/-- An arrival in WAIT_SYNC or LOST locks the link, starts the re-lock ramp of 20 ms and raises LINK_CHANGE
(R155). -/
def lockLink (n : Fin 4) (s : State) : State :=
  raiseLinkChange n
    (fadeRequest (.link n) 0 20 .system
      (s.modReceiver n (fun x => { x with state := .locked, missed := 0 }))).2

/-- A whole link frame becomes the newest frame, an unused older one counting a slip (R152). -/
def takeFrame (samples : Table Int 16) (x : Receiver) : Receiver :=
  { x with
    receiving := false
    newest := some samples
    slips := if x.newest.isSome then min (x.slips + 1) Config.slipTop else x.slips }

/-- The arrival of a link frame at an enabled receiver (R152, R155). -/
def linkArrival (n : Fin 4) (samples : Table Int 16) (s : State) : State :=
  let s1 := s.modReceiver n (takeFrame samples)
  match (s.receiver n).state with
  | .waitSync | .lost => lockLink n s1
  | .locked | .disabled => s1

/-- Turning an input link on: WAIT_SYNC, from the next frame sync (R154). -/
def enableLink (n : Fin 4) (s : State) : State :=
  if (s.receiver n).enable then s
  else
    s.modReceiver n (fun x =>
      { x with
        enable := true
        state := .waitSync
        receiving := false
        newest := none
        held := Table.replicate 16 0
        missed := 0 })

/-- Turning an input link off: DISABLED, nothing held, the ramp written to OFF; the slip count is kept
(R154). -/
def disableLink (n : Fin 4) (s : State) : State :=
  if (s.receiver n).enable then
    directWrite (.link n) off
      (s.modReceiver n (fun x =>
        { x with
          enable := false
          state := .disabled
          receiving := false
          newest := none
          held := Table.replicate 16 0
          missed := 0 }))
  else s

/-! ## Output links (R156 to R158) -/

/-- What waits is put in use at the link's frame boundary (R156, R157). -/
def applyWaiting (x : OutLink) : OutLink :=
  { x with
    enable := x.waitingEnable.getD x.enable
    waitingEnable := none
    slots := Table.ofFn (fun i => (x.waitingSlots.get i).getD (x.slots.get i))
    waitingSlots := Table.replicate 16 none }

/-- The word of one slot; `none` leaves ODAT undriven (R157, R158). -/
def slotOutput (o : Outputs) (code : Nat) : SlotSource → Option SlotWord
  | .none => none
  | .programme b => some (slotWord (o.bus.get b) 0)
  | .mix f => some (slotWord (o.mix.get f) 0)
  | .relay => some (slotWord o.relay 0)
  | .station n => some (slotWord (o.station.get n) 0)
  | .trigger => some (slotWord 0 code)

/-- The output link, its enable and map as now in use, fills a trigger slot (R158). -/
def fillsTrigger (x : OutLink) : Bool := x.enable && x.slots.rows.contains .trigger

/-- One link frame of output link `n`: waiting changes are taken, every slot is driven as the map gives
while the link is enabled, and a trigger slot takes the oldest code (R156 to R158). DESIGN CHOICE, log 40: that holds before
the first frame is computed too, when every other driven slot carries 0. -/
def sendFrame (n : Fin 4) (s : State) : State :=
  let x := applyWaiting (s.output n)
  let code := s.engine.triggers.headD 0
  let words : Table (Option SlotWord) 16 :=
    if x.enable then x.slots.map (slotOutput s.mixer.out code) else Table.replicate 16 none
  let s1 := s.modOutput n (fun _ => { x with sent := words })
  if fillsTrigger x then s1.modEngine (fun e => { e with triggers := e.triggers.tail }) else s1

/-! ## The frame clock (R147 to R150) -/

/-- A WCK edge has been seen within the last 3 frame periods (R147). -/
def wckPresent (s : State) : Bool := decide (s.links.clock.wckAge < Config.wckPeriods)

/-- The frame clock pauses: the source is WCK and WCK is absent, so that no frame begins, no output link frame is sent
and no control interval advances (R147). -/
def paused (s : State) : Bool := decide (s.links.clock.source = .wck) && !wckPresent s

/-- What the pins OBCK and OFS of the output links do. -/
inductive LinkClocks where
  | undriven
  | stopped
  | running
deriving DecidableEq, Repr

/-- OBCK and OFS of every output link: undriven in a reset procedure (R170), stopped in a pause of the frame clock, and
otherwise driven, whether the link is enabled or not (R156). -/
def linkClocks (s : State) : LinkClocks :=
  if s.inReset then .undriven else if paused s then .stopped else .running

/-- A waiting return is taken at a WCK edge: the source becomes WCK (R150). -/
def takeReturn (s : State) : State :=
  s.modClock (fun x => { x with source := .wck, returnWaiting := false, wckAge := 0 })

/-- WCK became absent while a return was waiting: it is abandoned (R150). -/
def abandonReturn (s : State) : State :=
  raiseClockFallback (s.modClock (fun x => { x with returnWaiting := false }))

/-- WCK is absent from now on (R147). -/
def markAbsent (s : State) : State := s.modClock (fun x => { x with wckAge := Config.wckPeriods })

/-- SLAVE role, source WCK and the clock monitor on: absence of WCK ends in fallback (R149). -/
def fallsBack (s : State) : Bool :=
  decide (s.links.clock.role = .slave ∧ s.links.clock.source = .wck) && s.links.clock.monitor

/-- The switch to the internal source (R149). -/
def fallBack (s : State) : State :=
  raiseClockFallback (s.modClock (fun x => { x with source := .internal }))

/-- What a frame tells the clock of WCK: with source WCK the frame is itself a WCK edge; with source
INTERNAL one more frame period has passed, and an edge seen in it takes a waiting return (R147, R150). -/
def watchWck (edge : Bool) (s : State) : State :=
  match s.links.clock.source with
  | .wck => s.modClock (fun x => { x with wckAge := 0 })
  | .internal =>
    if edge then
      if s.links.clock.returnWaiting then takeReturn s else s.modClock (fun x => { x with wckAge := 0 })
    else
      let s1 := s.modClock (fun x => { x with wckAge := min (x.wckAge + 1) Config.wckPeriods })
      if s1.links.clock.returnWaiting && !wckPresent s1 then abandonReturn s1 else s1

/-- The frame count rises by 1 at each frame, and at the 48th it returns to 0 and the end of the interval is to be taken
(R148). -/
def countFrame (s : State) : State :=
  if s.links.clock.frameCount + 1 < Config.intervalFrames then
    s.modClock (fun x => { x with frameCount := x.frameCount + 1 })
  else (s.modClock (fun x => { x with frameCount := 0 })).modEnding (fun x => { x with due := true })

/-- What the four links supply to a part frame (R153). -/
def linkInput (s : State) : Table (Table Int 16) 4 := s.links.receivers.map supplied

/-- The receivers supply their samples and move on, the Mix Engine computes, and the frame is counted (R34, R148,
R153). -/
def oneFrame (s : State) : State :=
  countFrame (mixFrame (linkInput s) ((List.finRange 4).foldl (fun s n => advanceReceiver n s) s))

end Sys2Proof.Machine
end

