-- ==== Sys2Proof/Machine/Interval.lean ====
section
/-! DEFINITION. The end of a control interval, block by block: the protect limiters (6.4), the level monitors (chapter 8),
and the whole end in the order the model takes it (R148). -/

namespace Sys2Proof.Machine

/-! ## The protect limiters (R113, R114) -/

/-- The protect attenuation after one interval end (R113). -/
def limiterStep (ceiling peak : Int) (protect : Nat) : Nat :=
  if ceiling ≤ peak then min (protect + 4) 96
  else if ceiling - 24 ≤ peak then protect
  else protect - 1

/-- One mix's limiter at an interval end; a start from 0 raises LIMITER (R113, R114). -/
def stepLimiter (s : State) (f : Fin 12) : State :=
  let m := s.mix f
  let p := limiterStep m.ceiling (s.peak (.mix f)) m.protect
  let s1 := s.modMix f (fun x => { x with protect := p })
  if m.protect = 0 ∧ 0 < p then raiseLimiter f s1 else s1

def stepLimiters (s : State) : State := (List.finRange 12).foldl stepLimiter s

/-! ## The level monitors (R140 to R142) -/

/-- The window test (R140). -/
def windowTrue (w : Window) (low high p : Int) : Bool :=
  match w with
  | .inside => decide (low < p ∧ p < high)
  | .below => decide (p ≤ low)
  | .above => decide (high ≤ p)
  | .outside => decide (p ≤ low ∨ high ≤ p)

/-- The monitor's condition on the last completed peak of its point (R140). -/
def monitorTrue (m : Monitor) (s : State) : Bool := windowTrue m.condition m.low m.high (s.peak m.point)

/-- What a trip does besides MONITOR_TRIP (R142). -/
def tripAction (m : Monitor) (s : State) : State :=
  match m.action with
  | .notify => s
  | .relayBackup => backupRequest s
  | .muteChannel =>
    match m.point with
    | .channel c => s.modChannel c (fun x => { x with mute := true })
    | .programme _ | .mix _ | .relay | .station _ => s

/-- Monitor `i` trips with this count: TRIPPED, its action, and MONITOR_TRIP with the monitor in its set (R142). -/
def tripMonitor (i : Fin 16) (count : Nat) (s : State) : State :=
  raiseMonitorTrip i
    (tripAction (s.monitor i) (s.modMonitor i (fun x => { x with state := .tripped, count := count })))

/-- One more true interval end: the count rises, and the monitor trips when it equals the hold time (R141). -/
def countMonitor (i : Fin 16) (count : Nat) (s : State) : State :=
  if (s.monitor i).hold ≤ count then tripMonitor i count s
  else s.modMonitor i (fun x => { x with state := .counting, count := count })

/-- One monitor at an interval end: the table of R141. -/
def stepMonitor (s : State) (i : Fin 16) : State :=
  let m := s.monitor i
  match m.state with
  | .off => s
  | .watching => if monitorTrue m s then countMonitor i 1 s else s.modMonitor i (fun x => { x with count := 0 })
  | .counting =>
    if monitorTrue m s then countMonitor i (m.count + 1) s
    else s.modMonitor i (fun x => { x with state := .watching, count := 0 })
  | .tripped =>
    if monitorTrue m s then s else s.modMonitor i (fun x => { x with state := .watching, count := 0 })

/-- Every monitor that has not taken its step at this end takes it (R141). -/
def stepMonitors (s : State) : State :=
  ((List.finRange 16).filter (fun i => !inSet s.ending.monitors i)).foldl stepMonitor s

/-! ## The whole end -/

/-- A line that moved since the last sample stands at its new level (R75). -/
def moveLine (l : Option Line) (i : ShowInput) : ShowInput := { i with line := l.getD i.line }

def moveLines (g h c : Option Line) (s : State) : State :=
  s.modEngine (fun x =>
    { x with
      goInput := moveLine g x.goInput
      holdInput := moveLine h x.holdInput
      callInput := moveLine c x.callInput })

/-- The peaks of the interval are complete, once in its end (R37, R38). -/
def takePeaks (s : State) : State :=
  if s.ending.measured then s else (completePeaks s).modEnding (fun x => { x with measured := true })

/-! ### The part of each block, or what is left of it -/

def finishFades (s : State) : State :=
  if s.ending.stepped then s else (stepFades s).modEnding (fun x => { x with stepped := true })

def finishMonitors (s : State) : State := (stepMonitors s).modEnding (fun x => { x with monitors := BitVec.allOnes 16 })

/-- The Relay Unit counts the active call (R132). -/
def finishRelay (s : State) : State :=
  if s.ending.called then s else (countCall s).modEnding (fun x => { x with called := true })

/-- Stages 1 and 2 of the Cue Engine's part: the slots, then the timer; under HOLD they count nothing (R82, R97). -/
def cueCounts (s : State) : State := if s.ending.counted || s.engine.hold then s else takeCounts s

/-- What is left of stage 3 when these lines have been sampled (R82). -/
def linesLeft : Sampled → State → State
  | .none, s => sampleInputs s
  | .hold, s => sampleCall (sampleGo s)
  | .go, s => sampleCall s
  | .all, s => s

/-- The Cue Engine's part: its three stages (R82). -/
def finishCue (s : State) : State :=
  if s.ending.sampled = .all then s
  else (linesLeft s.ending.sampled (cueCounts s)).modEnding (fun x => { x with sampled := .all })

def finishBlock : EndBlock → State → State
  | .fades => finishFades
  | .monitors => finishMonitors
  | .relay => finishRelay
  | .cue => finishCue

/-- The block of which a command has taken a part takes the rest of it, on the peaks of the interval that ended and with the
lines as they stand. DESIGN CHOICE, log 38. -/
def finishOpen (s : State) : State :=
  match s.ending.block with
  | none => s
  | some b => (finishBlock b (takePeaks s)).modEnding (fun x => { x with block := none })

/-- A command takes a part of this block's part of the end. -/
def beginBlock (b : EndBlock) (s : State) : State := s.modEnding (fun x => { x with begun := true, block := some b })

/-- Another block's part finds the block of which a command has taken a part whole (R82, R133). -/
def meetBlock (b : EndBlock) (s : State) : State := if s.ending.block = some b then s else finishOpen s

/-- Nothing of an end is left to take. -/
def closeEnd (s : State) : State := s.modEnding (fun _ => {})

/-- Every block takes its part of the end of the interval, or what is left of it (R148): first the block that has begun its
part, so that each part is one event, then the others. The peaks come before them, since every other block reads the peaks of
the interval just ended (R38); the Fade Engine goes before the blocks that ask it for fades. The Cue Engine's part is in the
three stages of R82. DESIGN CHOICE, log 6: the rest of the order. -/
def intervalEnd (g h c : Option Line) (s : State) : State :=
  closeEnd
    (finishCue
      (finishRelay
        (finishMonitors
          (stepLimiters (finishFades (finishOpen (takePeaks (moveLines g h c s))))))))

/-- The end of an interval can be taken: the 48th frame has been computed, and the frame clock does not pause (R147,
R148). -/
def endOpen (s : State) : Bool := s.ending.due && !paused s

/-- What one part of the end does, while the end can be taken. -/
def inEnd (f : State → State) (s : State) : State := if endOpen s then f s else s

/-- An end of which a part is taken is taken whole, with the lines as they stand, before what is no part of it (R82, R172).
DESIGN CHOICE, log 38. -/
def wholeEnd (s : State) : State := if s.ending.begun then intervalEnd none none none s else s

/-! ## The frame -/

/-- An end that is still due when the next frame comes is taken before it, with the lines as they stand: an interval is 48
frames in every case (R148). -/
def overdueEnd (s : State) : State := if s.ending.due then intervalEnd none none none s else s

/-- One frame of the part: what it tells the clock of WCK, and the frame itself (R34, R147, R148). -/
def partFrame (edge : Bool) (s : State) : State := oneFrame (watchWck edge (overdueEnd s))

end Sys2Proof.Machine
end

