-- ==== Sys2Proof/Machine/Gate.lean ====
section
/-! DEFINITION. How a command meets the block: outside a reset procedure, and with the end of an interval either whole or not
begun. -/

namespace Sys2Proof.Machine

/-- The response that stands has been used up, and the one to come replaces it (R161). -/
def usedUp (s : State) : State := { s with port := { s.port with response := .empty } }

/-- The execution of request `me` as one event (R161, R162), which finds the end of an interval that has begun whole (R172).
A request that is being executed goes on to its answer; while another is, it is discarded, and while a reset procedure runs it
is ignored (R170). DESIGN CHOICE,
log 10: a request's own command stands for its being taken and executed. -/
def request (code : Nat) (me : Instr) (body : State → Answer) (s : State) : State :=
  let answer (u : State) : State := respond code u (body u)
  if s.inReset then s
  else
    match s.port.response with
    | .executing _ other => if other = me then answer (wholeEnd (usedUp s)) else s
    | .empty | .ready _ => answer (wholeEnd s)

/-- Nothing but the commands of resets and of SEL_N acts while a reset procedure runs (R170). -/
def outsideReset (f : State → State) (s : State) : Out := .next (if s.inReset then s else f s)

/-- An event that is no part of the end of an interval finds one that has begun whole (R82, R172). -/
def event (f : State → State) (s : State) : Out := outsideReset (fun s => f (wholeEnd s)) s

/-- A part of the end that is due, on its own. DESIGN CHOICE, log 7. -/
def endPart (f : State → State) (s : State) : Out := outsideReset (inEnd f) s

/-- A part of this block's part, which finds every other block's part whole or not begun (R82, R133). -/
def blockPart (b : EndBlock) (f : State → State) (s : State) : Out := endPart (fun s => f (meetBlock b s)) s

end Sys2Proof.Machine
end

