-- ==== Sys2Proof/Machine/RoleRequests.lean ====
section
/-! DEFINITION. The meanings of the Role Table's requests (chapter 1). -/

namespace Sys2Proof.Machine

/-! ## Response parts used by many requests (R164) -/

/-- A list of numbered items: a count byte, then each number. -/
def listFields {n : Nat} (l : List (Fin n)) : List Field := .byte l.length :: l.map (fun i => .byte (num i))

def onOff (b : Bool) : Field := .byte (if b then 1 else 0)

/-- The state of an input channel's link (R1). -/
def channelLinkState (c : Fin 64) (s : State) : LinkState := (s.receiver (linkOf c)).state

/-! ## ROLE_READ, CHANNEL_READ, GROUP_READ, ROLE_FIND (R10, R11) -/

/-- Every field of R4, in its order. -/
def roleFields (x : Role) : List Field :=
  [onOff x.active, .label x.label, .two (x.performer.getD 0), .byte (coverNum x.cover),
   .byte (optNum x.channel), .byte (optNum x.releasing), .byte (optNum x.group), .level x.level,
   .set 1 x.buses.toNat, .byte (optNum x.station), .level x.xout, .level x.xin]

def roleRead (role : Nat) (s : State) : Answer := do
  let r ← index 64 role
  .ok (roleFields (s.role r), s)

def execRoleRead (role : Nat) (s : State) : Out := .next (request 8 (.roleRead role) (roleRead role) s)

/-- A form byte, then the role when there is one. -/
def bindingFields : Binding → List Field
  | .none => [.byte 0]
  | .current r => [.byte 1, .byte (num r)]
  | .releasing r => [.byte 2, .byte (num r)]

/-- Every field of R1, in its order. -/
def channelFields (c : Fin 64) (s : State) : List Field :=
  let x := s.channel c
  [.level x.trim, .byte (polarityNum x.polarity), onOff x.mute, .set 1 x.directBuses.toNat,
   .level x.directLevel, .byte (optNum x.directGroup)] ++ bindingFields x.binding ++
  [.byte (linkStateNum (channelLinkState c s))]

def channelRead (channel : Nat) (s : State) : Answer := do
  let c ← index 64 channel
  .ok (channelFields c s, s)

def execChannelRead (channel : Nat) (s : State) : Out :=
  .next (request 9 (.channelRead channel) (channelRead channel) s)

/-- The ACTIVE roles whose group field names the group (R6). -/
def memberRoles (g : Fin 16) (s : State) : List (Fin 64) :=
  (List.finRange 64).filter (fun r => (s.role r).active && decide ((s.role r).group = some g))

/-- The unbound channels whose direct group names the group (R6). -/
def memberChannels (g : Fin 16) (s : State) : List (Fin 64) :=
  (List.finRange 64).filter (fun c =>
    decide ((s.channel c).binding = .none) && decide ((s.channel c).directGroup = some g))

def groupRead (group : Nat) (s : State) : Answer := do
  let g ← index 16 group
  .ok ([.level (s.group g).level, .label (s.group g).label] ++ listFields (memberRoles g s) ++
    listFields (memberChannels g s), s)

def execGroupRead (group : Nat) (s : State) : Out := .next (request 10 (.groupRead group) (groupRead group) s)

/-- The role is cast with the performer (0 matches every one) and a selected cover (R11). -/
def castMatches (performer covers : Nat) (x : Role) : Bool :=
  x.active && (decide (performer = 0) || decide (x.performer = some performer)) &&
    covers.testBit (coverNum x.cover)

def roleFind (performer covers : Nat) (s : State) : Answer := do
  require (decide (performer ≤ 999) && decide (1 ≤ covers ∧ covers ≤ 7)) .invalid
  .ok (listFields ((List.finRange 64).filter (fun r => castMatches performer covers (s.role r))), s)

def execRoleFind (performer covers : Nat) (s : State) : Out :=
  .next (request 11 (.roleFind performer covers) (roleFind performer covers) s)

/-! ## ROLE_SET, ROLE_MODIFY, CHANNEL_SET, GROUP_SET (R12 to R15) -/

/-- 0 means absent (R164). -/
def performerOf (n : Nat) : Option Nat := if n = 0 then none else some n

def roleSet (role : Nat) (label : Label) (performer cover : Nat) (s : State) : Answer := do
  let r ← index 64 role
  require (labelOk 12 label && decide (performer ≤ 999)) .invalid
  let c ← need .invalid (coverOf cover)
  require (!(s.role r).active) .inUse
  .ok ([], s.modRole r (fun _ =>
    { active := true, label := label, performer := performerOf performer, cover := c }))

def execRoleSet (role : Nat) (label : Label) (performer cover : Nat) (s : State) : Out :=
  .next (request 12 (.roleSet role label performer cover) (roleSet role label performer cover) s)

def roleAny (f : RoleFields) : Bool :=
  f.label.isSome || f.performer.isSome || f.cover.isSome || f.group.isSome || f.level.isSome ||
    f.buses.isSome || f.station.isSome

/-- The value fields of ROLE_MODIFY that are neither levels nor times (R9, R13). -/
def roleValuesOk (f : RoleFields) : Bool :=
  roleAny f && !f.beyond && optOk (labelOk 12) f.label && optOk (fun n => decide (n ≤ 999)) f.performer &&
    optOk (fun n => (coverOf n).isSome) f.cover

/-- The fields that ROLE_MODIFY writes without the Fade Engine (R13). -/
def applyRole (f : RoleFields) (group : Option (Option (Fin 16))) (station : Option (Option (Fin 32)))
    (buses : Option (BitVec 8)) (x : Role) : Role :=
  { x with
    label := pick x.label f.label
    performer := pick x.performer (f.performer.map performerOf)
    cover := pick x.cover (f.cover.bind coverOf)
    group := pick x.group group
    buses := pick x.buses buses
    station := pick x.station station }

/-- A selected level is a direct write (R13, R15, R106, R119). -/
def writeSelected (el : Element) (level : Option Int) (s : State) : State :=
  match level with
  | none => s
  | some z => directWrite el z s

def roleModify (roles : Nat) (f : RoleFields) (s : State) : Answer := do
  let set ← maskOf 64 roles
  let group ← opt (indexOpt 16) f.group
  let station ← opt (indexOpt 32) f.station
  let buses ← opt (maskOf 8) f.buses
  require (decide (roles ≠ 0) && roleValuesOk f) .invalid
  require ((members set).all (fun r => (s.role r).active)) .notFound
  .ok ([], settleAll ((members set).foldl
    (fun s r => writeSelected (.role r) f.level (s.modRole r (applyRole f group station buses))) s))

def execRoleModify (roles : Nat) (fields : RoleFields) (s : State) : Out :=
  .next (request 13 (.roleModify roles fields) (roleModify roles fields) s)

def channelAny (f : ChannelFields) : Bool :=
  f.trim.isSome || f.polarity.isSome || f.mute.isSome || f.buses.isSome || f.level.isSome || f.group.isSome

def channelValuesOk (f : ChannelFields) : Bool :=
  channelAny f && !f.beyond && optOk (fun n => (polarityOf n).isSome) f.polarity && optOk onOffOk f.mute

def applyChannel (f : ChannelFields) (group : Option (Option (Fin 16))) (buses : Option (BitVec 8))
    (x : Channel) : Channel :=
  { x with
    trim := pick x.trim (f.trim.map (clampCode (-80) 80))
    polarity := pick x.polarity (f.polarity.bind polarityOf)
    mute := pick x.mute (f.mute.map isOn)
    directBuses := pick x.directBuses buses
    directLevel := pick x.directLevel (f.level.map (clampCode off 40))
    directGroup := pick x.directGroup group }

def channelSet (channels : Nat) (f : ChannelFields) (s : State) : Answer := do
  let set ← maskOf 64 channels
  let group ← opt (indexOpt 16) f.group
  let buses ← opt (maskOf 8) f.buses
  require (decide (channels ≠ 0) && channelValuesOk f) .invalid
  .ok ([], (members set).foldl (fun s c => s.modChannel c (applyChannel f group buses)) s)

def execChannelSet (channels : Nat) (fields : ChannelFields) (s : State) : Out :=
  .next (request 14 (.channelSet channels fields) (channelSet channels fields) s)

def groupSet (group : Nat) (f : GroupFields) (s : State) : Answer := do
  let g ← index 16 group
  require ((f.level.isSome || f.label.isSome) && !f.beyond && optOk (labelOk 12) f.label) .invalid
  .ok ([], settleAll (writeSelected (.group g) f.level
    (s.modGroup g (fun x => { x with label := pick x.label f.label }))))

def execGroupSet (group : Nat) (fields : GroupFields) (s : State) : Out :=
  .next (request 15 (.groupSet group fields) (groupSet group fields) s)

/-! ## ROLE_RETIRE (R16) -/

/-- The Foldback Unit clears the listener field of every mix that names the role (R16, R104). -/
def clearListeners (r : Fin 64) (s : State) : State :=
  { s with foldback :=
      { s.foldback with mixes := s.foldback.mixes.map (fun m =>
          { m with listener := if m.listener = some r then none else m.listener }) } }

def retireRole (r : Fin 64) (s : State) : State :=
  let s1 := unbindOpt (s.role r).releasing (unbindOpt (s.role r).channel s)
  let s2 := removeEntry (.xin r) (removeEntry (.xout r) (removeEntry (.role r) s1))
  settleAll ((clearListeners r s2).modRole r (fun _ => {}))

def roleRetire (role : Nat) (s : State) : Answer := do
  let r ← index 64 role
  require (s.role r).active .notFound
  .ok ([], retireRole r s)

def execRoleRetire (role : Nat) (s : State) : Out :=
  .next (request 16 (.roleRetire role) (roleRetire role) s)

/-! ## ROLE_REBIND (R17 to R22) -/

/-- The channel is the current or releasing channel of another role (R17). -/
def heldByOther (r : Fin 64) (new : Option (Fin 64)) (s : State) : Bool :=
  match new with
  | none => false
  | some c =>
    match (s.channel c).binding with
    | .none => false
    | .current q => decide (q ≠ r)
    | .releasing q => decide (q ≠ r)

def setBinding (c : Option (Fin 64)) (b : Binding) (s : State) : State :=
  match c with
  | none => s
  | some c => s.modChannel c (fun x => { x with binding := b })

/-- An earlier crossfade completes at once (R18). -/
def finishEarlier (r : Fin 64) (s : State) : State :=
  match (s.role r).releasing with
  | none => s
  | some c =>
    directWrite (.xin r) 0
      (directWrite (.xout r) 0
        ((unbindChannel c s).modRole r (fun x => { x with releasing := none })))

/-- An instant rebind (R19). -/
def rebindInstant (r : Fin 64) (new : Option (Fin 64)) (s : State) : State :=
  let s1 := setBinding new (.current r) (unbindOpt (s.role r).channel s)
  directWrite (.xin r) 0
    (directWrite (.xout r) 0 (s1.modRole r (fun x => { x with channel := new })))

/-- The entries a crossfade needs: two, or one for a rebind to none (R20). -/
def entriesNeeded (new : Option (Fin 64)) : Nat := if new.isSome then 2 else 1

/-- A crossfade of `d` ms (R20). -/
def rebindCrossfade (r : Fin 64) (new : Option (Fin 64)) (d : Nat) (s : State) : State :=
  let old := (s.role r).channel
  let s1 := setBinding new (.current r) (setBinding old (.releasing r) s)
  let s2 := s1.modRole r (fun x => { x with channel := new, releasing := old })
  let s3 := (fadeRequest (.xout r) off d .system s2).2
  if new.isSome then (fadeRequest (.xin r) 0 d .system (directWrite (.xin r) off s3)).2 else s3

/-- The outcomes of a rebind, numbered in the order of R17. -/
inductive RebindOutcome where
  | instant
  | crossfade
  | unchanged
deriving DecidableEq, Repr

def rebindOutcomeNum : RebindOutcome → Nat
  | .instant => 0
  | .crossfade => 1
  | .unchanged => 2

/-- Stage two of an accepted rebind, after R18: R19, R20 or R22. -/
def rebindStage (r : Fin 64) (new : Option (Fin 64)) (d : Nat) (s : State) : RebindOutcome × State :=
  if d = 0 ∨ (s.role r).channel.isNone then (.instant, rebindInstant r new s)
  else if s.fades.length + entriesNeeded new ≤ Config.fadePlaces then (.crossfade, rebindCrossfade r new d s)
  else (.instant, raiseFadeSnap (entriesNeeded new) (rebindInstant r new s))

def roleRebind (role channel time : Nat) (s : State) : Answer := do
  let r ← index 64 role
  let new ← indexOpt 64 channel
  require (s.role r).active .notFound
  require (!heldByOther r new s) .inUse
  if (s.role r).channel = new then .ok ([.byte (rebindOutcomeNum .unchanged), onOff false], s)
  else
    let (outcome, s') := rebindStage r new (min time Config.longestCrossfade) (finishEarlier r s)
    .ok ([.byte (rebindOutcomeNum outcome), onOff (s.role r).releasing.isSome], s')

def execRoleRebind (role channel time : Nat) (s : State) : Out :=
  .next (request 17 (.roleRebind role channel time) (roleRebind role channel time) s)

end Sys2Proof.Machine
end

