-- ==== Sys2Proof/Machine/FadeRequests.lean ====
section
/-! DEFINITION. The meanings of the Fade Engine's requests (R57, R58). -/

namespace Sys2Proof.Machine

/-! ## LEVEL_SET (R57) -/

/-- A list item turned into the fade request it asks for. -/
def levelTarget (i : LevelItem) : Option (Element × Int × Nat) :=
  (elementOf i.addr).bind (fun el => if elemOpen el then some (el, i.target, i.time) else none)

/-- Every item, or none when one names a kind class HOST may not fade. -/
def levelTargets : List LevelItem → Option (List (Element × Int × Nat))
  | [] => some []
  | i :: rest => (levelTarget i).bind (fun x => (levelTargets rest).map (x :: ·))

/-- No two items of a list name the same thing. -/
def distinct {α : Type} [DecidableEq α] : List α → Bool
  | [] => true
  | a :: rest => !rest.contains a && distinct rest

def fadeCaseNum : FadeCase → Nat
  | .set => 0
  | .fading => 1
  | .snapped => 2

/-- NONE, CUE, HOST, SYSTEM: the class of an entry, if there is one (R57, R109, R135). -/
def classNum : Option FadeEntry → Nat
  | none => 0
  | some e =>
    match e.owner with
    | .cue _ => 1
    | .host => 2
    | .system => 3

/-- The slot number of a CUE entry, 0 for any other (R42, R57). -/
def ownerNum : FadeOwner → Nat
  | .cue k => num k
  | .host => 0
  | .system => 0

def entryOwnerNum : Option FadeEntry → Nat
  | none => 0
  | some e => ownerNum e.owner

/-- Each item as a HOST-class fade request in list order, with its outcome, the class of the entry it
overtook, and that entry's slot (R57). -/
def levelItems : List (Element × Int × Nat) → State → List Field × State
  | [], s => ([], s)
  | (el, target, time) :: rest, s =>
    let old := s.entry? el
    let (case, s1) := fadeRequest el target time .host s
    let (fields, s2) := levelItems rest s1
    (.byte (fadeCaseNum case) :: .byte (classNum old) :: .byte (entryOwnerNum old) :: fields, s2)

/-- LEVEL_SET (R57). DESIGN CHOICE, log 13: more than 16 items are INVALID. -/
def levelSet (items : List LevelItem) (s : State) : Answer := do
  require (items.all (fun i => addrIndexOk i.addr)) .badIndex
  require (decide (1 ≤ items.length ∧ items.length ≤ 16)) .invalid
  let targets ← need .invalid (levelTargets items)
  require (distinct (targets.map (·.1))) .invalid
  require (targets.all (fun t => s.available t.1)) .notFound
  let (fields, s') := levelItems targets s
  .ok (.byte targets.length :: fields, settleAll s')

def execLevelSet (items : List LevelItem) (s : State) : Out :=
  .next (request 18 (.levelSet items) (levelSet items) s)

/-! ## FADE_READ (R58) -/

def addrFields (el : Element) : List Field :=
  let a := addrOf el
  [.byte a.kind, .byte a.index, .byte a.srcKind, .byte a.srcIndex]

/-- CUE, HOST, SYSTEM, numbered in the order of R42. -/
def ownerClassNum : FadeOwner → Nat
  | .cue _ => 0
  | .host => 1
  | .system => 2

/-- Every field of an entry, then the remaining time and the frozen mark (R58). -/
def entryFields (e : FadeEntry) (s : State) : List Field :=
  addrFields e.element ++
    [.byte (ownerClassNum e.owner), .byte (ownerNum e.owner), .level e.start, .level e.target,
     .time e.duration, .time e.elapsed, .time (e.duration - e.elapsed), onOff (frozen s e)]

def fadeElement (el : Element) (s : State) : List Field :=
  .level ((s.value? el).getD off) ::
    match s.entry? el with
    | none => [onOff false]
    | some e => onOff true :: entryFields e s

/-- How many entries are owned so. -/
def ownedBy (p : FadeOwner → Bool) (s : State) : Nat := (s.fades.filter (fun e => p e.owner)).length

def fadeSummary (s : State) : List Field :=
  [.byte s.fades.length, .byte (Config.fadePlaces - s.fades.length),
   .byte (ownedBy (fun o => decide (ownerClassNum o = 0)) s),
   .byte (ownedBy (fun o => decide (o = .host)) s),
   .byte (ownedBy (fun o => decide (o = .system)) s)] ++
  (List.finRange 8).map (fun k => .byte (ownedBy (fun o => decide (o = .cue k)) s)) ++
  [.byte s.attention.details.snaps, onOff s.engine.hold]

/-- Element addresses in the order of the kinds in R40 and then by index (R58). DESIGN CHOICE, log 32: SEND entries of one
mix, and RELAYSEND entries, share an index and stand by source kind and then source index. -/
def addrKey (el : Element) : Nat :=
  let a := addrOf el
  ((a.kind * 256 + a.index) * 256 + a.srcKind) * 256 + a.srcIndex

def insertByKey (el : Element) : List Element → List Element
  | [] => [el]
  | x :: rest => if addrKey el ≤ addrKey x then el :: x :: rest else x :: insertByKey el rest

def ownedElements (k : Fin 8) (s : State) : List Element :=
  ((s.fades.filter (fun e => e.owner = .cue k)).map (fun e => e.element)).foldr insertByKey []

def fadeOwner (k : Fin 8) (s : State) : List Field :=
  .byte (ownedElements k s).length :: (ownedElements k s).flatMap addrFields

def fadeRead (form : FadeForm) (s : State) : Answer :=
  match form with
  | .element a => do
    require (addrIndexOk a) .badIndex
    let el ← need .invalid (elementOf a)
    require (s.available el) .notFound
    .ok (fadeElement el s, s)
  | .summary => .ok (fadeSummary s, s)
  | .owner k => do
    let k ← index 8 k
    .ok (fadeOwner k s, s)
  | .unknown _ => .error .invalid

def execFadeRead (form : FadeForm) (s : State) : Out := .next (request 19 (.fadeRead form) (fadeRead form) s)

end Sys2Proof.Machine
end

