-- ==== Sys2Proof/Machine/CueListRequests.lean ====
section
/-! DEFINITION. The meanings of the Cue List's requests (chapter 4). -/

namespace Sys2Proof.Machine

/-! ## CUE_STORE (R65, R66) -/

/-- The place that keeps the list in ascending order; a record of the same number is replaced whole (R66). -/
def insertCue (c : Cue) : List Cue → List Cue
  | [] => [c]
  | d :: rest =>
    if c.number < d.number then c :: d :: rest
    else if c.number = d.number then c :: rest
    else d :: insertCue c rest

def cueIndexOk (c : RawCue) : Bool := cueNumberOk c.number && c.actions.all (fun a => bodyIndexOk a.body)

def setCues (cues : List Cue) (s : State) : State := { s with cues := { s.cues with cues := cues } }

/-- What CUE_STORE answers: the outcome and the number of cues (R66), and the standby pointer (R74). DESIGN CHOICE, log 33:
that the pointer is there, and last. -/
def storeFields (replaced : Bool) (cues : List Cue) (s : State) : List Field :=
  [onOff replaced, .two cues.length, .two (s.cues.standby.getD 0)]

def cueStore (raw : RawCue) (s : State) : Answer := do
  require (cueIndexOk raw) .badIndex
  let c ← need .invalid (cueOf raw)
  let stored := insertCue c s.cues.cues
  let replaced := (findCue c.number s).isSome
  require (replaced || decide (s.cues.cues.length < Config.cuePlaces)) .full
  .ok (storeFields replaced stored s, setCues stored s)

def execCueStore (cue : RawCue) (s : State) : Out := .next (request 20 (.cueStore cue) (cueStore cue) s)

/-! ## CUE_DELETE (R67) -/

def inRange (first last n : Nat) : Bool := decide (first ≤ n ∧ n ≤ last)

def outsideRange (first last : Nat) (cues : List Cue) : List Cue :=
  cues.filter (fun c => !inRange first last c.number)

/-- Standby after a deletion: past the range when it named a cue in it (R67, R70). -/
def standbyAfter (first last : Nat) (left : List Cue) (standby : Option Nat) : Option Nat :=
  match standby with
  | none => none
  | some n => if inRange first last n then nextAbove last left else some n

def cueDelete (first last : Nat) (s : State) : Answer := do
  require (cueNumberOk first && cueNumberOk last) .badIndex
  require (decide (first ≤ last)) .invalid
  require (s.cues.cues.any (fun c => inRange first last c.number)) .notFound
  let left := outsideRange first last s.cues.cues
  let standby := standbyAfter first last left s.cues.standby
  .ok ([.two (s.cues.cues.length - left.length), .two left.length, .two (standby.getD 0)],
    { s with cues := { cues := left, standby := standby } })

def execCueDelete (first last : Nat) (s : State) : Out :=
  .next (request 21 (.cueDelete first last) (cueDelete first last) s)

/-! ## CUE_READ, CUE_LIST, STANDBY_SET (R68, R69, R72) -/

def bodyKind : ActionBody → Nat
  | .level _ _ _ => 0
  | .member _ _ => 1
  | .route _ _ => 2
  | .call _ => 3
  | .trigger _ => 4

/-- The fields of an action's kind (R164). -/
def bodyFields : ActionBody → List Field
  | .level el target time => addrFields el ++ [.level target, .time time]
  | .member r g => [.byte (num r), .byte (optNum g)]
  | .route r b => [.byte (num r), .set 1 b.toNat]
  | .call p => [.byte (num p)]
  | .trigger c => [.byte c]

/-- An action as CUE_STORE carries it (R164). -/
def actionFields (a : Action) : List Field := .byte (bodyKind a.body) :: .time a.delay :: bodyFields a.body

/-- A cue record as CUE_STORE carries it (R164). DESIGN CHOICE, log 36: with follow NONE the follow time is sent as 0. -/
def cueFields (c : Cue) : List Field :=
  [.two c.number, .label c.label, onOff c.follow.isSome, .time (c.follow.getD 0), .byte c.actions.length] ++
    c.actions.flatMap actionFields

def cueRead (number : Nat) (s : State) : Answer := do
  require (cueNumberOk number) .badIndex
  let c ← need .notFound (findCue number s)
  .ok (cueFields c ++ [onOff (decide (s.cues.standby = some number))], s)

def execCueRead (number : Nat) (s : State) : Out := .next (request 22 (.cueRead number) (cueRead number) s)

/-- The numbers at or above the start (R69). -/
def numbersFrom (start : Nat) (s : State) : List Nat :=
  (s.cues.cues.map (·.number)).filter (fun n => start ≤ n)

def cueList (start page : Nat) (s : State) : Answer := do
  require (cueNumberOk start) .badIndex
  require (decide (1 ≤ page ∧ page ≤ 64)) .invalid
  let found := numbersFrom start s
  let shown := found.take page
  .ok ([.two s.cues.cues.length, .two (s.cues.standby.getD 0), .byte shown.length] ++
    shown.map .two ++ [onOff (decide (page < found.length))], s)

def execCueList (start page : Nat) (s : State) : Out :=
  .next (request 23 (.cueList start page) (cueList start page) s)

def setStandby (n : Option Nat) (s : State) : State := { s with cues := { s.cues with standby := n } }

/-- A number of 0 carries END (R72, R164). -/
def standbySet (number : Nat) (s : State) : Answer := do
  if number = 0 then .ok ([.two 0], setStandby none s)
  else do
    require (cueNumberOk number) .badIndex
    require (findCue number s).isSome .notFound
    .ok ([.two number], setStandby (some number) s)

def execStandbySet (number : Nat) (s : State) : Out :=
  .next (request 24 (.standbySet number) (standbySet number) s)

end Sys2Proof.Machine
end

