-- ==== Sys2Proof/Machine/CueRequests.lean ====
section
/-! DEFINITION. The meanings of the Cue Engine's requests (chapter 5). -/

namespace Sys2Proof.Machine

/-! ## GO, HOLD, RESUME (R84, R97) -/

/-- The payload of a fired GO, in the order of R84. DESIGN CHOICE, log 36: where no cue was forced its number is 0. -/
def goFields (g : GoReport) : List Field :=
  [.two g.cue, .byte (num g.slot), .four g.serial.toNat, .two (g.standby.getD 0), .two (g.forced.getD 0),
   onOff g.completed]

def ignoreStatus : IgnoreReason → Status
  | .held => .held
  | .ended => .endOfList

def goRequest (s : State) : Answer :=
  match goEvent .port s with
  | .error why => .error (ignoreStatus why)
  | .ok (report, s') => .ok (goFields report, s')

def execGo (s : State) : Out := .next (request 25 .go goRequest s)

def execHold (s : State) : Out := .next (request 26 .hold (fun s => .ok ([], takeHold s)) s)

def execResume (s : State) : Out := .next (request 27 .resume (fun s => .ok ([], releaseHold s)) s)

/-! ## SAFE_SET (R92) -/

/-- A flag changes from clear to set and covers the element (R86, R92). -/
def newlySafe (before after : BitVec 125) (el : Element) : Bool :=
  match elemFlag el with
  | none => false
  | some i => inSet after i && !inSet before i

/-- The CUE entries on the elements that newly set flags cover are removed (R49, R92). -/
def dropSafeEntries (before after : BitVec 125) (s : State) : State :=
  ((s.fades.map (fun e => e.element)).filter (newlySafe before after)).foldl
    (fun s el => removeCueEntry el s) s

def setSafes (after : BitVec 125) (s : State) : State :=
  settleAll (dropSafeEntries s.engine.safes after (s.modEngine (fun x => { x with safes := after })))

def safeSet (selection value : Nat) (s : State) : Answer := do
  let sel ← maskOf 125 selection
  let val ← maskOf 125 value
  let after := (s.engine.safes &&& ~~~sel) ||| (val &&& sel)
  .ok ([.set 16 after.toNat], setSafes after s)

def execSafeSet (selection value : Nat) (s : State) : Out :=
  .next (request 28 (.safeSet selection value) (safeSet selection value) s)

/-! ## INPUT_SET (R77) -/

def settingOk (x : InputSetting) : Bool :=
  onOffOk x.enable && (actingEdgeOf x.edge).isSome && decide (x.length = 4 ∨ x.length = 16)

def inputAny (f : InputFields) : Bool := f.go.isSome || f.hold.isSome || f.call.isSome

/-- The three settings are written and the candidate count starts again (R77). -/
def applySetting (x : Option InputSetting) (i : ShowInput) : ShowInput :=
  match x with
  | none => i
  | some x =>
    { i with
      enable := isOn x.enable
      edge := pick i.edge (actingEdgeOf x.edge)
      length := x.length
      count := 0 }

def inputSet (f : InputFields) (s : State) : Answer := do
  require (inputAny f && !f.beyond && optOk settingOk f.go && optOk settingOk f.hold && optOk settingOk f.call)
    .invalid
  .ok ([], s.modEngine (fun x =>
    { x with
      goInput := applySetting f.go x.goInput
      holdInput := applySetting f.hold x.holdInput
      callInput := applySetting f.call x.callInput }))

def execInputSet (fields : InputFields) (s : State) : Out :=
  .next (request 29 (.inputSet fields) (inputSet fields) s)

/-! ## RUNNING_READ, ENGINE_READ (R99) -/

/-- A pending action: its kind, its fields, its delay as stored and its remaining delay (R99). -/
def pendingFields (p : PendingAction) : List Field :=
  .byte (bodyKind p.action.body) :: bodyFields p.action.body ++ [.time p.action.delay, .time p.remaining]

/-- An optional part: a mark, then its fields when it is there. DESIGN CHOICE, log 11. -/
def optFields {α : Type} (f : α → List Field) : Option α → List Field
  | none => [onOff false]
  | some a => onOff true :: f a

/-- Every field of R78, in its order. DESIGN CHOICE, log 36: the absent cue number of a FREE slot is sent as 0. -/
def slotFields (x : Slot) : List Field :=
  [onOff x.running, .two (x.cue.getD 0), .four x.serial.toNat] ++
  optFields (fun g => [.byte (goSourceNum g)]) x.source ++
  [.time x.elapsed, .byte x.actions.length] ++ x.actions.flatMap pendingFields ++
  [.byte x.owned, .byte x.skipped]

def runningRead (slot : Nat) (s : State) : Answer := do
  let k ← index 8 slot
  .ok (slotFields (s.slot k), s)

def execRunningRead (slot : Nat) (s : State) : Out :=
  .next (request 30 (.runningRead slot) (runningRead slot) s)

/-- A slot's state and, when RUNNING, its number, serial, age, pending count and owned-fade count (R99). -/
def slotSummary (s : State) (k : Fin 8) : List Field :=
  let x := s.slot k
  if x.running then
    [onOff true, .two (x.cue.getD 0), .four x.serial.toNat, .four (slotAge s k), .byte x.actions.length,
     .byte x.owned]
  else [onOff false]

/-- A filter as ENGINE_READ gives it. DESIGN CHOICE, log 39: the accepted level is 0 for high and 1 for low. -/
def inputFields (i : ShowInput) : List Field :=
  [.byte (lineNum i.accepted), .byte i.count, .byte i.length, onOff i.enable, .byte (actingEdgeNum i.edge)]

/-- The values of R99 in its order. DESIGN CHOICE, log 39: the time remaining of a compare armed with 0 counts to 1, where
it fires (R95). -/
def engineFields (s : State) : List Field :=
  let e := s.engine
  [onOff e.hold, .time e.timer, .time e.lastInterval] ++
  optFields (fun t => [.time t, .time (max t 1 - e.timer)]) e.follow ++
  [.four e.serial.toNat] ++
  (List.finRange 8).flatMap (slotSummary s) ++
  .byte e.triggers.length :: e.triggers.map .byte ++
  inputFields e.goInput ++ inputFields e.holdInput ++ inputFields e.callInput

def execEngineRead (s : State) : Out := .next (request 31 .engineRead (fun s => .ok (engineFields s, s)) s)

end Sys2Proof.Machine
end

