-- ==== Sys2Proof/Machine/FoldbackRequests.lean ====
section
/-! DEFINITION. The meanings of the Foldback Unit's requests (chapter 6), checked in the order of R105. -/

namespace Sys2Proof.Machine

/-! ## MIX_SET (R106) -/

def mixAny (f : MixFields) : Bool :=
  f.label.isSome || f.listener.isSome || f.master.isSome || f.ceiling.isSome

def mixValuesOk (f : MixFields) : Bool := mixAny f && !f.beyond && optOk (labelOk 12) f.label

/-- The fields that MIX_SET writes without the Fade Engine; the ceiling is clamped to −80..0 (R105). -/
def applyMix (f : MixFields) (listener : Option (Option (Fin 64))) (x : Mix) : Mix :=
  { x with
    label := pick x.label f.label
    listener := pick x.listener listener
    ceiling := pick x.ceiling (f.ceiling.map (clampCode (-80) 0)) }

/-- A selected listener that is a role names an ACTIVE one (R104, R106). -/
def listenerOk (listener : Option (Option (Fin 64))) (s : State) : Bool :=
  match listener with
  | some (some r) => (s.role r).active
  | some none => true
  | none => true

def mixSet (mix : Nat) (f : MixFields) (s : State) : Answer := do
  let i ← index 12 mix
  let listener ← opt (indexOpt 64) f.listener
  require (mixValuesOk f) .invalid
  require (listenerOk listener s) .notFound
  .ok ([], settleAll (writeSelected (.master i) f.master (s.modMix i (applyMix f listener))))

def execMixSet (mix : Nat) (fields : MixFields) (s : State) : Out :=
  .next (request 32 (.mixSet mix fields) (mixSet mix fields) s)

/-! ## MIX_ENTRY_SET, MIX_ENTRY_REMOVE (R107, R108) -/

/-- The sources an item list names with the levels given, clamped (R105); none when one names no source. -/
def entryItems : List EntryItem → Option (List (Source × Int))
  | [] => some []
  | i :: rest =>
    (sourceOf i.source.kind i.source.index).bind (fun src =>
      (entryItems rest).map ((src, clampCode off 40 i.level) :: ·))

/-- The source has an entry in the mix (R102). -/
def hasEntry (f : Fin 12) (src : Source) (s : State) : Bool :=
  (s.mix f).entries.any (fun e => decide (e.source = src))

/-- One item: CHANGED is a direct write of the SEND element, ADDED appends an entry (R107). -/
def setEntry (f : Fin 12) (s : State) (i : Source × Int) : State :=
  if hasEntry f i.1 s then directWrite (.send f i.1) i.2 s
  else s.modMix f (fun x => { x with entries := x.entries ++ [⟨i.1, i.2⟩] })

/-- 0 for ADDED and 1 for CHANGED, as the list of R107 names them in its rule's order. -/
def changedMark (changed : Bool) : Field := .byte (if changed then 1 else 0)

/-- The items whose source has no entry yet (R107). -/
def newSources (f : Fin 12) (items : List (Source × Int)) (s : State) : Nat :=
  (items.filter (fun i => !hasEntry f i.1 s)).length

/-- MIX_ENTRY_SET (R107). A list of more than 24 sources that differ is FULL, whatever the mix holds. DESIGN CHOICE, log 35: the marks of the items follow the entry count with no count byte of
their own. -/
def mixEntrySet (mix : Nat) (items : List EntryItem) (s : State) : Answer := do
  let f ← index 12 mix
  require (items.all (fun i => srcIndexOk i.source.kind i.source.index)) .badIndex
  require (decide (1 ≤ items.length)) .invalid
  let targets ← need .invalid (entryItems items)
  require (distinct (targets.map (·.1))) .invalid
  require (decide ((s.mix f).entries.length + newSources f targets s ≤ Config.mixEntryPlaces)) .full
  let s' := targets.foldl (setEntry f) s
  .ok (.byte (s'.mix f).entries.length :: targets.map (fun i => changedMark (hasEntry f i.1 s)), settleAll s')

def execMixEntrySet (mix : Nat) (items : List EntryItem) (s : State) : Out :=
  .next (request 33 (.mixEntrySet mix items) (mixEntrySet mix items) s)

/-- One entry leaves the mix, and the fade entry on its SEND element goes with it (R49, R108). -/
def dropEntry (f : Fin 12) (s : State) (src : Source) : State :=
  (removeEntry (.send f src) s).modMix f (fun x =>
    { x with entries := x.entries.filter (fun e => e.source ≠ src) })

/-- The sources of a mix, in insertion order. -/
def entrySources (f : Fin 12) (s : State) : List Source := (s.mix f).entries.map (·.source)

def removeSources (f : Fin 12) (srcs : List Source) (s : State) : Answer :=
  let s' := settleAll (srcs.foldl (dropEntry f) s)
  .ok ([.byte srcs.length, .byte (s'.mix f).entries.length], s')

def mixEntryRemove (mix : Nat) (form : RemoveForm) (s : State) : Answer := do
  let f ← index 12 mix
  match form with
  | .one a => do
    require (srcIndexOk a.kind a.index) .badIndex
    let src ← need .invalid (sourceOf a.kind a.index)
    require (hasEntry f src s) .notFound
    removeSources f [src] s
  | .all => removeSources f (entrySources f s) s
  | .unknown _ => .error .invalid

def execMixEntryRemove (mix : Nat) (form : RemoveForm) (s : State) : Out :=
  .next (request 34 (.mixEntryRemove mix form) (mixEntryRemove mix form) s)

/-! ## Talkback depths (R111) -/

/-- The duck depth a talkback record asks of mix `f`: 0 while it is OFF or does not target it. -/
def depthOn (f : Fin 12) (t : Talkback) : Int := if t.on && inSet t.targets f then t.depth else 0

/-- The largest duck depth among the records that are ON and target the mix, or 0 (R111). -/
def requiredDepth (f : Fin 12) (s : State) : Int :=
  max (depthOn f (s.talkback 0)) (depthOn f (s.talkback 1))

/-- A mix whose required depth changed gets a SYSTEM fade of TBDUCK f to the new one: 50 ms up, 200 ms
down (R111). -/
def reduck (before : State) (s : State) (f : Fin 12) : State :=
  let old := requiredDepth f before
  let new := requiredDepth f s
  if new = old then s else (fadeRequest (.tbDuck f) new (if old < new then 50 else 200) .system s).2

/-- A change of the talkback records with the ducks it asks for, in ascending mix number (R111, R112). -/
def changeTalkback (t : Fin 2) (g : Talkback → Talkback) (s : State) : State :=
  (List.finRange 12).foldl (reduck s) (s.modTalkback t g)

/-! ## MIX_READ, MIX_FIND (R109) -/

/-- The listener, 0 when absent (R164), with the role's current channel, performer and cover when there
is one (R104, R109). -/
def listenerFields (listener : Option (Fin 64)) (s : State) : List Field :=
  match listener with
  | none => [.byte 0]
  | some r =>
    let x := s.role r
    [.byte (num r), .byte (optNum x.channel), .two (x.performer.getD 0), .byte (coverNum x.cover)]

/-- A CHANNEL or PROGRAMME entry, or a ROLE entry whose role is ACTIVE with a current or releasing
channel (R109). -/
def liveMark (s : State) : Source → Bool
  | .role r => (s.role r).active && ((s.role r).channel.isSome || (s.role r).releasing.isSome)
  | .channel _ => true
  | .programme _ => true

def mixEntryFields (f : Fin 12) (s : State) (e : MixEntry) : List Field :=
  [.byte (sourceKind e.source), .byte (sourceIndex e.source), .level e.level,
   .byte (classNum (s.entry? (.send f e.source))), onOff (liveMark s e.source)]

/-- The talkback records that are ON and target the mix. -/
def talkbacksOn (f : Fin 12) (s : State) : List (Fin 2) :=
  (List.finRange 2).filter (fun t => (s.talkback t).on && inSet (s.talkback t).targets f)

def mixFields (f : Fin 12) (s : State) : List Field :=
  let m := s.mix f
  [.label m.label, .level m.master, .level m.ceiling, .level m.protect, .level m.duck] ++
    listenerFields m.listener s ++
    [.level (s.peak (.mix f)), .level (requiredDepth f s)] ++ listFields (talkbacksOn f s) ++
    .byte m.entries.length :: m.entries.flatMap (mixEntryFields f s)

def mixRead (mix : Nat) (s : State) : Answer := do
  let f ← index 12 mix
  .ok (mixFields f s, s)

def execMixRead (mix : Nat) (s : State) : Out := .next (request 35 (.mixRead mix) (mixRead mix) s)

/-- The mixes whose listener is the role (R109). -/
def listenerMixes (r : Fin 64) (s : State) : List (Fin 12) :=
  (List.finRange 12).filter (fun f => decide ((s.mix f).listener = some r))

/-- The mixes that hold a ROLE entry for the role (R109). -/
def entryMixes (r : Fin 64) (s : State) : List (Fin 12) :=
  (List.finRange 12).filter (fun f => hasEntry f (.role r) s)

def mixFind (role : Nat) (s : State) : Answer := do
  let r ← index 64 role
  .ok (listFields (listenerMixes r s) ++ listFields (entryMixes r s), s)

def execMixFind (role : Nat) (s : State) : Out := .next (request 36 (.mixFind role) (mixFind role) s)

/-! ## TALKBACK_SET, TALKBACK_ON, TALKBACK_OFF, TALKBACK_READ (R110, R111) -/

def talkbackAny (f : TalkbackFields) : Bool :=
  f.source.isSome || f.targets.isSome || f.level.isSome || f.depth.isSome

def applyTalkback (f : TalkbackFields) (source : Option (Option (Fin 64))) (targets : Option (BitVec 12))
    (x : Talkback) : Talkback :=
  { x with
    source := pick x.source source
    targets := pick x.targets targets
    level := pick x.level (f.level.map (clampCode off 40))
    depth := pick x.depth (f.depth.map (clampCode 0 400)) }

/-- The source of a record that is ON is not taken away (R110). -/
def keepsSource (source : Option (Option (Fin 64))) (on : Bool) : Bool :=
  match source with
  | some none => !on
  | some (some _) => true
  | none => true

def talkbackSet (tb : Nat) (f : TalkbackFields) (s : State) : Answer := do
  let t ← index 2 tb
  let source ← opt (indexOpt 64) f.source
  let targets ← opt (maskOf 12) f.targets
  require (talkbackAny f && !f.beyond) .invalid
  require (keepsSource source (s.talkback t).on) .inUse
  .ok ([], changeTalkback t (applyTalkback f source targets) s)

def execTalkbackSet (tb : Nat) (fields : TalkbackFields) (s : State) : Out :=
  .next (request 37 (.talkbackSet tb fields) (talkbackSet tb fields) s)

def talkbackOn (tb : Nat) (s : State) : Answer := do
  let t ← index 2 tb
  require (s.talkback t).source.isSome .invalid
  .ok ([], if (s.talkback t).on then s else changeTalkback t (fun x => { x with on := true }) s)

def execTalkbackOn (tb : Nat) (s : State) : Out := .next (request 38 (.talkbackOn tb) (talkbackOn tb) s)

def talkbackOff (tb : Nat) (s : State) : Answer := do
  let t ← index 2 tb
  .ok ([], if (s.talkback t).on then changeTalkback t (fun x => { x with on := false }) s else s)

def execTalkbackOff (tb : Nat) (s : State) : Out := .next (request 39 (.talkbackOff tb) (talkbackOff tb) s)

/-- Every field of R110, in its order. -/
def talkbackFields (t : Talkback) : List Field :=
  [.byte (optNum t.source), .set 2 t.targets.toNat, .level t.level, .level t.depth, onOff t.on]

def execTalkbackRead (s : State) : Out :=
  .next (request 40 .talkbackRead (fun s =>
    .ok (talkbackFields (s.talkback 0) ++ talkbackFields (s.talkback 1) ++
      (List.finRange 12).flatMap (fun f => [.level (requiredDepth f s), .level (s.mix f).duck]), s)) s)

end Sys2Proof.Machine
end

