-- ==== Sys2Proof/Machine/RelayRequests.lean ====
section
/-! DEFINITION. The meanings of the Relay Unit's requests (chapter 7). -/

namespace Sys2Proof.Machine

/-! ## RELAY_ENTRY_SET, RELAY_ENTRY_REMOVE (R117) -/

/-- The sources an item list names with the levels given, clamped; none when one names no source a relay
entry may have (R116, R117). -/
def relayItems : List EntryItem → Option (List (RelaySource × Int))
  | [] => some []
  | i :: rest =>
    (relaySourceOf i.source.kind i.source.index).bind (fun src =>
      (relayItems rest).map ((src, clampCode off 40 i.level) :: ·))

def hasRelayEntry (src : RelaySource) (s : State) : Bool :=
  s.relay.entries.any (fun e => decide (e.source = src))

/-- One item: CHANGED is a direct write of the RELAYSEND element, ADDED appends an entry (R117). -/
def setRelayEntry (s : State) (i : RelaySource × Int) : State :=
  if hasRelayEntry i.1 s then directWrite (.relaySend i.1) i.2 s
  else s.modRelay (fun x => { x with entries := x.entries ++ [⟨i.1, i.2⟩] })

def newRelaySources (items : List (RelaySource × Int)) (s : State) : Nat :=
  (items.filter (fun i => !hasRelayEntry i.1 s)).length

/-- A ROLE source is checked as a source of its own kind, and is INVALID here (R117); a list of more than 8 sources that differ
is FULL, whatever the relay holds. DESIGN CHOICE, log 35: the marks of
the items follow the entry count with no count byte of their own. -/
def relayEntrySet (items : List EntryItem) (s : State) : Answer := do
  require (items.all (fun i => srcIndexOk i.source.kind i.source.index)) .badIndex
  require (decide (1 ≤ items.length)) .invalid
  let targets ← need .invalid (relayItems items)
  require (distinct (targets.map (·.1))) .invalid
  require (decide (s.relay.entries.length + newRelaySources targets s ≤ Config.relayEntryPlaces)) .full
  let s' := targets.foldl setRelayEntry s
  .ok (.byte s'.relay.entries.length :: targets.map (fun i => changedMark (hasRelayEntry i.1 s)), settleAll s')

def execRelayEntrySet (items : List EntryItem) (s : State) : Out :=
  .next (request 41 (.relayEntrySet items) (relayEntrySet items) s)

/-- One main entry goes, and the fade entry on its RELAYSEND element with it (R49, R117). -/
def dropRelayEntry (s : State) (src : RelaySource) : State :=
  (removeEntry (.relaySend src) s).modRelay (fun x =>
    { x with entries := x.entries.filter (fun e => e.source ≠ src) })

def removeRelaySources (srcs : List RelaySource) (s : State) : Answer :=
  let s' := settleAll (srcs.foldl dropRelayEntry s)
  .ok ([.byte srcs.length, .byte s'.relay.entries.length], s')

def relayEntryRemove (form : RemoveForm) (s : State) : Answer :=
  match form with
  | .one a => do
    require (srcIndexOk a.kind a.index) .badIndex
    let src ← need .invalid (relaySourceOf a.kind a.index)
    require (hasRelayEntry src s) .notFound
    removeRelaySources [src] s
  | .all => removeRelaySources (s.relay.entries.map (·.source)) s
  | .unknown _ => .error .invalid

def execRelayEntryRemove (form : RemoveForm) (s : State) : Out :=
  .next (request 42 (.relayEntryRemove form) (relayEntryRemove form) s)

/-! ## RELAY_SET, RELAY_SELECT, RELAY_READ (R118, R135) -/

/-- The backup channel is not taken away while it is on the relay (R118). -/
def keepsBackup (channel : Option (Option (Fin 64))) (sel : Selection) : Bool :=
  match channel with
  | some none => decide (sel = .main)
  | some (some _) => true
  | none => true

def relaySet (f : RelayFields) (s : State) : Answer := do
  let channel ← opt (indexOpt 64) f.channel
  require ((f.channel.isSome || f.level.isSome) && !f.beyond) .invalid
  require (keepsBackup channel s.relay.selection) .inUse
  .ok ([], s.modRelay (fun x =>
    { x with
      backup := pick x.backup channel
      backupLevel := pick x.backupLevel (f.level.map (clampCode off 40)) }))

def execRelaySet (fields : RelayFields) (s : State) : Out :=
  .next (request 43 (.relaySet fields) (relaySet fields) s)

def relaySelect (selection : Nat) (s : State) : Answer := do
  let sel ← need .invalid (selectionOf selection)
  require (decide (sel = .main) || s.relay.backup.isSome) .invalid
  .ok ([.byte (selectionNum sel)], s.modRelay (fun x => { x with selection := sel }))

def execRelaySelect (selection : Nat) (s : State) : Out :=
  .next (request 44 (.relaySelect selection) (relaySelect selection) s)

def relayEntryFields (s : State) (e : RelayEntry) : List Field :=
  [.byte (relaySourceKind e.source), .byte (relaySourceIndex e.source), .level e.level,
   .byte (classNum (s.entry? (.relaySend e.source)))]

def relayFields (s : State) : List Field :=
  .byte s.relay.entries.length :: s.relay.entries.flatMap (relayEntryFields s) ++
    [.byte (optNum s.relay.backup), .level s.relay.backupLevel, .byte (selectionNum s.relay.selection),
     .level (s.peak .relay)]

def execRelayRead (s : State) : Out := .next (request 45 .relayRead (fun s => .ok (relayFields s, s)) s)

/-! ## STATION_SET, STATION_READ (R119, R135) -/

def stationAny (f : StationFields) : Bool :=
  f.label.isSome || f.volume.isSome || f.programme.isSome || f.calls.isSome

def stationValuesOk (f : StationFields) : Bool :=
  stationAny f && !f.beyond && optOk (labelOk 12) f.label && optOk onOffOk f.programme && optOk onOffOk f.calls

def applyStation (f : StationFields) (x : Station) : Station :=
  { x with
    label := pick x.label f.label
    programme := pick x.programme (f.programme.map isOn)
    calls := pick x.calls (f.calls.map isOn) }

/-- The selected values of one station; a selected volume is a direct write, which brings it to −400..0 (R119). -/
def setStation (f : StationFields) (s : State) (n : Fin 32) : State :=
  writeSelected (.station n) f.volume (s.modStation n (applyStation f))

def stationSet (stations : Nat) (f : StationFields) (s : State) : Answer := do
  let set ← maskOf 32 stations
  require (decide (stations ≠ 0) && stationValuesOk f) .invalid
  .ok ([], settleAll ((members set).foldl (setStation f) s))

def execStationSet (stations : Nat) (fields : StationFields) (s : State) : Out :=
  .next (request 46 (.stationSet stations fields) (stationSet stations fields) s)

/-- The preset of the active call when the station is in its set (R135). -/
def stationCall (n : Fin 32) (s : State) : Option (Fin 16) :=
  s.relay.active.bind (fun a => if inSet a.stations n then some a.call.preset else none)

/-- PROGRAMME, CALL (R119). -/
def stationStateNum (inCall : Bool) : Nat := if inCall then 1 else 0

def stationFields (n : Fin 32) (s : State) : List Field :=
  let x := s.station n
  [.label x.label, .level x.volume, onOff x.programme, onOff x.calls, .level x.duck,
   .byte (stationStateNum x.inCall), .byte (classNum (s.entry? (.station n))),
   .byte (classNum (s.entry? (.duck n))), .byte (optNum (stationCall n s)), .level (s.peak (.station n))]

def stationRead (station : Nat) (s : State) : Answer := do
  let n ← index 32 station
  .ok (stationFields n s, s)

def execStationRead (station : Nat) (s : State) : Out :=
  .next (request 47 (.stationRead station) (stationRead station) s)

/-! ## PRESET_SET, PRESET_READ (R121) -/

/-- The numbers of a target lie in their ranges (R121). -/
def targetIndexOk : RawTarget → Bool
  | .stations m => decide (m < 2 ^ 32)
  | .roles m => decide (m < 2 ^ 64)
  | .all => true
  | .unknown _ => true

/-- The target a preset takes; none for an empty set or an unknown form (R121, R164). -/
def targetOf : RawTarget → Option CallTarget
  | .stations m => if m = 0 then none else some (.stations (BitVec.ofNat 32 m))
  | .roles m => if m = 0 then none else some (.roles (BitVec.ofNat 64 m))
  | .all => some .all
  | .unknown _ => none

/-- The maximum length is clamped to 1,000–600,000 ms (R121). -/
def clampLength (n : Nat) : Nat := max 1000 (min n 600000)

/-- A silence limit is 0, or brought into 500–30,000 ms (R121). -/
def clampSilence (n : Nat) : Nat := if n = 0 then 0 else max 500 (min n 30000)

def presetSet (preset : Nat) (f : RawPreset) (s : State) : Answer := do
  let p ← index 16 preset
  let source ← indexOpt 64 f.source
  require (targetIndexOk f.target) .badIndex
  let target ← need .invalid (targetOf f.target)
  let priority ← need .invalid (priorityOf f.priority)
  require (!callLives p s) .inUse
  .ok ([], s.modPreset p (fun _ =>
    { source := source
      target := target
      priority := priority
      gain := clampCode off 40 f.gain
      depth := clampCode 0 400 f.depth
      maxLength := clampLength f.maxLength
      silence := clampSilence f.silence }))

def execPresetSet (preset : Nat) (fields : RawPreset) (s : State) : Out :=
  .next (request 48 (.presetSet preset fields) (presetSet preset fields) s)

/-- A form byte, then the set of that form (R164). -/
def targetFields : CallTarget → List Field
  | .stations m => [.byte 0, .set 4 m.toNat]
  | .roles m => [.byte 1, .set 8 m.toNat]
  | .all => [.byte 2]

/-- The preset's call state: IDLE, PENDING with its place in the queue, or ACTIVE (R121). -/
def presetCallFields (p : Fin 16) (s : State) : List Field :=
  if callActive p s then [.byte 2]
  else if callPending p s then
    [.byte 1, .byte (s.relay.queue.findIdx (fun c => decide (c.preset = p)) + 1)]
  else [.byte 0]

def presetFields (p : Fin 16) (s : State) : List Field :=
  let x := s.preset p
  .byte (optNum x.source) :: targetFields x.target ++
    [.byte (rank x.priority), .level x.gain, .level x.depth, .time x.maxLength, .time x.silence] ++
    presetCallFields p s

def presetRead (preset : Nat) (s : State) : Answer := do
  let p ← index 16 preset
  .ok (presetFields p s, s)

def execPresetRead (preset : Nat) (s : State) : Out :=
  .next (request 49 (.presetRead preset) (presetRead preset) s)

/-! ## CALL_START, CALL_END, CALL_READ (R123, R130, R135) -/

/-- ACTIVE, PENDING with its place, ENDED, numbered in the order of R123. -/
def outcomeFields : CallOutcome → List Field
  | .active => [.byte 0]
  | .pending n => [.byte 1, .byte n]
  | .ended => [.byte 2]

def callStart (preset : Nat) (s : State) : Answer := do
  let p ← index 16 preset
  match callRequest p .port s with
  | (.presetEmpty, _) => .error .notFound
  | (.inUse, _) => .error .inUse
  | (.full, _) => .error .full
  | (.accepted serial outcome other, s') =>
    .ok (.four serial.toNat :: outcomeFields outcome ++ [.byte (optNum other)], s')

def execCallStart (preset : Nat) (s : State) : Out := .next (request 50 (.callStart preset) (callStart preset) s)

/-- The preset now active, if any (R130). -/
def activePreset (s : State) : Option (Fin 16) := s.relay.active.map (fun a => a.call.preset)

/-- The response names the state the call was in: 0 PENDING, 1 ACTIVE, in the order of R122. -/
def callEnd (preset : Nat) (s : State) : Answer := do
  let p ← index 16 preset
  if callActive p s then
    let s' := endActive .host s
    .ok ([.byte 1, .byte (optNum (activePreset s'))], s')
  else if callPending p s then
    let s' := endPending p .host s
    .ok ([.byte 0, .byte (optNum (activePreset s'))], s')
  else .error .notFound

def execCallEnd (preset : Nat) (s : State) : Out := .next (request 51 (.callEnd preset) (callEnd preset) s)

def callFields (c : Call) : List Field :=
  [.byte (num c.preset), .byte (originNum c.origin), .four c.serial.toNat, .byte (rank c.priority)]

/-- The active call with the time remaining to its maximum length (R135); its preset is 0 when there is
none (R164). -/
def activeFields (s : State) : Option ActiveCall → List Field
  | none => [.byte 0]
  | some a =>
    callFields a.call ++
      [.set 4 a.stations.toNat, .time a.activeTime, .time a.silenceTime,
       .time ((s.preset a.call.preset).maxLength - a.activeTime)]

def execCallRead (s : State) : Out :=
  .next (request 52 .callRead (fun s =>
    .ok (.four s.relay.arrivals.toNat :: activeFields s s.relay.active ++
      .byte s.relay.queue.length :: s.relay.queue.flatMap callFields, s)) s)

end Sys2Proof.Machine
end

