-- ==== Sys2Proof/Machine/MonitorRequests.lean ====
section
/-! DEFINITION. The meanings of the Monitor Unit's requests (chapter 8). -/

namespace Sys2Proof.Machine

/-! ## MONITOR_SET (R139) -/

/-- MUTE_CHANNEL stands only on a CHANNEL point (R139). -/
def actionFits (action : TripAction) (point : Point) : Bool :=
  match action with
  | .notify => true
  | .relayBackup => true
  | .muteChannel =>
    match point with
    | .channel _ => true
    | .programme _ | .mix _ | .relay | .station _ => false

/-- The hold time is clamped to 1–60,000 ms (R139). -/
def clampHold (n : Nat) : Nat := max 1 (min n 60000)

/-- The checks of R139 in its order; an on/off byte or an enumeration beyond its values is INVALID (R164). -/
def monitorSet (monitor : Nat) (f : RawMonitor) (s : State) : Answer := do
  let m ← index 16 monitor
  require (pointIndexOk f.point) .badIndex
  require (onOffOk f.enabled) .invalid
  let point ← need .invalid (pointOf f.point)
  let condition ← need .invalid (windowOf f.condition)
  let action ← need .invalid (tripActionOf f.action)
  require (actionFits action point) .invalid
  let low := clampCode off 0 f.low
  let high := clampCode off 0 f.high
  require (decide (low ≤ high)) .invalid
  .ok ([], s.modMonitor m (fun _ =>
    { enabled := isOn f.enabled
      point := point
      low := low
      high := high
      condition := condition
      hold := clampHold f.hold
      action := action
      state := if isOn f.enabled then .watching else .off
      count := 0 }))

def execMonitorSet (monitor : Nat) (fields : RawMonitor) (s : State) : Out :=
  .next (request 53 (.monitorSet monitor fields) (monitorSet monitor fields) s)

/-! ## MONITOR_READ, METER_READ (R144, R145) -/

def pointFields (p : Point) : List Field := [.byte (pointAddr p).kind, .byte (pointAddr p).index]

/-- Every field of R138 in its order, then the peak, the condition mark and the member mark (R144). DESIGN CHOICE, log 16: the
count, up to 60,000, is sent in 2 bytes. -/
def monitorFields (m : Fin 16) (s : State) : List Field :=
  let x := s.monitor m
  onOff x.enabled :: pointFields x.point ++
    [.level x.low, .level x.high, .byte (windowNum x.condition), .time x.hold, .byte (tripActionNum x.action),
     .byte (monitorStateNum x.state), .two x.count, .level (s.peak x.point), onOff (monitorTrue x s),
     onOff (inSet s.attention.details.trips m)]

def monitorRead (monitor : Nat) (s : State) : Answer := do
  let m ← index 16 monitor
  .ok (monitorFields m s, s)

def execMonitorRead (monitor : Nat) (s : State) : Out :=
  .next (request 54 (.monitorRead monitor) (monitorRead monitor) s)

/-- Every point of a list, or none when one has a kind beyond the five (R164). -/
def pointsOf : List PointAddr → Option (List Point)
  | [] => some []
  | a :: rest => (pointOf a).bind (fun p => (pointsOf rest).map (p :: ·))

/-- The peaks in list order, after their count (R145). DESIGN CHOICE, log 13: more than 64 points are INVALID. -/
def meterRead (points : List PointAddr) (s : State) : Answer := do
  require (points.all pointIndexOk) .badIndex
  require (decide (1 ≤ points.length ∧ points.length ≤ 64)) .invalid
  let ps ← need .invalid (pointsOf points)
  .ok (.byte ps.length :: ps.map (fun p => .level (s.peak p)), s)

def execMeterRead (points : List PointAddr) (s : State) : Out :=
  .next (request 55 (.meterRead points) (meterRead points) s)

end Sys2Proof.Machine
end

