-- ==== Sys2Proof/Machine/LinkRequests.lean ====
section
/-! DEFINITION. The meanings of the Link Interface's requests (9.5). -/

namespace Sys2Proof.Machine

/-! ## LINK_SET (R159) -/

/-- Some item is selected. -/
def linkAny (f : LinkFields) : Bool :=
  f.inputs.rows.any (·.isSome) || f.outputs.rows.any (·.isSome) || f.monitor.isSome

def linkValuesOk (f : LinkFields) : Bool :=
  linkAny f && !f.beyond && f.inputs.rows.all (optOk onOffOk) && f.outputs.rows.all (optOk onOffOk) &&
    optOk onOffOk f.monitor

/-- One input link item (R154). -/
def setInput (f : LinkFields) (s : State) (n : Fin 4) : State :=
  match f.inputs.get n with
  | none => s
  | some v => if isOn v then enableLink n s else disableLink n s

/-- One output link item: the new enable waits for the link's next frame boundary (R156). -/
def setOutput (f : LinkFields) (s : State) (n : Fin 4) : State :=
  match f.outputs.get n with
  | none => s
  | some v =>
    s.modOutput n (fun x => { x with waitingEnable := if isOn v = x.enable then none else some (isOn v) })

/-- The clock monitor item (R149). -/
def setClockMonitor (f : LinkFields) (s : State) : State :=
  match f.monitor with
  | none => s
  | some v => s.modClock (fun x => { x with monitor := isOn v })

def applyLinks (f : LinkFields) (s : State) : State :=
  setClockMonitor f ((List.finRange 4).foldl (setOutput f) ((List.finRange 4).foldl (setInput f) s))

/-- MASTER, SLAVE; INTERNAL, WCK (R147). -/
def clockRoleNum : ClockRole → Nat
  | .master => 0
  | .slave => 1

def clockSourceNum : ClockSource → Nat
  | .internal => 0
  | .wck => 1

/-- The enable an output link has or takes at its next boundary, and whether it waits (R159). -/
def outputMark (s : State) (n : Fin 4) : List Field :=
  let x := s.output n
  [onOff (x.waitingEnable.getD x.enable), onOff x.waitingEnable.isSome]

def linkSetFields (s : State) : List Field :=
  (List.finRange 4).map (fun n => .byte (linkStateNum (s.receiver n).state)) ++
    (List.finRange 4).flatMap (outputMark s) ++
    [.byte (clockRoleNum s.links.clock.role), .byte (clockSourceNum s.links.clock.source),
     onOff s.links.clock.monitor]

def linkSet (f : LinkFields) (s : State) : Answer := do
  require (linkValuesOk f) .invalid
  let s' := applyLinks f s
  .ok (linkSetFields s', s')

def execLinkSet (fields : LinkFields) (s : State) : Out := .next (request 56 (.linkSet fields) (linkSet fields) s)

/-! ## CLOCK_RETURN (R150) -/

def clockReturn (s : State) : Answer :=
  match s.links.clock.role, s.links.clock.source with
  | .master, _ => .error .invalid
  | .slave, .wck => .ok ([], s)
  | .slave, .internal =>
    if wckPresent s then .ok ([], s.modClock (fun x => { x with returnWaiting := true })) else .error .invalid

def execClockReturn (s : State) : Out := .next (request 57 .clockReturn clockReturn s)

/-! ## SLOT_MAP_SET (R157) -/

def slotItemIndexOk (i : SlotItem) : Bool :=
  (idx 4 i.link).isSome && (idx 16 i.slot).isSome && (slotSourceOf i.source).isSome

/-- TRIGGER stands at OUT4 slot 16 and nowhere else (R157). -/
def triggerFits (n : Fin 4) (k : Fin 16) (src : SlotSource) : Bool :=
  decide (src ≠ .trigger) || (decide (n = 3) && decide (k = 15))

/-- The map entry an item names, and its new source. -/
def slotTarget (i : SlotItem) : Option (Fin 4 × Fin 16 × SlotSource) :=
  (idx 4 i.link).bind (fun n =>
    (idx 16 i.slot).bind (fun k =>
      (slotSourceOf i.source).bind (fun src => if triggerFits n k src then some (n, k, src) else none)))

def slotTargets : List SlotItem → Option (List (Fin 4 × Fin 16 × SlotSource))
  | [] => some []
  | i :: rest => (slotTarget i).bind (fun x => (slotTargets rest).map (x :: ·))

/-- An item is written beside the map in use, until the link's next frame boundary (R157). -/
def setMapSlot (s : State) (i : Fin 4 × Fin 16 × SlotSource) : State :=
  s.modOutput i.1 (fun x => { x with waitingSlots := x.waitingSlots.set i.2.1 (some i.2.2) })

def slotMapSet (items : List SlotItem) (s : State) : Answer := do
  require (items.all slotItemIndexOk) .badIndex
  require (decide (1 ≤ items.length ∧ items.length ≤ 64)) .invalid
  let targets ← need .invalid (slotTargets items)
  require (distinct (targets.map (fun t => (t.1, t.2.1)))) .invalid
  .ok ([], targets.foldl setMapSlot s)

def execSlotMapSet (items : List SlotItem) (s : State) : Out :=
  .next (request 58 (.slotMapSet items) (slotMapSet items) s)

/-! ## LINK_READ (R160) -/

def receiverFields (s : State) (n : Fin 4) : List Field :=
  let r := s.receiver n
  [onOff r.enable, .byte (linkStateNum r.state), .byte r.missed, .two r.slips, .level r.ramp,
   onOff (s.entry? (.link n)).isSome]

/-- The enable of an output link and what waits for its next frame boundary (R160). DESIGN CHOICE, log 34: STATUS shows a
waiting enable alone, and MAP shows the map entries that wait. -/
def waitingFields (s : State) (n : Fin 4) : List Field :=
  let x := s.output n
  onOff x.enable :: optFields (fun v => [onOff v]) x.waitingEnable

def linkStatusFields (s : State) : List Field :=
  let c := s.links.clock
  [.byte (clockRoleNum c.role), .byte (clockSourceNum c.source), onOff c.monitor, onOff (wckPresent s),
   onOff c.returnWaiting, .byte c.frameCount] ++
    (List.finRange 4).flatMap (receiverFields s) ++ (List.finRange 4).flatMap (waitingFields s) ++
    [.set 1 s.attention.details.links.toNat]

/-- Each slip count is cleared as it is read (R160). -/
def clearSlips (s : State) : State :=
  { s with links := { s.links with receivers := s.links.receivers.map (fun r => { r with slips := 0 }) } }

/-- One entry of the map as last written, marked when it waits for the link's next boundary (R160). -/
def mapFields (x : OutLink) (k : Fin 16) : List Field :=
  [.byte (slotSourceNum ((x.waitingSlots.get k).getD (x.slots.get k))), onOff (x.waitingSlots.get k).isSome]

def linkMapFields (s : State) : List Field :=
  (List.finRange 4).flatMap (fun n => (List.finRange 16).flatMap (mapFields (s.output n)))

/-- Form 0 is STATUS and form 1 is MAP (R160, R164). -/
def linkRead (form : Nat) (s : State) : Answer :=
  match form with
  | 0 => .ok (linkStatusFields s, clearSlips s)
  | 1 => .ok (linkMapFields s, s)
  | _ => .error .invalid

def execLinkRead (form : Nat) (s : State) : Out := .next (request 59 (.linkRead form) (linkRead form) s)

end Sys2Proof.Machine
end

