-- ==== Sys2Proof/Machine/Port.lean ====
section
/-! DEFINITION. The Control Port's shared operations (10.1, 10.3): the bytes of a response, and the two ends of a
transaction. -/

namespace Sys2Proof.Machine

/-! ## The bytes of a response (R163, R164) -/

def statusNum : Status → Nat
  | .ok => 0
  | .notReady => 1
  | .badRequest => 2
  | .badIndex => 3
  | .notFound => 4
  | .full => 5
  | .inUse => 6
  | .held => 7
  | .endOfList => 8
  | .invalid => 9

/-- `n` bytes of a number, most significant first. -/
def bytesOf : Nat → Nat → List Byte
  | 0, _ => []
  | n + 1, v => BitVec.ofNat 8 (v / 256 ^ n) :: bytesOf n v

/-- The 16 bits of a signed value, in two's complement. -/
def levelBits (z : Int) : Nat := (BitVec.ofInt 16 z).toNat

def fieldBytes : Field → List Byte
  | .byte n => bytesOf 1 n
  | .two n => bytesOf 2 n
  | .time n => bytesOf 3 n
  | .four n => bytesOf 4 n
  | .level z => bytesOf 2 (levelBits z)
  | .set k m => bytesOf k m
  | .label l => bytesOf 1 l.length ++ l.flatMap (bytesOf 1)

def payloadBytes (r : Response) : List Byte := r.fields.flatMap fieldBytes

/-- Status, echoed code, payload length, payload (R164). -/
def responseBytes (r : Response) : List Byte :=
  bytesOf 1 (statusNum r.status) ++ bytesOf 1 r.code ++ bytesOf 2 (payloadBytes r).length ++ payloadBytes r

/-! ## Transactions (R161) -/

/-- What a transaction that begins now shifts out, by the state of the pending response. -/
def shownResponse : PortResponse → Response
  | .empty => ⟨.ok, 0, []⟩
  | .ready r => r
  | .executing code _ => ⟨.notReady, code, []⟩

/-- A request is being executed. -/
def isExecuting : PortResponse → Bool
  | .empty => false
  | .ready _ => false
  | .executing _ _ => true

/-- SEL_N falls outside a reset procedure. -/
def beginTransaction (s : State) : State :=
  { s with port :=
      { s.port with
        transaction := .opened (isExecuting s.port.response)
        sdo := some (responseBytes (shownResponse s.port.response)) } }

/-- SEL_N is high again: SDO is undriven. -/
def closePort (s : State) : State := { s with port := { s.port with transaction := .closed, sdo := none } }

/-- SEL_N is low with no transaction open on it. -/
def ignoreTransaction (s : State) : State := { s with port := { s.port with transaction := .ignored, sdo := none } }

/-- What the frame received at SEL_N rise makes of the pending response (R161, R162, R171). -/
def frameResponse : FrameKind → PortResponse
  | .portReset => .ready ⟨.ok, 3, []⟩
  | .bad echo => .ready ⟨.badRequest, echo, []⟩
  | .request code i => .executing code i

/-- The request frame received is taken, and the response shifted out is used up. -/
def takeRequest (bytes : List Byte) (bitsOver : Fin 8) (s : State) : State :=
  closePort { s with port := { s.port with response := frameResponse (classifyFrame bytes bitsOver) } }

/-- SEL_N rises: a transaction that met an executing request is discarded. A transaction whose beginning is
no command of its own began under the response as it stands. DESIGN CHOICE, log 28. -/
def endTransaction (bytes : List Byte) (bitsOver : Fin 8) (s : State) : State :=
  match s.port.transaction with
  | .ignored => closePort s
  | .opened true => closePort s
  | .opened false => takeRequest bytes bitsOver s
  | .closed => if isExecuting s.port.response then closePort s else takeRequest bytes bitsOver s

def execTransactionBegin (s : State) : Out :=
  .next (if s.inReset then ignoreTransaction s
    else
      match s.port.transaction with
      | .closed => beginTransaction s
      | .opened _ => s
      | .ignored => s)

def execTransaction (bytes : List Byte) (bitsOver : Fin 8) (s : State) : Out :=
  .next (if s.inReset then closePort s else endTransaction bytes bitsOver s)

end Sys2Proof.Machine
end

