-- ==== Sys2Proof/Machine/PortRequests.lean ====
section
/-! DEFINITION. The meanings of the Control Port's own requests (10.1, 10.4, 10.5). -/

namespace Sys2Proof.Machine

/-! ## POLL, IDENTIFY, PORT_RESET (R162, R171, R173) -/

/-- Nothing changes, and the answer is OK with length 0. -/
def answerOk (s : State) : Answer := .ok ([], s)

def execPoll (s : State) : Out := .next (request 1 .poll answerOk s)

def execPollAlias (s : State) : Out := .next (request 60 .pollAlias answerOk s)

/-- The part's identity and its capacities, in the order of R173. -/
def identityFields : List Field :=
  [.two 0x0F52, .two 7240, .byte Config.siliconRevision, .byte 64, .byte 64, .byte 16, .byte 8, .byte 12,
   .byte Config.mixEntryPlaces, .byte 2, .byte Config.relayEntryPlaces, .byte 32, .byte 16,
   .byte Config.callPlaces, .byte 16, .byte 8, .byte Config.actionPlaces, .two Config.cuePlaces,
   .byte Config.fadePlaces, .byte Config.triggerPlaces, .byte 4, .byte 4, .byte 16]

def execIdentify (s : State) : Out := .next (request 2 .identify (fun s => .ok (identityFields, s)) s)

/-- PORT_RESET: the pending response becomes READY with OK, and nothing else changes (R171). -/
def execPortReset (s : State) : Out := .next (request 3 .portReset answerOk s)

/-! ## CLEAR_SHOW (R172) -/

/-- Every call ends CLEARED, the pending calls before the active one (R136). -/
def clearCalls (s : State) : State :=
  let s1 := s.relay.queue.foldl (fun s c => raiseCallChange c.preset .cleared s) s
  match s.relay.active with
  | none => s1
  | some a => raiseCallChange a.call.preset .cleared s1

/-- A fade entry on a LINK element (R43). -/
def onLink (e : FadeEntry) : Bool :=
  match e.element with
  | .link _ => true
  | .group _ | .role _ | .master _ | .send _ _ | .relaySend _ | .station _ | .duck _ | .tbDuck _ | .xout _
  | .xin _ => false

/-- The Cue Engine keeps HOLD, the timer, the last interval, the serial counter and its inputs (R100). -/
def clearEngine (e : CueEngine) : CueEngine :=
  { e with slots := Table.replicate 8 {}, safes := 0#125, follow := none, triggers := [] }

/-- Every show record at its value after CLEAR_SHOW, in one step (R43, R59, R100, R101, R110, R136, R146, R172). -/
def clearRecords (s : State) : State :=
  { s with
    table := {}
    fades := s.fades.filter onLink
    cues := {}
    engine := clearEngine s.engine
    foldback := {}
    relay := { arrivals := s.relay.arrivals }
    monitors := Table.replicate 16 {} }

def clearShow (s : State) : Answer := .ok ([], clearRecords (clearCalls s))

def execClearShow (s : State) : Out := .next (request 4 .clearShow clearShow s)

/-! ## Attention (R167) -/

/-- The conditions in bit order. -/
def conditions : List Condition :=
  [.powerReset, .supplyReset, .pinReset, .clockFallback, .linkChange, .cueFired, .cueDone, .cueForced, .fadeSnap,
   .actionSkipped, .goIgnored, .triggerLost, .callChange, .limiter, .monitorTrip, .holdChange]

/-- HELD, END (R166). -/
def ignoreReasonNum : IgnoreReason → Nat
  | .held => 0
  | .ended => 1

/-- The detail of a condition; a detail that is clear is sent as zeros. DESIGN CHOICE, log 12. -/
def detailFields (d : Details) : Condition → List Field
  | .powerReset | .supplyReset | .pinReset | .clockFallback => []
  | .linkChange => [.set 1 d.links.toNat]
  | .cueFired => [.two (d.fired.getD 0)]
  | .cueDone => [.two (d.done.getD (0, 0)).1, .byte (d.done.getD (0, 0)).2]
  | .cueForced => [.two (d.forced.getD 0)]
  | .fadeSnap => [.byte d.snaps]
  | .actionSkipped => [.byte d.skips]
  | .goIgnored => [.byte ((d.ignored.map ignoreReasonNum).getD 0)]
  | .triggerLost => [.byte d.lost]
  | .callChange => [.byte (optNum (d.call.map Prod.fst)), .byte ((d.call.map (fun x => endReasonNum x.2)).getD 0)]
  | .limiter => [.set 2 d.limiter.toNat]
  | .monitorTrip => [.set 2 d.trips.toNat]
  | .holdChange => [onOff (d.hold.getD false)]

def attentionFields (s : State) : List Field :=
  [.set 2 s.attention.flags.toNat, .set 2 s.attention.enables.toNat] ++
    conditions.flatMap (detailFields s.attention.details)

def execAttentionRead (s : State) : Out :=
  .next (request 5 .attentionRead (fun s => .ok (attentionFields s, s)) s)

/-- The flags and details of the selected conditions as they stood just before the clear (R167). DESIGN CHOICE, log 37: the
flags are a set of 16 with the bits that are not selected at 0. -/
def selectedFields (mask : BitVec 16) (s : State) : List Field :=
  .set 2 (s.attention.flags &&& mask).toNat ::
    (conditions.filter (fun c => inSet mask (condBit c))).flatMap (detailFields s.attention.details)

def attentionClear (mask : Nat) (s : State) : Answer := do
  let m ← maskOf 16 mask
  .ok (selectedFields m s, clearConditions m s)

def execAttentionClear (mask : Nat) (s : State) : Out :=
  .next (request 6 (.attentionClear mask) (attentionClear mask) s)

def attentionEnable (mask : Nat) (s : State) : Answer := do
  let m ← maskOf 16 mask
  .ok ([.set 2 m.toNat, .set 2 s.attention.flags.toNat],
    { s with attention := { s.attention with enables := m } })

def execAttentionEnable (mask : Nat) (s : State) : Out :=
  .next (request 7 (.attentionEnable mask) (attentionEnable mask) s)

end Sys2Proof.Machine
end

