-- ==== Sys2Proof/Machine/Resets.lean ====
section
/-! DEFINITION. Whole-device resets (10.5): the three causes, the procedure, the strap, and the state a procedure leaves. -/

namespace Sys2Proof.Machine

/-! ## Causes and procedures (R169) -/

/-- PIN below SUPPLY below POWER (R169). -/
def causeRank : Cause → Nat
  | .pin => 1
  | .supply => 2
  | .power => 3

/-- A cause is present, or is not any more. -/
def markCause (c : Cause) (present : Bool) (r : Resets) : Resets :=
  match c with
  | .power => { r with power := present }
  | .supply => { r with supply := present }
  | .pin => { r with pin := present }

/-- A counting monitor stops counting (R170). -/
def stopCounting (m : Monitor) : Monitor :=
  { m with count := 0, state := if m.state = .counting then .watching else m.state }

/-- A request being executed is dropped (R170). -/
def dropExecuting : PortResponse → PortResponse
  | .executing _ _ => .empty
  | .empty => .empty
  | .ready r => .ready r

/-- An open transaction is ignored from now on (R161, R170). -/
def dropTransaction : Transaction → Transaction
  | .closed => .closed
  | .opened _ => .ignored
  | .ignored => .ignored

/-- Every operation in flight is abandoned without a report, and SDO and the output lines are undriven (R170).
The records keep their values until the procedure's end. DESIGN CHOICE, log 25. -/
def abandon (s : State) : State :=
  { s with
    fades := []
    engine := { s.engine with slots := Table.replicate 8 {} }
    relay :=
      { s.relay with
        stations := s.relay.stations.map (fun x => { x with inCall := false })
        active := none
        queue := [] }
    monitors := s.monitors.map stopCounting
    links :=
      { s.links with
        clock := { s.links.clock with returnWaiting := false }
        outputs := s.links.outputs.map (fun x => { x with sent := Table.replicate 16 none }) }
    port :=
      { response := dropExecuting s.port.response
        transaction := dropTransaction s.port.transaction
        sdo := none } }

/-- A procedure with this cause, from its beginning: no strap sample is kept (R169). -/
def setProcedure (c : Cause) (s : State) : State :=
  { s with resets := { s.resets with procedure := some { cause := c } } }

/-- A cause arrives: it starts a procedure, restarts or takes over the one running, or waits behind one
of higher priority (R169). -/
def causeArrives (c : Cause) (s : State) : State :=
  let s1 : State := { s with resets := markCause c true s.resets }
  match s.resets.procedure with
  | none => setProcedure c (abandon s1)
  | some p => if causeRank p.cause ≤ causeRank c then setProcedure c s1 else s1

def execPowerCause (s : State) : Out := .next (causeArrives .power s)

def execSupplyCause (s : State) : Out := .next (causeArrives .supply s)

def execPinCause (s : State) : Out := .next (causeArrives .pin s)

/-- The procedure's own cause has ended: its hold time begins (R169). -/
def endCause (c : Cause) (p : Procedure) : Procedure := if p.cause = c then { p with ended := true } else p

def execCauseEnd (cause : Cause) (s : State) : Out :=
  .next { s with resets :=
    { markCause cause false s.resets with procedure := s.resets.procedure.map (endCause cause) } }

/-! ## The strap (R170) -/

/-- The window opens after the cause has ended, and one instant of it is latched (R169, R170). -/
def latchStrap (high : Bool) (p : Procedure) : Procedure :=
  if p.ended ∧ p.strap.isNone then { p with strap := some high } else p

def execClkroleLatch (high : Bool) (s : State) : Out :=
  .next { s with resets := { s.resets with procedure := s.resets.procedure.map (latchStrap high) } }

/-! ## The end of a procedure (R170) -/

/-- A high strap gives SLAVE (R147). -/
def strapRole (high : Bool) : ClockRole := if high then .slave else .master

/-- The source after a procedure: INTERNAL in MASTER and WCK in SLAVE (R147). -/
def sourceAfter : ClockRole → ClockSource
  | .master => .internal
  | .slave => .wck

/-- A show input after a reset: its line stands as it stood (R75). -/
def resetInput (edge : ActingEdge) (i : ShowInput) : ShowInput := { line := i.line, edge := edge }

/-- Every block at its values after a whole-device reset with this strap level and cause (R39, R43, R59, R101, R116,
R138, R147, R151, R166, R170). SEL_N low is an ignored transaction (R161), and the queue of commands is no part of the block.
DESIGN CHOICE, logs 3 and 4: the lines, and WCK as present or absent, stand as they stood before the procedure. -/
def stateAfterReset (high : Bool) (cause : Cause) (s : State) : State :=
  { engine :=
      { goInput := resetInput .press s.engine.goInput
        holdInput := resetInput .press s.engine.holdInput
        callInput := resetInput .both s.engine.callInput }
    links :=
      { clock :=
          { role := strapRole high
            source := sourceAfter (strapRole high)
            wckAge := s.links.clock.wckAge } }
    attention := { flags := only (condBit (causeCondition cause)) }
    port := { transaction := dropTransaction s.port.transaction }
    resets := { power := s.resets.power, supply := s.resets.supply, pin := s.resets.pin }
    freeIndex := s.freeIndex
    pending := s.pending }

/-- The cause of highest priority among those present (R169). -/
def presentCause (r : Resets) : Option Cause :=
  if r.power then some .power
  else if r.supply then some .supply
  else if r.pin then some .pin
  else none

/-- A cause that is still present when a procedure ends starts a procedure of its own (R169). DESIGN CHOICE, log 22: so does
a lower cause whose own procedure was taken over. -/
def startWaiting (s : State) : State :=
  match presentCause s.resets with
  | none => s
  | some c => setProcedure c (abandon s)

/-- The role is the level latched; without a sample it is a free value. FREE VALUE, log 20. -/
def endProcedure (p : Procedure) (s : State) : State :=
  match p.strap with
  | some high => startWaiting (stateAfterReset high p.cause s)
  | none => startWaiting (stateAfterReset (Config.unlatchedStrap s.freeIndex) p.cause s.readFree)

/-- The hold time runs only after the procedure's cause has ended (R169). -/
def execResetProcedureEnd (s : State) : Out :=
  .next
    (match s.resets.procedure with
     | none => s
     | some p => if p.ended then endProcedure p s else s)

end Sys2Proof.Machine
end

