-- ==== Sys2Proof/Machine/Events.lean ====
section
/-! DEFINITION. The meanings of the events that are neither requests nor resets: frames, interval ends and the events
inside them, show inputs, links and the frame clock. No event acts while a reset procedure runs (R170), and an event
whose condition does not hold changes nothing. DESIGN CHOICE, log 5. -/

namespace Sys2Proof.Machine

/-! ## Frames and interval ends (R34, R148) -/

def execFrame (wckEdge : Bool) (s : State) : Out := outsideReset (partFrame wckEdge) s

/-- The end of the interval whose 48th frame has been computed, or what is left of it (R148). Where no end is due, and in a
pause of the frame clock (R147), the lines that moved stand at their new levels and nothing ends. DESIGN CHOICE, log 8. -/
def controlEnd (go hold call : Option Line) (s : State) : State :=
  if endOpen s then intervalEnd go hold call s else moveLines go hold call s

def execControlIntervalEnd (go hold call : Option Line) (s : State) : Out := outsideReset (controlEnd go hold call) s

/-! ## What an interval end brings about, one thing at a time. DESIGN CHOICE, log 7: each is its part of the end that is
due, taken before CONTROL_INTERVAL_END takes the rest. -/

/-- The entry on the element makes the step that completes it (R50, R53); a fade that belongs to the interval that follows
makes none at this end (R47). -/
def fadeComplete (el : Element) (s : State) : State :=
  match s.entry? el with
  | none => s
  | some e =>
    if !s.ending.stepped && !s.ending.fresh.contains el && !standsStill s e && lastStep e then
      settleAll (completeEntry e (beginBlock .fades s))
    else s

def execFadeComplete (element : Element) (s : State) : Out := blockPart .fades (fadeComplete element) s

/-- The end that is due brings the remaining delay to 0 (R85). -/
def fallsDue (p : PendingAction) : Bool := decide (p.remaining ≤ 1)

/-- The pending actions of a slot that fall due at this end, in list order (R85). -/
def falling (k : Fin 8) (s : State) : List PendingAction := (s.slot k).actions.filter fallsDue

/-- The first action of the slot that falls due, `p`, executes and leaves the list; a cue whose fade it took completes at that
loss report (R85, R90). -/
def takeFalling (k : Fin 8) (s : State) (p : PendingAction) : State :=
  settleOthers k ((execAction k false p.action s).modSlot k (fun x => { x with actions := x.actions.eraseP fallsDue }))

/-- Every action of the slot that falls due executes, and the slot is tested for completion (R85, R90). -/
def takeSlot (s : State) (k : Fin 8) : State := settle k ((falling k s).foldl (takeFalling k) s)

/-- The RUNNING slots older than this one of which an action falls due, from the oldest (R79, R85). -/
def olderDue (k : Fin 8) (s : State) : List (Fin 8) :=
  (slotsByAge s).filter (fun j => decide (slotAge s k < slotAge s j) && !(falling j s).isEmpty)

/-- The first pending action of the slot that falls due executes, after every action of an older slot that falls due at the same
end, and the slot is tested for completion (R79, R85, R90); under HOLD none does (R97), nor once the slots have been counted at
this end. -/
def actionDue (k : Fin 8) (s : State) : State :=
  if !s.engine.hold && !s.ending.counted && (s.slot k).running then
    match falling k s with
    | [] => s
    | p :: _ => settle k (takeFalling k ((olderDue k s).foldl takeSlot (beginBlock .cue s)) p)
  else s

def execActionDue (slot : Fin 8) (s : State) : Out := blockPart .cue (actionDue slot) s

/-- The timer counts to the time the follow compare is armed with (R94, R95): stages 1 and 2 of R82 are taken, and the
cue the GO starts counts first at the next end. -/
def followGo (s : State) : State :=
  if !s.engine.hold && !s.ending.counted && followReached s.engine.follow (s.engine.timer + 1) then
    takeCounts (beginBlock .cue s)
  else s

def execFollowGo (s : State) : Out := blockPart .cue followGo s

/-- The active call that is counted at this end, if it has not been counted yet (R132). -/
def callToCount (s : State) : Option ActiveCall := if s.ending.called then none else s.relay.active

/-- The active call has been counted at this end: the one that replaces it is counted from the next (R132). -/
def markCalled (s : State) : State := s.modEnding (fun x => { x with called := true })

def callTimeout (s : State) : State :=
  match callToCount s with
  | none => s
  | some a => if timesOut a s then endActive .timeout (markCalled (beginBlock .relay s)) else s

def execCallTimeout (s : State) : Out := blockPart .relay callTimeout s

/-- The silence check reads the peak of the interval that ended (R38); when both limits are reached the reason is TIMEOUT
(R132). -/
def callSilent (s : State) : State :=
  match callToCount s with
  | none => s
  | some a =>
    if !timesOut a s && fallsSilent a (takePeaks s) then endActive .silent (markCalled (takePeaks (beginBlock .relay s))) else s

def execCallSilent (s : State) : Out := blockPart .relay callSilent s

/-- The count of a monitor that has not tripped yet (R141). -/
def armed (m : Monitor) : Bool :=
  match m.state with
  | .watching => true
  | .counting => true
  | .off => false
  | .tripped => false

/-- The monitor has taken its step at this end (R141). -/
def markMonitor (i : Fin 16) (s : State) : State := s.modEnding (fun x => { x with monitors := x.monitors ||| only i })

/-- The end that is due brings the count to the hold time: the condition is tested on the peak of the interval that ended
(R38, R140 to R142). -/
def monitorTrip (i : Fin 16) (s : State) : State :=
  let m := s.monitor i
  if !inSet s.ending.monitors i && armed m && monitorTrue m (takePeaks s) && decide (m.hold ≤ m.count + 1) then
    tripMonitor i (m.count + 1) (markMonitor i (takePeaks (beginBlock .monitors s)))
  else s

def execMonitorTrip (monitor : Fin 16) (s : State) : Out := blockPart .monitors (monitorTrip monitor) s

/-! ## Show inputs (R75, R76) -/

/-- A press is a change to low, a release a change to high (R75). -/
def edgeLevel : Edge → Line
  | .press => .low
  | .release => .high

/-- The filter has accepted the edge: the line and the accepted level stand at its level. DESIGN CHOICE, log 9. -/
def acceptEdge (e : Edge) (i : ShowInput) : ShowInput :=
  { i with line := edgeLevel e, accepted := edgeLevel e, primed := true, count := 0 }

/-- The place of a line's sample in stage 3 (R82). -/
def sampleRank : Sampled → Nat
  | .none => 0
  | .hold => 1
  | .go => 2
  | .all => 3

/-- The lines whose samples come before this one's are sampled, as they stand (R82). -/
def linesBefore (l : Sampled) (s : State) : State :=
  match l, s.ending.sampled with
  | .go, .none => sampleHold s
  | .all, .none => sampleGo (sampleHold s)
  | .all, .hold => sampleGo s
  | _, _ => s

/-- An accepted edge while an end is due is the sample of its line at that end, after stages 1 and 2 and after the lines
before it (R75, R82); when its line has been sampled at that end, or a line after it, it comes after the whole of that end. -/
def edgeInEnd (l : Sampled) (f : State → State) (s : State) : State :=
  let u := meetBlock .cue s
  if sampleRank l ≤ sampleRank u.ending.sampled then f (intervalEnd none none none u)
  else (f (linesBefore l (cueCounts (beginBlock .cue u)))).modEnding (fun x => { x with sampled := l })

/-- An accepted edge is stage 3 of the end that is due, if one is, and in a pause of the frame clock the filters stand still
and accept none (R147). DESIGN CHOICE, log 9. -/
def lineEdge (l : Sampled) (f : State → State) (s : State) : Out :=
  outsideReset (fun s => if paused s then s else if s.ending.due then edgeInEnd l f s else f s) s

def goPress (e : Edge) (s : State) : State :=
  goEdge e (s.modEngine (fun x => { x with goInput := acceptEdge e x.goInput }))

def execGoNPress (edge : Edge) (s : State) : Out := lineEdge .go (goPress edge) s

def holdPress (e : Edge) (s : State) : State :=
  holdEdge e (s.modEngine (fun x => { x with holdInput := acceptEdge e x.holdInput }))

def execHoldNPress (edge : Edge) (s : State) : Out := lineEdge .hold (holdPress edge) s

/-- A press or release of CALL_N (R76, R131). -/
def callKey (e : Edge) (s : State) : State :=
  callEdge e (s.modEngine (fun x => { x with callInput := acceptEdge e x.callInput }))

def execCallNPress (s : State) : Out := lineEdge .all (callKey .press) s

def execCallNRelease (s : State) : Out := lineEdge .all (callKey .release) s

/-! ## Input links (R152 to R155) -/

/-- An enabled receiver to which a frame sync has come takes the 16 words (R152). -/
def frameArrival (n : Fin 4) (words : Table SlotWord 16) (s : State) : State :=
  if (s.receiver n).enable && (s.receiver n).receiving then linkArrival n (words.map wordSample) s else s

def execLinkFrameArrival (link : Fin 4) (words : Table SlotWord 16) (s : State) : Out :=
  event (frameArrival link words) s

/-- A frame sync begins a link frame at an enabled receiver (R152, R154). -/
def frameSync (n : Fin 4) (s : State) : State :=
  if (s.receiver n).enable then s.modReceiver n (fun x => { x with receiving := true }) else s

def execFrameSync (link : Fin 4) (s : State) : Out := event (frameSync link) s

/-- A sync before the 16th word: the partial frame is discarded, no slip is counted, and a new one begins
(R152). -/
def partialDiscard (n : Fin 4) (s : State) : State :=
  if (s.receiver n).enable && (s.receiver n).receiving then
    s.modReceiver n (fun x => { x with receiving := true })
  else s

def execPartialFrameDiscard (link : Fin 4) (s : State) : Out := event (partialDiscard link) s

/-- A link that has bridged all it may is lost (R153, R155): a part of the next frame, so none in a pause (R147). -/
def linkLost (n : Fin 4) (s : State) : State :=
  if !paused s && linkSpent (s.receiver n) then loseLink n s else s

def execLinkLost (link : Fin 4) (s : State) : Out := event (linkLost link) s

/-! ## Output links and the frame clock (R149, R150, R156) -/

/-- No output link frame is sent in a pause of the frame clock (R147, R156). -/
def execOutputLinkFrame (link : Fin 4) (s : State) : Out :=
  event (fun s => if paused s then s else sendFrame link s) s

/-- WCK has become absent under source WCK: the source switches, if the role and the monitor say so (R149). -/
def fallback (s : State) : State :=
  match s.links.clock.source with
  | .internal => s
  | .wck => if fallsBack s then fallBack (markAbsent s) else markAbsent s

def execFallback (s : State) : Out := event fallback s

/-- A WCK edge with a return waiting (R150). -/
def returnToWck (s : State) : State := if s.links.clock.returnWaiting then takeReturn s else s

def execReturnToWck (s : State) : Out := event returnToWck s

/-- WCK has become absent with a return waiting (R150). -/
def returnAbandoned (s : State) : State :=
  if s.links.clock.returnWaiting then abandonReturn (markAbsent s) else s

def execReturnAbandoned (s : State) : Out := event returnAbandoned s

end Sys2Proof.Machine
end

