-- ==== Sys2Proof/Machine/Dispatch.lean ====
section
/-! DEFINITION. The dispatch: one arm for each command, one call of its meaning in each arm. -/

namespace Sys2Proof.Machine

def exec (i : Instr) (s : State) : Host.Outcome State Fault Refusal :=
  match i with
  | .transaction bytes bitsOver => Sys2Proof.Machine.execTransaction bytes bitsOver s
  | .poll => Sys2Proof.Machine.execPoll s
  | .pollAlias => Sys2Proof.Machine.execPollAlias s
  | .identify => Sys2Proof.Machine.execIdentify s
  | .portReset => Sys2Proof.Machine.execPortReset s
  | .clearShow => Sys2Proof.Machine.execClearShow s
  | .attentionRead => Sys2Proof.Machine.execAttentionRead s
  | .attentionClear mask => Sys2Proof.Machine.execAttentionClear mask s
  | .attentionEnable mask => Sys2Proof.Machine.execAttentionEnable mask s
  | .roleRead role => Sys2Proof.Machine.execRoleRead role s
  | .channelRead channel => Sys2Proof.Machine.execChannelRead channel s
  | .groupRead group => Sys2Proof.Machine.execGroupRead group s
  | .roleFind performer covers => Sys2Proof.Machine.execRoleFind performer covers s
  | .roleSet role label performer cover => Sys2Proof.Machine.execRoleSet role label performer cover s
  | .roleModify roles fields => Sys2Proof.Machine.execRoleModify roles fields s
  | .channelSet channels fields => Sys2Proof.Machine.execChannelSet channels fields s
  | .groupSet group fields => Sys2Proof.Machine.execGroupSet group fields s
  | .roleRetire role => Sys2Proof.Machine.execRoleRetire role s
  | .roleRebind role channel time => Sys2Proof.Machine.execRoleRebind role channel time s
  | .levelSet items => Sys2Proof.Machine.execLevelSet items s
  | .fadeRead form => Sys2Proof.Machine.execFadeRead form s
  | .cueStore cue => Sys2Proof.Machine.execCueStore cue s
  | .cueDelete first last => Sys2Proof.Machine.execCueDelete first last s
  | .cueRead number => Sys2Proof.Machine.execCueRead number s
  | .cueList start page => Sys2Proof.Machine.execCueList start page s
  | .standbySet number => Sys2Proof.Machine.execStandbySet number s
  | .go => Sys2Proof.Machine.execGo s
  | .hold => Sys2Proof.Machine.execHold s
  | .resume => Sys2Proof.Machine.execResume s
  | .safeSet selection value => Sys2Proof.Machine.execSafeSet selection value s
  | .inputSet fields => Sys2Proof.Machine.execInputSet fields s
  | .runningRead slot => Sys2Proof.Machine.execRunningRead slot s
  | .engineRead => Sys2Proof.Machine.execEngineRead s
  | .mixSet mix fields => Sys2Proof.Machine.execMixSet mix fields s
  | .mixEntrySet mix items => Sys2Proof.Machine.execMixEntrySet mix items s
  | .mixEntryRemove mix form => Sys2Proof.Machine.execMixEntryRemove mix form s
  | .mixRead mix => Sys2Proof.Machine.execMixRead mix s
  | .mixFind role => Sys2Proof.Machine.execMixFind role s
  | .talkbackSet tb fields => Sys2Proof.Machine.execTalkbackSet tb fields s
  | .talkbackOn tb => Sys2Proof.Machine.execTalkbackOn tb s
  | .talkbackOff tb => Sys2Proof.Machine.execTalkbackOff tb s
  | .talkbackRead => Sys2Proof.Machine.execTalkbackRead s
  | .relayEntrySet items => Sys2Proof.Machine.execRelayEntrySet items s
  | .relayEntryRemove form => Sys2Proof.Machine.execRelayEntryRemove form s
  | .relaySet fields => Sys2Proof.Machine.execRelaySet fields s
  | .relaySelect selection => Sys2Proof.Machine.execRelaySelect selection s
  | .relayRead => Sys2Proof.Machine.execRelayRead s
  | .stationSet stations fields => Sys2Proof.Machine.execStationSet stations fields s
  | .stationRead station => Sys2Proof.Machine.execStationRead station s
  | .presetSet preset fields => Sys2Proof.Machine.execPresetSet preset fields s
  | .presetRead preset => Sys2Proof.Machine.execPresetRead preset s
  | .callStart preset => Sys2Proof.Machine.execCallStart preset s
  | .callEnd preset => Sys2Proof.Machine.execCallEnd preset s
  | .callRead => Sys2Proof.Machine.execCallRead s
  | .monitorSet monitor fields => Sys2Proof.Machine.execMonitorSet monitor fields s
  | .monitorRead monitor => Sys2Proof.Machine.execMonitorRead monitor s
  | .meterRead points => Sys2Proof.Machine.execMeterRead points s
  | .linkSet fields => Sys2Proof.Machine.execLinkSet fields s
  | .clockReturn => Sys2Proof.Machine.execClockReturn s
  | .slotMapSet items => Sys2Proof.Machine.execSlotMapSet items s
  | .linkRead form => Sys2Proof.Machine.execLinkRead form s
  | .powerCause => Sys2Proof.Machine.execPowerCause s
  | .supplyCause => Sys2Proof.Machine.execSupplyCause s
  | .pinCause => Sys2Proof.Machine.execPinCause s
  | .causeEnd cause => Sys2Proof.Machine.execCauseEnd cause s
  | .clkroleLatch high => Sys2Proof.Machine.execClkroleLatch high s
  | .resetProcedureEnd => Sys2Proof.Machine.execResetProcedureEnd s
  | .frame wckEdge => Sys2Proof.Machine.execFrame wckEdge s
  | .controlIntervalEnd go hold call => Sys2Proof.Machine.execControlIntervalEnd go hold call s
  | .fadeComplete element => Sys2Proof.Machine.execFadeComplete element s
  | .actionDue slot => Sys2Proof.Machine.execActionDue slot s
  | .followGo => Sys2Proof.Machine.execFollowGo s
  | .goNPress edge => Sys2Proof.Machine.execGoNPress edge s
  | .holdNPress edge => Sys2Proof.Machine.execHoldNPress edge s
  | .callNPress => Sys2Proof.Machine.execCallNPress s
  | .callNRelease => Sys2Proof.Machine.execCallNRelease s
  | .callTimeout => Sys2Proof.Machine.execCallTimeout s
  | .callSilent => Sys2Proof.Machine.execCallSilent s
  | .monitorTrip monitor => Sys2Proof.Machine.execMonitorTrip monitor s
  | .linkFrameArrival link words => Sys2Proof.Machine.execLinkFrameArrival link words s
  | .partialFrameDiscard link => Sys2Proof.Machine.execPartialFrameDiscard link s
  | .linkLost link => Sys2Proof.Machine.execLinkLost link s
  | .outputLinkFrame link => Sys2Proof.Machine.execOutputLinkFrame link s
  | .fallback => Sys2Proof.Machine.execFallback s
  | .returnToWck => Sys2Proof.Machine.execReturnToWck s
  | .returnAbandoned => Sys2Proof.Machine.execReturnAbandoned s
  | .transactionBegin => Sys2Proof.Machine.execTransactionBegin s
  | .frameSync link => Sys2Proof.Machine.execFrameSync link s

end Sys2Proof.Machine
end

