-- ==== Sys2Proof/Machine/Step.lean ====
section
/-! DEFINITION. One step: the command at the front of the queue runs on the state with the queue's rest. -/

namespace Sys2Proof.Machine

/-- On an empty queue the request being executed, if there is one, finishes, and otherwise the block idles.
DESIGN CHOICE, log 1. -/
def idle (s : State) : Host.Outcome State Fault Refusal :=
  match s.port.response with
  | .executing _ i => exec i s
  | .empty => .next s
  | .ready _ => .next s

def step (s : State) : Host.Outcome State Fault Refusal :=
  match s.pending with
  | [] => idle s
  | c :: rest => exec c { s with pending := rest }

/-- The command a word spells is put at the front of the queue; no word spells one. -/
def State.withFetchWord (s : State) (nbits w : Nat) : State :=
  match decodeTableWord nbits w with
  | none => s
  | some c => { s with pending := c :: s.pending }

end Sys2Proof.Machine
end

