-- ==== Sys2Proof/Safety.lean ====
section
/-! DEFINITION. What a safe run keeps: the laws the spec says its blocks keep, as properties of one state, and the words
the statements use for a command's outcome. -/

namespace Sys2Proof.Machine

/-! ## Outcomes -/

/-- The control port takes requests, on the state as it stands: no reset procedure runs, no request is being executed, and no
part of an interval end is taken without the rest (R161, R170, R172). -/
def accepts (s : State) : Prop :=
  s.inReset = false ∧ isExecuting s.port.response = false ∧ s.ending.begun = false

/-- An accepted edge of a show input acts on the state as it stands: no reset procedure runs, the frame clock does not pause,
and no interval end is due, of which it would be stage 3 (R75, R82, R147). -/
def takesEdges (s : State) : Prop := s.inReset = false ∧ paused s = false ∧ s.ending.due = false

/-- A part of this block's end acts on the state as it stands: no reset procedure runs, an end is due, the frame clock does not
pause, and no other block's part is half taken (R82, R147, R148; log 38). -/
def takesParts (b : EndBlock) (s : State) : Prop :=
  s.inReset = false ∧ s.ending.due = true ∧ paused s = false ∧
    (s.ending.block = none ∨ s.ending.block = some b)

/-- The state with a response READY and nothing else changed (R161). -/
def withResponse (r : Response) (s : State) : State := { s with port := { s.port with response := .ready r } }

/-- The state with an OK response to the request of a code (R163). -/
def answered (code : Nat) (fields : List Field) (s : State) : State := withResponse ⟨.ok, code, fields⟩ s

/-- The state with a refusal: the status, the code, and length 0 (R163). -/
def refusedWith (st : Status) (code : Nat) (s : State) : State := withResponse ⟨st, code, []⟩ s

/-- The code of a request in the catalogue (10.2); the other commands are no requests. -/
def requestCode : Instr → Option Nat
  | .poll => some 1
  | .identify => some 2
  | .portReset => some 3
  | .clearShow => some 4
  | .attentionRead => some 5
  | .attentionClear _ => some 6
  | .attentionEnable _ => some 7
  | .roleRead _ => some 8
  | .channelRead _ => some 9
  | .groupRead _ => some 10
  | .roleFind _ _ => some 11
  | .roleSet _ _ _ _ => some 12
  | .roleModify _ _ => some 13
  | .channelSet _ _ => some 14
  | .groupSet _ _ => some 15
  | .roleRetire _ => some 16
  | .roleRebind _ _ _ => some 17
  | .levelSet _ => some 18
  | .fadeRead _ => some 19
  | .cueStore _ => some 20
  | .cueDelete _ _ => some 21
  | .cueRead _ => some 22
  | .cueList _ _ => some 23
  | .standbySet _ => some 24
  | .go => some 25
  | .hold => some 26
  | .resume => some 27
  | .safeSet _ _ => some 28
  | .inputSet _ => some 29
  | .runningRead _ => some 30
  | .engineRead => some 31
  | .mixSet _ _ => some 32
  | .mixEntrySet _ _ => some 33
  | .mixEntryRemove _ _ => some 34
  | .mixRead _ => some 35
  | .mixFind _ => some 36
  | .talkbackSet _ _ => some 37
  | .talkbackOn _ => some 38
  | .talkbackOff _ => some 39
  | .talkbackRead => some 40
  | .relayEntrySet _ => some 41
  | .relayEntryRemove _ => some 42
  | .relaySet _ => some 43
  | .relaySelect _ => some 44
  | .relayRead => some 45
  | .stationSet _ _ => some 46
  | .stationRead _ => some 47
  | .presetSet _ _ => some 48
  | .presetRead _ => some 49
  | .callStart _ => some 50
  | .callEnd _ => some 51
  | .callRead => some 52
  | .monitorSet _ _ => some 53
  | .monitorRead _ => some 54
  | .meterRead _ => some 55
  | .linkSet _ => some 56
  | .clockReturn => some 57
  | .slotMapSet _ => some 58
  | .linkRead _ => some 59
  | .pollAlias => some 60
  | .transaction _ _ | .powerCause | .supplyCause | .pinCause | .causeEnd _ | .clkroleLatch _
  | .resetProcedureEnd | .frame _ | .controlIntervalEnd _ _ _ | .fadeComplete _ | .actionDue _ | .followGo
  | .goNPress _ | .holdNPress _ | .callNPress | .callNRelease | .callTimeout | .callSilent | .monitorTrip _
  | .linkFrameArrival _ _ | .partialFrameDiscard _ | .linkLost _ | .outputLinkFrame _ | .fallback | .returnToWck
  | .returnAbandoned | .transactionBegin | .frameSync _ => none

/-- The commands that find an interval end that has begun whole: every request, and the events of the links and the clock
(R82, R172). -/
def findsWhole (c : Instr) : Bool :=
  (requestCode c).isSome ||
    match c with
    | .linkFrameArrival _ _ | .frameSync _ | .partialFrameDiscard _ | .linkLost _ | .outputLinkFrame _ | .fallback
    | .returnToWck | .returnAbandoned => true
    | _ => false

/-- The accepted edges of the show inputs (R76). -/
def isEdge : Instr → Bool
  | .goNPress _ | .holdNPress _ | .callNPress | .callNRelease => true
  | _ => false

/-- The block of whose part of an interval end the command is a part (log 7). -/
def endBlock : Instr → Option EndBlock
  | .fadeComplete _ => some .fades
  | .monitorTrip _ => some .monitors
  | .callTimeout | .callSilent => some .relay
  | .actionDue _ | .followGo => some .cue
  | _ => none

/-- The command takes nothing with it that another command has left of an interval end, nor stages 1 and 2 before an edge: no
end that has begun, no other block's part half taken, and no end that is due at an edge or overdue at a FRAME. -/
def takesNoRest (c : Instr) (s : State) : Prop :=
  (findsWhole c = true → s.ending.begun = false) ∧ (isEdge c = true → s.ending.due = false) ∧
    (∀ b, endBlock c = some b → s.ending.block = none ∨ s.ending.block = some b) ∧
    ∀ e, c = .frame e → s.ending.due = false

/-! ## The laws -/

/-- The fade table holds at most 128 entries, and no two address one element (R42). -/
def fadeLaw (s : State) : Prop :=
  s.fades.length ≤ Config.fadePlaces ∧ (s.fades.map (fun e => e.element)).Nodup

/-- The law of the cue list (R59). -/
def cueLaw (s : State) : Prop :=
  s.cues.cues.length ≤ Config.cuePlaces ∧
    (s.cues.cues.map (fun c => c.number)).Pairwise (· < ·) ∧
    ∀ n, s.cues.standby = some n → n ∈ s.cues.cues.map (fun c => c.number)

/-- The law of bindings (R7): a channel's binding and the role's fields name each other, and a VACANT role
holds no channel. -/
def bindingLaw (s : State) : Prop :=
  ∀ (c r : Fin 64),
    ((s.channel c).binding = .current r ↔ (s.role r).channel = some c) ∧
    ((s.channel c).binding = .releasing r ↔ (s.role r).releasing = some c) ∧
    ((s.role r).active = false → (s.role r).channel = none ∧ (s.role r).releasing = none)

/-- The law of the protect limiter (R113). -/
def protectLaw (s : State) : Prop := ∀ f : Fin 12, (s.mix f).protect ≤ 96

/-- Every element stands in its range (R40). -/
def levelLaw (s : State) : Prop := ∀ el v, s.value? el = some v → elemLo el ≤ v ∧ v ≤ elemHi el

/-- The presets of the calls that live. -/
def livePresets (s : State) : List (Fin 16) :=
  (s.relay.active.map (fun a => a.call.preset)).toList ++ s.relay.queue.map (fun c => c.preset)

/-- The law of calls (R120). -/
def callLaw (s : State) : Prop :=
  s.relay.queue.length ≤ Config.callPlaces ∧ (livePresets s).Nodup ∧
    ∀ n : Fin 32, (s.station n).inCall = true → ∃ a, s.relay.active = some a ∧ inSet a.stations n = true

/-- Entry lists hold no more than their places, and no two entries of a list have one source (R101, R102, R116). -/
def entryLaw (s : State) : Prop :=
  (∀ f : Fin 12, (s.mix f).entries.length ≤ Config.mixEntryPlaces ∧
    ((s.mix f).entries.map (fun e => e.source)).Nodup) ∧
    s.relay.entries.length ≤ Config.relayEntryPlaces ∧ (s.relay.entries.map (fun e => e.source)).Nodup

/-- The trigger queue holds at most 16 codes (R91). -/
def triggerLaw (s : State) : Prop := s.engine.triggers.length ≤ Config.triggerPlaces

/-- An action of a cue fades no element that class CUE may not fade (R40, R63). -/
def bodyOpen : ActionBody → Prop
  | .level el _ _ => elemOpen el = true
  | .member _ _ => True
  | .route _ _ => True
  | .call _ => True
  | .trigger _ => True

/-- CUE and HOST entries, and the actions that ask for them, keep to the kinds open to them (R40, R44). -/
def classLaw (s : State) : Prop :=
  (∀ e ∈ s.fades, e.owner ≠ .system → elemOpen e.element = true) ∧
    (∀ c ∈ s.cues.cues, ∀ a ∈ c.actions, bodyOpen a.body) ∧
    ∀ k : Fin 8, ∀ p ∈ (s.slot k).actions, bodyOpen p.action.body

/-- A slot's owned-fade count is the number of entries it owns, and a FREE slot owns none (R44, R78). -/
def ownedLaw (s : State) : Prop :=
  ∀ k : Fin 8, (s.slot k).owned = ownedBy (fun o => decide (o = .cue k)) s ∧
    ((s.slot k).running = false → (s.slot k).owned = 0)

/-- A fade has steps to go, its ends lie in its element's range, its element lies between them, and no fade stands on a
VACANT role (R16, R41, R42, R51). -/
def boundsLaw (s : State) : Prop :=
  ∀ e ∈ s.fades, e.elapsed < e.duration ∧
    (elemLo e.element ≤ e.start ∧ e.start ≤ elemHi e.element) ∧
    (elemLo e.element ≤ e.target ∧ e.target ≤ elemHi e.element) ∧
    (∃ v, s.value? e.element = some v ∧ min e.start e.target ≤ v ∧ v ≤ max e.start e.target) ∧
    ∀ r, (e.element = .role r ∨ e.element = .xout r ∨ e.element = .xin r) → (s.role r).active = true

/-- The call queue stands in order of priority, URGENT first (R126). -/
def queueLaw (s : State) : Prop :=
  s.relay.queue.Pairwise (fun c d => rank d.priority ≤ rank c.priority)

/-- Of two pending calls of one priority the earlier arrived, the one with the larger age, stands first (R122, R126). -/
def arrivalLaw (s : State) : Prop :=
  s.relay.queue.Pairwise (fun c d => rank d.priority = rank c.priority → callAge s d < callAge s c)

/-- The actions that are pending in the slots. -/
def slotActions (s : State) : Nat := ((List.finRange 8).map (fun k => (s.slot k).actions.length)).sum

/-- The length of the longest action list of the cues. -/
def mostActions (s : State) : Nat := (s.cues.cues.map (fun c => c.actions.length)).foldr max 0

/-- No step accepts more calls than this (R122): each action that is pending, the actions of the three cues that the follow
compare, the line and the command itself can fire, and two calls of CALL_N, or of CALL_N and the host (R82, R88, R123). -/
def arrivalsMost (s : State) : Nat := slotActions s + 3 * mostActions s + 2

/-- A step cannot bring the age of a pending call round to 0: ages are the counter less the serial modulo 2^32 (R122). -/
def agesFit (s : State) : Prop := ∀ c ∈ s.relay.queue, callAge s c + arrivalsMost s < 2 ^ 32

/-- What a step in which `n` calls are accepted may make of the call queue (R126). Each call of the queue bears a label: 0 if it
stood there before, and else the number of its arrival in the step, 1 to `n`, which its serial shows. The calls that stood keep
their order, and of two calls of one priority the earlier arrived stands first. -/
def queueOrdered (n : Nat) (s t : State) : Prop :=
  ∃ l : List (Nat × Call), t.relay.queue = l.map (fun x => x.2) ∧
    ((l.filter (fun x => decide (x.1 = 0))).map (fun x => x.2)).Sublist s.relay.queue ∧
    (∀ x ∈ l, 0 < x.1 → x.1 ≤ n ∧ x.2.serial = s.relay.arrivals + BitVec.ofNat 32 x.1) ∧
    (∀ x ∈ l, x.2 ∈ s.relay.queue → callAge s x.2 + n < 2 ^ 32 → x.1 = 0) ∧
    l.Pairwise (fun x y => rank y.2.priority ≤ rank x.2.priority ∧
      (rank y.2.priority = rank x.2.priority → x.1 < y.1 ∨ x.1 = 0 ∧ y.1 = 0))

/-- What a step may make of the call queue (R122, R126): the arrival counter rises by the calls it accepts, and the queue
stands in their order; a reset empties the queue and starts the counter at 0. -/
def queueMoves (s t : State) : Prop :=
  (t.relay.queue = [] ∧ t.relay.arrivals = 0#32) ∨
    ∃ n, n ≤ arrivalsMost s ∧ t.relay.arrivals = s.relay.arrivals + BitVec.ofNat 32 n ∧ queueOrdered n s t

/-- Every law at once. -/
def safe (s : State) : Prop :=
  fadeLaw s ∧ cueLaw s ∧ bindingLaw s ∧ protectLaw s ∧ levelLaw s ∧ callLaw s ∧ entryLaw s ∧ triggerLaw s ∧
    classLaw s ∧ ownedLaw s ∧ boundsLaw s ∧ queueLaw s ∧ arrivalLaw s

end Sys2Proof.Machine
end

