-- ==== Sys2Proof/WellFormed.lean ====
section
/-! DEFINITION. Well-formed commands: every operand of a request fits the bytes R164 gives its field, so that a frame can
carry it. The operands of events are well-formed by their types. No meaning asks for this: a value out of its
range is answered with a status. -/

namespace Sys2Proof

/-- An unsigned field of `n` bytes. -/
def fits (n v : Nat) : Bool := decide (v < 256 ^ n)

/-- A signed field of 16 bits. -/
def levelFits (z : Int) : Bool := decide (-32768 ≤ z ∧ z ≤ 32767)

/-- A label: its length and each character in one byte. -/
def labelFits (l : Label) : Bool := fits 1 l.length && l.all (fits 1)

/-- A list: its count in one byte, and each item fitting. -/
def listFits {α : Type} (item : α → Bool) (l : List α) : Bool := fits 1 l.length && l.all item

/-- A field that may not be selected. -/
def optFits {α : Type} (field : α → Bool) : Option α → Bool
  | none => true
  | some a => field a

def ElemAddr.fits (a : ElemAddr) : Bool :=
  Sys2Proof.fits 1 a.kind && Sys2Proof.fits 1 a.index && Sys2Proof.fits 1 a.srcKind && Sys2Proof.fits 1 a.srcIndex

def SrcAddr.fits (a : SrcAddr) : Bool := Sys2Proof.fits 1 a.kind && Sys2Proof.fits 1 a.index

def PointAddr.fits (a : PointAddr) : Bool := Sys2Proof.fits 1 a.kind && Sys2Proof.fits 1 a.index

def RoleFields.fits (f : RoleFields) : Bool :=
  optFits labelFits f.label && optFits (Sys2Proof.fits 2) f.performer && optFits (Sys2Proof.fits 1) f.cover &&
    optFits (Sys2Proof.fits 1) f.group && optFits levelFits f.level && optFits (Sys2Proof.fits 1) f.buses &&
    optFits (Sys2Proof.fits 1) f.station

def ChannelFields.fits (f : ChannelFields) : Bool :=
  optFits levelFits f.trim && optFits (Sys2Proof.fits 1) f.polarity && optFits (Sys2Proof.fits 1) f.mute &&
    optFits (Sys2Proof.fits 1) f.buses && optFits levelFits f.level && optFits (Sys2Proof.fits 1) f.group

def GroupFields.fits (f : GroupFields) : Bool := optFits levelFits f.level && optFits labelFits f.label

def LevelItem.fits (i : LevelItem) : Bool := i.addr.fits && levelFits i.target && Sys2Proof.fits 3 i.time

def FadeForm.fits : FadeForm → Bool
  | .element a => a.fits
  | .summary => true
  | .owner k => Sys2Proof.fits 1 k
  | .unknown n => decide (3 ≤ n) && Sys2Proof.fits 1 n

def RawBody.fits : RawBody → Bool
  | .level a t d => a.fits && levelFits t && Sys2Proof.fits 3 d
  | .member r g => Sys2Proof.fits 1 r && Sys2Proof.fits 1 g
  | .route r b => Sys2Proof.fits 1 r && Sys2Proof.fits 1 b
  | .call p => Sys2Proof.fits 1 p
  | .trigger c => Sys2Proof.fits 1 c
  | .unknown k => decide (5 ≤ k) && Sys2Proof.fits 1 k

def RawAction.fits (a : RawAction) : Bool := Sys2Proof.fits 3 a.delay && a.body.fits

def RawCue.fits (c : RawCue) : Bool :=
  Sys2Proof.fits 2 c.number && labelFits c.label && Sys2Proof.fits 1 c.follow && Sys2Proof.fits 3 c.followTime &&
    listFits RawAction.fits c.actions

def InputSetting.fits (x : InputSetting) : Bool :=
  Sys2Proof.fits 1 x.enable && Sys2Proof.fits 1 x.edge && Sys2Proof.fits 1 x.length

def InputFields.fits (f : InputFields) : Bool :=
  optFits InputSetting.fits f.go && optFits InputSetting.fits f.hold && optFits InputSetting.fits f.call

def MixFields.fits (f : MixFields) : Bool :=
  optFits labelFits f.label && optFits (Sys2Proof.fits 1) f.listener && optFits levelFits f.master &&
    optFits levelFits f.ceiling

def EntryItem.fits (i : EntryItem) : Bool := i.source.fits && levelFits i.level

def RemoveForm.fits : RemoveForm → Bool
  | .one a => a.fits
  | .all => true
  | .unknown n => decide (2 ≤ n) && Sys2Proof.fits 1 n

def TalkbackFields.fits (f : TalkbackFields) : Bool :=
  optFits (Sys2Proof.fits 1) f.source && optFits (Sys2Proof.fits 2) f.targets && optFits levelFits f.level &&
    optFits levelFits f.depth

def RelayFields.fits (f : RelayFields) : Bool := optFits (Sys2Proof.fits 1) f.channel && optFits levelFits f.level

def StationFields.fits (f : StationFields) : Bool :=
  optFits labelFits f.label && optFits levelFits f.volume && optFits (Sys2Proof.fits 1) f.programme &&
    optFits (Sys2Proof.fits 1) f.calls

def RawTarget.fits : RawTarget → Bool
  | .stations m => Sys2Proof.fits 4 m
  | .roles m => Sys2Proof.fits 8 m
  | .all => true
  | .unknown n => decide (3 ≤ n) && Sys2Proof.fits 1 n

def RawPreset.fits (f : RawPreset) : Bool :=
  Sys2Proof.fits 1 f.source && f.target.fits && Sys2Proof.fits 1 f.priority && levelFits f.gain &&
    levelFits f.depth && Sys2Proof.fits 3 f.maxLength && Sys2Proof.fits 3 f.silence

def RawMonitor.fits (f : RawMonitor) : Bool :=
  Sys2Proof.fits 1 f.enabled && f.point.fits && levelFits f.low && levelFits f.high &&
    Sys2Proof.fits 1 f.condition && Sys2Proof.fits 3 f.hold && Sys2Proof.fits 1 f.action

def LinkFields.fits (f : LinkFields) : Bool :=
  f.inputs.rows.all (optFits (Sys2Proof.fits 1)) && f.outputs.rows.all (optFits (Sys2Proof.fits 1)) &&
    optFits (Sys2Proof.fits 1) f.monitor

def SlotItem.fits (i : SlotItem) : Bool :=
  Sys2Proof.fits 1 i.link && Sys2Proof.fits 1 i.slot && Sys2Proof.fits 1 i.source

/-- Every operand fits its field (R164). -/
def Instr.wellFormed : Instr → Bool
  | .transaction _ _ => true
  | .poll => true
  | .pollAlias => true
  | .identify => true
  | .portReset => true
  | .clearShow => true
  | .attentionRead => true
  | .attentionClear mask => Sys2Proof.fits 2 mask
  | .attentionEnable mask => Sys2Proof.fits 2 mask
  | .roleRead r => Sys2Proof.fits 1 r
  | .channelRead c => Sys2Proof.fits 1 c
  | .groupRead g => Sys2Proof.fits 1 g
  | .roleFind p c => Sys2Proof.fits 2 p && Sys2Proof.fits 1 c
  | .roleSet r l p c => Sys2Proof.fits 1 r && labelFits l && Sys2Proof.fits 2 p && Sys2Proof.fits 1 c
  | .roleModify m f => Sys2Proof.fits 8 m && f.fits
  | .channelSet m f => Sys2Proof.fits 8 m && f.fits
  | .groupSet g f => Sys2Proof.fits 1 g && f.fits
  | .roleRetire r => Sys2Proof.fits 1 r
  | .roleRebind r c t => Sys2Proof.fits 1 r && Sys2Proof.fits 1 c && Sys2Proof.fits 3 t
  | .levelSet items => listFits LevelItem.fits items
  | .fadeRead form => form.fits
  | .cueStore c => c.fits
  | .cueDelete a b => Sys2Proof.fits 2 a && Sys2Proof.fits 2 b
  | .cueRead n => Sys2Proof.fits 2 n
  | .cueList n p => Sys2Proof.fits 2 n && Sys2Proof.fits 1 p
  | .standbySet n => Sys2Proof.fits 2 n
  | .go => true
  | .hold => true
  | .resume => true
  | .safeSet a b => Sys2Proof.fits 16 a && Sys2Proof.fits 16 b
  | .inputSet f => f.fits
  | .runningRead k => Sys2Proof.fits 1 k
  | .engineRead => true
  | .mixSet m f => Sys2Proof.fits 1 m && f.fits
  | .mixEntrySet m items => Sys2Proof.fits 1 m && listFits EntryItem.fits items
  | .mixEntryRemove m form => Sys2Proof.fits 1 m && form.fits
  | .mixRead m => Sys2Proof.fits 1 m
  | .mixFind r => Sys2Proof.fits 1 r
  | .talkbackSet t f => Sys2Proof.fits 1 t && f.fits
  | .talkbackOn t => Sys2Proof.fits 1 t
  | .talkbackOff t => Sys2Proof.fits 1 t
  | .talkbackRead => true
  | .relayEntrySet items => listFits EntryItem.fits items
  | .relayEntryRemove form => form.fits
  | .relaySet f => f.fits
  | .relaySelect n => Sys2Proof.fits 1 n
  | .relayRead => true
  | .stationSet m f => Sys2Proof.fits 4 m && f.fits
  | .stationRead n => Sys2Proof.fits 1 n
  | .presetSet p f => Sys2Proof.fits 1 p && f.fits
  | .presetRead p => Sys2Proof.fits 1 p
  | .callStart p => Sys2Proof.fits 1 p
  | .callEnd p => Sys2Proof.fits 1 p
  | .callRead => true
  | .monitorSet m f => Sys2Proof.fits 1 m && f.fits
  | .monitorRead m => Sys2Proof.fits 1 m
  | .meterRead points => listFits PointAddr.fits points
  | .linkSet f => f.fits
  | .clockReturn => true
  | .slotMapSet items => listFits SlotItem.fits items
  | .linkRead form => Sys2Proof.fits 1 form
  | .powerCause => true
  | .supplyCause => true
  | .pinCause => true
  | .causeEnd _ => true
  | .clkroleLatch _ => true
  | .resetProcedureEnd => true
  | .frame _ => true
  | .controlIntervalEnd _ _ _ => true
  | .fadeComplete _ => true
  | .actionDue _ => true
  | .followGo => true
  | .goNPress _ => true
  | .holdNPress _ => true
  | .callNPress => true
  | .callNRelease => true
  | .callTimeout => true
  | .callSilent => true
  | .monitorTrip _ => true
  | .linkFrameArrival _ _ => true
  | .partialFrameDiscard _ => true
  | .linkLost _ => true
  | .outputLinkFrame _ => true
  | .fallback => true
  | .returnToWck => true
  | .returnAbandoned => true
  | .transactionBegin => true
  | .frameSync _ => true

end Sys2Proof
end

