-- ==== Sys2Proof/Certificates/Slice0/Obligations.lean ====
section
/-! DEFINITION. The statements about this model: one definition each, of type Prop. The words `accepts`, `answered`,
`refusedWith` and the laws are those of Safety.lean. -/

open Sys2Proof Sys2Proof.Machine

/-! ## The queue and the reset state -/

/-- A step runs the command at the front of the queue on the state with the queue's rest. On an empty queue, by the
model's choice (log 1), a request being executed finishes, and otherwise nothing changes. -/
def Obligations.StepRunsFront : Prop :=
  (∀ (c : Instr) (rest : List Instr) (s : State), s.pending = c :: rest →
    step s = exec c { s with pending := rest }) ∧
  ∀ s : State, s.pending = [] →
    (∀ code i, s.port.response = .executing code i → step s = exec i s) ∧
    (isExecuting s.port.response = false → step s = .next s)

/-- What a reset leaves of a show input: filter length 4, count 0, enabled, this acting edge, and a first sample that
becomes the accepted level without an edge (R75, R76). -/
def inputAfterReset (e : ActingEdge) (i : ShowInput) : Prop :=
  i.length = 4 ∧ i.count = 0 ∧ i.enable = true ∧ i.edge = e ∧
    (sampleInput i).2 = none ∧ (sampleInput i).1.accepted = i.line

/-- Every record of the show stands at its value after reset (R1, R4, R6, R59, R78, R101, R110, R116, R119,
R121, R138), and so do the show inputs (R75, R76), the Mix Engine, the links, the port and the attention state (R35, R39, R147,
R148, R151, R156, R157, R161, R166). The clock role and the cause flag are the model's choice (log 2), and so is how far an
interval end is taken, none being due (log 8). -/
def Obligations.ResetState : Prop :=
  (∀ c, State.reset.channel c = ⟨0, .normal, false, 0#8, -400, none, .none⟩) ∧
  (∀ r, State.reset.role r = ⟨false, [], none, .principal, none, none, none, 0, 3#8, none, 0, 0⟩) ∧
  (∀ g, State.reset.group g = ⟨-400, []⟩) ∧
  State.reset.fades = [] ∧ State.reset.cues = ⟨[], none⟩ ∧
  (∀ k, State.reset.slot k = ⟨false, none, 0#32, none, 0, [], 0, 0⟩) ∧
  State.reset.engine.safes = 0#125 ∧ State.reset.engine.hold = false ∧ State.reset.engine.follow = none ∧
  State.reset.engine.timer = 0 ∧ State.reset.engine.lastInterval = 0 ∧ State.reset.engine.serial = 0#32 ∧
  State.reset.engine.triggers = [] ∧
  inputAfterReset .press State.reset.engine.goInput ∧ inputAfterReset .press State.reset.engine.holdInput ∧
  inputAfterReset .both State.reset.engine.callInput ∧
  (∀ f, State.reset.mix f = ⟨[], none, -400, -24, 0, 0, []⟩) ∧
  (∀ t, State.reset.talkback t = ⟨none, 0#12, 0, 0, false⟩) ∧
  (∀ n, State.reset.station n = ⟨[], -40, true, true, 0, false⟩) ∧
  (∀ p, State.reset.preset p = ⟨none, .all, .standard, 0, 80, 60000, 0⟩) ∧
  State.reset.relay.entries = [] ∧ State.reset.relay.backup = none ∧ State.reset.relay.backupLevel = 0 ∧
  State.reset.relay.selection = .main ∧ State.reset.relay.arrivals = 0#32 ∧
  State.reset.relay.active = none ∧ State.reset.relay.queue = [] ∧
  (∀ m, State.reset.monitor m = ⟨false, .channel 0, -400, 0, .below, 1000, .notify, .off, 0⟩) ∧
  (∀ i, State.reset.mixer.peaks.get i = -400) ∧ (∀ i, State.reset.mixer.largest.get i = 0) ∧
  State.reset.mixer.out = ⟨Table.replicate 8 0, Table.replicate 12 0, 0, Table.replicate 32 0⟩ ∧
  (∀ n, (State.reset.receiver n).enable = false ∧ (State.reset.receiver n).state = .disabled ∧
    (State.reset.receiver n).newest = none ∧ (State.reset.receiver n).held = Table.replicate 16 0 ∧
    (State.reset.receiver n).missed = 0 ∧ (State.reset.receiver n).slips = 0 ∧
    (State.reset.receiver n).ramp = -400) ∧
  (∀ n, (State.reset.output n).enable = false ∧ (State.reset.output n).slots = Table.replicate 16 .none) ∧
  State.reset.links.clock.source = sourceAfter State.reset.links.clock.role ∧
  State.reset.links.clock.monitor = true ∧ State.reset.links.clock.returnWaiting = false ∧
  State.reset.links.clock.frameCount = 0 ∧
  State.reset.port.response = .empty ∧ State.reset.port.sdo = none ∧
  State.reset.attention = ⟨1#16, 0xFFFF#16, ⟨0#4, none, none, none, 0, 0, none, 0, none, 0#12, 0#16, none⟩⟩ ∧
  State.reset.resets.procedure = none ∧ State.reset.ending = ⟨false, false, [], false, 0#16, false, false, none, false, .none⟩ ∧
  State.reset.pending = []

/-! ## Laws that every step keeps -/

/-- Every law holds of the state after reset. -/
def Obligations.LawsHoldAtReset : Prop := safe State.reset

/-- The fade table never holds more than 128 entries, and no two entries address one element (R42). -/
def Obligations.FadeTableLawKept : Prop :=
  ∀ s t : State, fadeLaw s → step s = .next t → fadeLaw t

/-- The cue list holds at most 512 cues in strictly ascending number order, and standby names END or a cue of the
list (R59). -/
def Obligations.CueListLawKept : Prop :=
  ∀ s t : State, cueLaw s → step s = .next t → cueLaw t

/-- A channel is the current or releasing channel of at most one role, and the two records of a binding agree (R7). -/
def Obligations.BindingLawKept : Prop :=
  ∀ s t : State, bindingLaw s → step s = .next t → bindingLaw t

/-- Every element stays in the range of its kind, and the protect attenuation of every foldback mix in 0..96 (R5, R40,
R113). While a fade entry exists its element lies between its start and its target, and its elapsed is below its
duration (R42, R51), where the actions stored and pending name only the kinds open to their class, as every step keeps it
(`OwnedCountsKept`). -/
def Obligations.RangesKept : Prop :=
  ∀ s t : State, step s = .next t → (levelLaw s → levelLaw t) ∧ (protectLaw s → protectLaw t) ∧
    (fadeLaw s → levelLaw s → classLaw s → boundsLaw s → boundsLaw t)

/-- At most 8 calls are pending, no preset has two calls, and a station is in CALL only in the active call's set (R120).
The queue stands in order of priority; the calls that remain in it keep their order, and of two calls of one priority the
earlier arrived stands first (R126), which the arrivals of the step number (R122). Where no age comes round to 0 in the step,
ages order the calls of one priority before and after it (R122, R126). -/
def Obligations.CallLawKept : Prop :=
  ∀ s t : State, step s = .next t → (callLaw s → callLaw t) ∧
    (queueLaw s → queueLaw t ∧ queueMoves s t ∧ (agesFit s → arrivalLaw s → arrivalLaw t))

/-- Mixes hold at most 24 entries and the relay at most 8, each list of distinct sources, and the trigger queue
at most 16 codes (R91, R101, R102, R116). -/
def Obligations.EntryListsKept : Prop :=
  ∀ s t : State, entryLaw s → triggerLaw s → step s = .next t → entryLaw t ∧ triggerLaw t

/-- A slot's owned-fade count is the number of entries it owns, and fades keep to the kinds of their class
(R40, R44, R78). -/
def Obligations.OwnedCountsKept : Prop :=
  ∀ s t : State, fadeLaw s → classLaw s → ownedLaw s → step s = .next t → classLaw t ∧ ownedLaw t

/-! ## Rules over all commands -/

/-- The commands that may move standby: a take at GO, STANDBY_SET, CUE_DELETE, CLEAR_SHOW and a reset (R70). -/
def movesStandby : Instr → Bool
  | .go | .goNPress _ | .followGo | .controlIntervalEnd _ _ _ | .standbySet _ | .cueDelete _ _ | .clearShow
  | .resetProcedureEnd => true
  | _ => false

/-- No other command moves the standby pointer, but by a GO of an interval end of which it takes what is left: a FRAME of an
end that is overdue (R70; log 8), an edge of the end that is due (R82, R95; log 9), a request of an end that has begun and another
block's part of the Cue Engine's (log 38). -/
def Obligations.StandbyMovesOnlyOn : Prop :=
  ∀ (c : Instr) (s t : State), movesStandby c = false → takesNoRest c s → exec c s = .next t →
    t.cues.standby = s.cues.standby

/-- The commands that may change HOLD: HOLD, RESUME, an acting HOLD_N edge and a reset (R97). -/
def changesHold : Instr → Bool
  | .hold | .resume | .holdNPress _ | .controlIntervalEnd _ _ _ | .resetProcedureEnd => true
  | _ => false

/-- No other command changes HOLD, CLEAR_SHOW included, but by the HOLD_N edge of an interval end of which it takes what is
left (R97; logs 8 and 38). -/
def Obligations.HoldChangesOnlyOn : Prop :=
  ∀ (c : Instr) (s t : State), changesHold c = false → takesNoRest c s → exec c s = .next t →
    t.engine.hold = s.engine.hold

/-- The commands of a reset procedure and of SEL_N: all that acts while a procedure runs (R161, R169, R170). -/
def actsInReset : Instr → Bool
  | .powerCause | .supplyCause | .pinCause | .causeEnd _ | .clkroleLatch _ | .resetProcedureEnd
  | .transactionBegin | .transaction _ _ => true
  | _ => false

/-- While a reset procedure runs no other command changes anything: no frame, no interval end, no request (R170); and a
request that meets another request executing is discarded (R161, R162). -/
def Obligations.CommandsThatMeetNothing : Prop :=
  (∀ (c : Instr) (s : State), s.inReset = true → actsInReset c = false → exec c s = .next s) ∧
  ∀ (c i : Instr) (code k : Nat) (s : State), requestCode c = some code →
    s.port.response = .executing k i → i ≠ c → exec c s = .next s

/-- A refused request changes nothing but the response, which has length 0 (R163). A request that TRANSACTION has put in
EXECUTING does what it does where no response stands, so that every statement on its command holds of it too (R161, R162). -/
def Obligations.RefusedRequestChangesNothing : Prop :=
  ∀ (c : Instr) (code : Nat) (s : State), requestCode c = some code →
    (accepts s → ∃ t r, exec c s = .next t ∧ t.port.response = .ready r ∧ r.code = code ∧
      (r.status ≠ .ok → r.fields = [] ∧ t = withResponse r s)) ∧
    ∀ k, s.inReset = false → s.port.response = .executing k c →
      exec c s = exec c { s with port := { s.port with response := .empty } } ∧
      ∃ t r, exec c s = .next t ∧ t.port.response = .ready r ∧ r.code = code

/-! ## The control port -/

/-- Every number, level and label of a payload is read back as it was written, and so is every element's address, which
names its element and passes every check (R164). -/
def Obligations.PayloadsReadBack : Prop :=
  (∀ (n v : Nat) (rest : List Byte), v < 256 ^ n → readUint n (bytesOf n v ++ rest) = some (v, rest)) ∧
  (∀ (z : Int) (rest : List Byte), -32768 ≤ z → z ≤ 32767 →
    readLevel (fieldBytes (.level z) ++ rest) = some (z, rest)) ∧
  (∀ (l : Label) (rest : List Byte), labelFits l = true →
    readLabel (fieldBytes (.label l) ++ rest) = some (l, rest)) ∧
  ∀ (el : Element) (rest : List Byte), elementOf (addrOf el) = some el ∧ addrIndexOk (addrOf el) = true ∧
    readElemAddr ((addrFields el).flatMap fieldBytes ++ rest) = some (addrOf el, rest)

/-- A frame is answered BAD_REQUEST when its bits are not whole bytes, when it is shorter than 3 bytes, when its
length field is above 252 or is not the number of payload bytes, or when its code is unknown; a frame whose first byte is
the code of PORT_RESET is not (R162). -/
def Obligations.MalformedFramesRefused : Prop :=
  (∀ bits, classifyFrame [] bits = .bad 0) ∧
  (∀ (rest : List Byte) bits, classifyFrame (3#8 :: rest) bits = .portReset) ∧
  (∀ (code : Byte) (rest : List Byte) (bits : Fin 8), code ≠ 3#8 →
    (bits ≠ 0 ∨ rest.length < 2 ∨ code = 0#8 ∨ 61 ≤ code.toNat ∨
      (∃ hi lo payload, rest = hi :: lo :: payload ∧
        (252 < hi.toNat * 256 + lo.toNat ∨ payload.length ≠ hi.toNat * 256 + lo.toNat))) →
    classifyFrame (code :: rest) bits = .bad code.toNat)

/-- SEL_N falls: the EMPTY header, the READY response or a NOT_READY header is shifted out. SEL_N rises: a transaction
that met an executing request is discarded; otherwise the response is used up and the frame received is taken: EXECUTING,
or READY with the answer to PORT_RESET or with BAD_REQUEST (R161, R162, R171). -/
def Obligations.TransactionsRun : Prop :=
  (∀ s : State, s.inReset = false → s.port.transaction = .closed →
    (s.port.response = .empty → exec .transactionBegin s =
      .next { s with port := { s.port with transaction := .opened false, sdo := some [0, 0, 0, 0] } }) ∧
    (∀ r, s.port.response = .ready r → exec .transactionBegin s =
      .next { s with port := { s.port with transaction := .opened false, sdo := some (responseBytes r) } }) ∧
    (∀ code i, s.port.response = .executing code i → exec .transactionBegin s =
      .next { s with port :=
        { s.port with transaction := .opened true, sdo := some [1, BitVec.ofNat 8 code, 0, 0] } })) ∧
  ∀ (bytes : List Byte) (bits : Fin 8) (s : State), s.inReset = false →
    (s.port.transaction = .opened true → exec (.transaction bytes bits) s =
      .next { s with port := { s.port with transaction := .closed, sdo := none } }) ∧
    (s.port.transaction = .opened false → exec (.transaction bytes bits) s =
      .next { s with port :=
        { response :=
            (match classifyFrame bytes bits with
             | .portReset => .ready ⟨.ok, 3, []⟩
             | .bad echo => .ready ⟨.badRequest, echo, []⟩
             | .request code i => .executing code i)
          transaction := .closed
          sdo := none } })

/-- POLL, code 60 and PORT_RESET answer OK with length 0, echoing their code (R162, R171), and IDENTIFY answers with the 26
bytes of the vendor code, the part number, the revision and the capacities (R173); nothing else changes. -/
def Obligations.PortRequestsAnswer : Prop :=
  ∀ s : State, accepts s →
    exec .poll s = .next (answered 1 [] s) ∧ exec .pollAlias s = .next (answered 60 [] s) ∧
    exec .portReset s = .next (answered 3 [] s) ∧
    ∃ r, exec .identify s = .next (withResponse r s) ∧
    responseBytes r = [0, 2, 0, 26, 0x0F, 0x52, 0x1C, 0x48, 1, 64, 64, 16, 8, 12, 24, 2, 8, 32, 16, 8, 16, 8, 16,
      2, 0, 128, 16, 4, 4, 16]

/-- CLEAR_SHOW returns every show record to its value, ends the calls CLEARED, the active one last, and keeps the rest
(R43, R100, R136, R172). -/
def Obligations.ClearShowClears : Prop :=
  ∀ s : State, accepts s → ∃ t, exec .clearShow s = .next t ∧
    t.table = State.reset.table ∧ t.cues = State.reset.cues ∧ t.foldback = State.reset.foldback ∧
    t.monitors = State.reset.monitors ∧ t.relay = { State.reset.relay with arrivals := s.relay.arrivals } ∧
    (∀ e, e ∈ t.fades ↔ e ∈ s.fades ∧ ∃ n, e.element = .link n) ∧
    t.engine = { s.engine with
      slots := State.reset.engine.slots, safes := 0#125, follow := none, triggers := [] } ∧
    t.attention.enables = s.attention.enables ∧
    (∀ a, s.relay.active = some a → t.attention.details.call = some (a.call.preset, .cleared) ∧
      t.attention.flags = s.attention.flags ||| 0x1000#16) ∧
    (s.relay.active = none → s.relay.queue = [] → t.attention = s.attention) ∧
    { t.attention.details with call := s.attention.details.call } = s.attention.details ∧
    t = { s with
      table := t.table, cues := t.cues, foldback := t.foldback, monitors := t.monitors, relay := t.relay,
      fades := t.fades, engine := t.engine, attention := t.attention,
      port := { s.port with response := .ready ⟨.ok, 4, []⟩ } }

/-- The number of an end reason, in the order of R129. -/
def reasonNumber (x : EndReason) : Nat :=
  match x with
  | .host => 0 | .line => 1 | .timeout => 2 | .silent => 3 | .preempted => 4 | .displaced => 5 | .noTarget => 6
  | .cleared => 7

/-- The detail of the condition of this bit (R166), a clear one as zeros (log 12). -/
def detailBytes (d : Details) : Nat → List Field
  | 4 => [.set 1 d.links.toNat]
  | 5 => [.two (d.fired.getD 0)]
  | 6 => match d.done with
    | none => [.two 0, .byte 0]
    | some (cue, skipped) => [.two cue, .byte skipped]
  | 7 => [.two (d.forced.getD 0)]
  | 8 => [.byte d.snaps]
  | 9 => [.byte d.skips]
  | 10 => [.byte (match d.ignored with | none => 0 | some .held => 0 | some .ended => 1)]
  | 11 => [.byte d.lost]
  | 12 => match d.call with
    | none => [.byte 0, .byte 0]
    | some (p, why) => [.byte (p.val + 1), .byte (reasonNumber why)]
  | 13 => [.set 2 d.limiter.toNat]
  | 14 => [.set 2 d.trips.toNat]
  | 15 => [.byte (if d.hold = some true then 1 else 0)]
  | _ => []

/-- ATTENTION_READ, ATTENTION_CLEAR and ATTENTION_ENABLE (R167): the read answers every detail in bit order; the clear
removes the selected flags with their counts and sets, answers them as they stood, and leaves the others. That a clear detail is answered as zeros (log 12) and the flags of the selected conditions as
a 2-byte mask (log 37) is the model's choice. -/
def Obligations.AttentionRequests : Prop :=
  ∀ (m : BitVec 16) (s : State), accepts s →
    exec .attentionRead s = .next (answered 5
      ([.set 2 s.attention.flags.toNat, .set 2 s.attention.enables.toNat] ++
        (List.range 16).flatMap (detailBytes s.attention.details)) s) ∧
    exec (.attentionEnable m.toNat) s = .next (answered 7 [.set 2 m.toNat, .set 2 s.attention.flags.toNat]
      { s with attention := { s.attention with enables := m } }) ∧
    ∃ t, exec (.attentionClear m.toNat) s = .next t ∧
      t.attention.flags = s.attention.flags &&& ~~~m ∧ t.attention.enables = s.attention.enables ∧
      t.attention.details = (let d := s.attention.details
        { links := if m.getLsbD 4 then 0#4 else d.links
          fired := if m.getLsbD 5 then none else d.fired
          done := if m.getLsbD 6 then none else d.done
          forced := if m.getLsbD 7 then none else d.forced
          snaps := if m.getLsbD 8 then 0 else d.snaps
          skips := if m.getLsbD 9 then 0 else d.skips
          ignored := if m.getLsbD 10 then none else d.ignored
          lost := if m.getLsbD 11 then 0 else d.lost
          call := if m.getLsbD 12 then none else d.call
          limiter := if m.getLsbD 13 then 0#12 else d.limiter
          trips := if m.getLsbD 14 then 0#16 else d.trips
          hold := if m.getLsbD 15 then none else d.hold }) ∧
      t = answered 6
        (.set 2 (s.attention.flags &&& m).toNat ::
          ((List.range 16).filter (fun i => m.getLsbD i)).flatMap (detailBytes s.attention.details))
        { s with attention := t.attention }

/-- Outside a reset procedure ATTN_N is low exactly when a condition is both pending and enabled; inside one it is
undriven, and at its end the line goes low at once (R168). -/
def Obligations.AttentionLine : Prop :=
  ∀ s : State, (s.inReset = true → attnLow s = false) ∧
    (s.inReset = false → (attnLow s = true ↔
      ∃ c : Condition, s.attention.flags.getLsbD (condBit c).val = true ∧
        s.attention.enables.getLsbD (condBit c).val = true)) ∧
    (∀ p high, s.resets.procedure = some p → p.ended = true → p.strap = some high → presentCause s.resets = none →
      ∃ t, exec .resetProcedureEnd s = .next t ∧ t.inReset = false ∧ attnLow t = true)

/-! ## Resets -/

/-- A cause starts a procedure, restarts one of its own priority, takes over one of lower priority and waits behind one of
higher priority (R169); a start abandons what was in flight (R170), at once by the model's choice (log 25). The end of the
procedure's own cause begins its hold time, and only then is the strap latched; that a second latch changes nothing is the
model's choice (log 20). -/
def Obligations.ProceduresRun : Prop :=
  (∀ (c : Cause) (s : State), ∃ t,
    exec (match c with | .power => .powerCause | .supply => .supplyCause | .pin => .pinCause) s = .next t ∧
    (match c with | .power => t.resets.power | .supply => t.resets.supply | .pin => t.resets.pin) = true ∧
    (s.resets.procedure = none → t.resets.procedure = some ⟨c, false, none⟩ ∧
      t.fades = [] ∧ t.relay.active = none ∧ t.relay.queue = [] ∧ (∀ k, (t.slot k).running = false) ∧
      (∀ m, (t.monitor m).count = 0) ∧ t.links.clock.returnWaiting = false ∧
      isExecuting t.port.response = false ∧ t.port.sdo = none ∧ attnLow t = false ∧
      t.attention = s.attention) ∧
    (∀ p, s.resets.procedure = some p →
      (causeRank p.cause ≤ causeRank c → t.resets.procedure = some ⟨c, false, none⟩) ∧
      (causeRank c < causeRank p.cause → t.resets.procedure = some p) ∧
      t = { s with resets := t.resets })) ∧
  ∀ (p : Procedure) (s : State), s.resets.procedure = some p →
    (∃ t, exec (.causeEnd p.cause) s = .next t ∧ t.resets.procedure = some { p with ended := true } ∧
      t = { s with resets := t.resets }) ∧
    (∀ c, c ≠ p.cause → ∃ t, exec (.causeEnd c) s = .next t ∧ t.resets.procedure = some p ∧
      t = { s with resets := t.resets }) ∧
    (∀ high, exec (.clkroleLatch high) s = .next { s with resets := { s.resets with
      procedure := some (if p.ended = true ∧ p.strap = none then { p with strap := some high } else p) } })

/-- Every block as the end of a procedure with this cause and strap level leaves it (R39, R43, R59, R75, R76, R94, R101, R116,
R138, R147, R151, R161, R166). -/
def leftByReset (cause : Cause) (high : Bool) (s t : State) : Prop :=
  t.table = State.reset.table ∧ t.mixer = State.reset.mixer ∧ t.fades = [] ∧ t.cues = State.reset.cues ∧
  t.foldback = State.reset.foldback ∧ t.relay = State.reset.relay ∧ t.monitors = State.reset.monitors ∧
  t.engine.slots = State.reset.engine.slots ∧ t.engine.hold = false ∧ t.engine.safes = 0#125 ∧
  t.engine.serial = 0#32 ∧ t.engine.timer = 0 ∧ t.engine.lastInterval = 0 ∧ t.engine.triggers = [] ∧
  t.engine.follow = none ∧
  inputAfterReset .press t.engine.goInput ∧ inputAfterReset .press t.engine.holdInput ∧
  inputAfterReset .both t.engine.callInput ∧
  t.engine.goInput.line = s.engine.goInput.line ∧ t.engine.holdInput.line = s.engine.holdInput.line ∧
  t.engine.callInput.line = s.engine.callInput.line ∧
  t.links.receivers = State.reset.links.receivers ∧ t.links.outputs = State.reset.links.outputs ∧
  t.links.clock.role = (if high then .slave else .master) ∧
  t.links.clock.source = (if high then .wck else .internal) ∧
  t.links.clock.monitor = true ∧ t.links.clock.returnWaiting = false ∧ t.links.clock.frameCount = 0 ∧
  t.attention = { State.reset.attention with
    flags := match cause with | .power => 1#16 | .supply => 2#16 | .pin => 4#16 } ∧
  t.port.response = .empty ∧ t.port.sdo = none ∧ t.pending = s.pending

/-- At the end of a procedure, its own cause being over, every block takes its values after reset, the role is the level
latched, and the cause's flag alone is set (R147, R161, R166, R170); a procedure with no sample takes a free value for its
role (log 20). A cause that is still present starts a procedure of its own, of several the highest (R169; log 22). -/
def Obligations.ResetProcedureEnds : Prop :=
  ∀ (p : Procedure) (s : State), s.resets.procedure = some p →
    (p.ended = false → exec .resetProcedureEnd s = .next s) ∧
    (p.ended = true → ∃ high t, exec .resetProcedureEnd s = .next t ∧ leftByReset p.cause high s t ∧
      (∀ latched, p.strap = some latched → high = latched ∧ t.freeIndex = s.freeIndex) ∧
      (p.strap = none → high = Config.unlatchedStrap s.freeIndex ∧ t.freeIndex = s.freeIndex + 1) ∧
      t.resets = { s.resets with procedure :=
        if s.resets.power = true then some ⟨.power, false, none⟩
        else if s.resets.supply = true then some ⟨.supply, false, none⟩
        else if s.resets.pin = true then some ⟨.pin, false, none⟩
        else none })

/-! ## Frames and interval ends -/

/-- A frame computes the 53 samples from the records as they stand and what the links supply, takes each peak sample into
its point's largest magnitude, and counts the frame; the 48th makes the end of its interval due (R33 to R36, R148). Each
receiver supplies its samples and moves on by the table of R153, and the clock learns of WCK, a waiting return being taken at
an edge and abandoned when WCK is absent (R147, R150); no show record changes. A FRAME that finds the end of an interval
still due takes it first, by the model's choice (log 8). -/
def Obligations.FrameComputes : Prop :=
  (∀ (edge : Bool) (s : State), s.inReset = false → s.ending.due = false → ∃ t, exec (.frame edge) s = .next t ∧
    t.mixer.out = computeFrame (linkInput s) { s with links := t.links } ∧
    (∀ b, t.mixer.out.bus.get b = saturate (roundShift (accumulate
      (busTerms (linkInput s) { s with links := t.links } b)))) ∧
    (∀ i, t.mixer.largest.get i = max (s.mixer.largest.get i)
      (peakSample (linkInput s) t.mixer.out { s with links := t.links } (pointAt i)).natAbs) ∧
    t.mixer.peaks = s.mixer.peaks ∧
    (let c := s.links.clock
     let lost := decide (c.source = .internal) && !edge && decide (3 ≤ c.wckAge + 1)
     t.links.clock = { c with
       frameCount := if c.frameCount + 1 < 48 then c.frameCount + 1 else 0
       source := if c.source = .internal ∧ edge = true ∧ c.returnWaiting = true then .wck else c.source
       wckAge := if c.source = .wck ∨ edge = true then 0 else min (c.wckAge + 1) 3
       returnWaiting := if c.source = .internal ∧ edge = true ∨ lost = true then false else c.returnWaiting } ∧
     t.ending = { s.ending with due := decide (48 ≤ c.frameCount + 1) } ∧
     t.attention.flags.getLsbD 3 = (s.attention.flags.getLsbD 3 || (lost && c.returnWaiting)) ∧
     ((∀ n, linkSpent (s.receiver n) = false) → (lost && c.returnWaiting) = false → t.attention = s.attention)) ∧
    (∀ n, let r := s.receiver n
      (r.state ≠ .locked → (linkInput s).get n = Table.replicate 16 0 ∧ t.receiver n = r) ∧
      (r.state = .locked → ∀ f, r.newest = some f →
        (linkInput s).get n = f ∧ t.receiver n = { r with held := f, newest := none, missed := 0 }) ∧
      (r.state = .locked → r.newest = none → r.missed < 4 →
        (linkInput s).get n = r.held ∧ t.receiver n = { r with missed := r.missed + 1 }) ∧
      (r.state = .locked → r.newest = none → 4 ≤ r.missed →
        (linkInput s).get n = Table.replicate 16 0 ∧
        t.receiver n = { r with state := .lost, held := Table.replicate 16 0, missed := 0, ramp := -400 } ∧
        t.attention.flags.getLsbD 4 = true ∧ inSet t.attention.details.links n = true)) ∧
    (∀ n, linkSpent (s.receiver n) = true ↔ (s.receiver n).state = .locked ∧ (s.receiver n).newest = none ∧
      4 ≤ (s.receiver n).missed) ∧
    (∀ el, t.entry? el = if ∃ n, el = .link n ∧ linkSpent (s.receiver n) = true then none else s.entry? el) ∧
    t.links.outputs = s.links.outputs ∧
    t = { s with
      mixer := t.mixer, links := t.links, attention := t.attention, fades := t.fades, engine := t.engine,
      ending := t.ending } ∧
    { t.engine with slots := s.engine.slots } = s.engine) ∧
  ∀ (edge : Bool) (s : State), s.inReset = false → s.ending.due = true →
    let u := intervalEnd none none none s
    exec (.frame edge) s = exec (.frame edge) u ∧ u.inReset = false ∧ u.ending.due = false ∧
    (paused s = false → exec (.controlIntervalEnd none none none) s = .next u)

/-- `m` is `c` × 10^(q/80) rounded to the nearest integer, ties away from zero, written exactly on 80th powers. -/
def roundsTo (m c : Nat) (q : Int) : Prop :=
  (2 * m - 1) ^ 80 * 10 ^ (-q).toNat ≤ (2 * c) ^ 80 * 10 ^ q.toNat ∧
    (2 * c) ^ 80 * 10 ^ q.toNat < (2 * m + 1) ^ 80 * 10 ^ (-q).toNat

/-- The terms of a channel in the list of an optional channel. -/
def termsOf (c : Option (Fin 64)) (f : Fin 64 → Term) : List Term := c.toList.map f

/-- The multiplier table, the peak codes, and the four steps that make each destination's sample from its terms: the products
summed exactly, half a step added, the shift with floor, saturation (R32, R33, R37). The effective level of a term: OFF by
mute or by a component at OFF, else components less attenuations, clamped (R23, R31); and the terms of each destination
(R2, R24 to R30). -/
def Obligations.FrameArithmetic : Prop :=
  gain (-400) = 0 ∧
  (∀ q : Int, -399 ≤ q → q ≤ 48 → 0 < gain q ∧ roundsTo (gain q).toNat 4194304 q) ∧
  (∀ q : Int, -399 ≤ q → q ≤ 0 → roundsTo (threshold q) 8388608 q) ∧
  peakCode 0 = -400 ∧ (∀ m, m < threshold (-399) → peakCode m = -400) ∧
  (∀ (m : Nat) (q : Int), -399 ≤ q → q ≤ 0 → threshold q ≤ m → (q = 0 ∨ m < threshold (q + 1)) → peakCode m = q) ∧
  (∀ (g h c : Option Line) (s : State), s.inReset = false → s.ending.due = true → paused s = false →
    s.ending.measured = false → ∃ t, exec (.controlIntervalEnd g h c) s = .next t ∧
    ∀ i, t.mixer.peaks.get i = peakCode (s.mixer.largest.get i)) ∧
  (∀ terms : List Term, mixDown terms = max (-8388608) (min 8388607
    (Int.fdiv ((terms.map (fun x => x.sample * gain x.level)).sum + 2097152) 4194304))) ∧
  (∀ terms : List Term, (∀ x ∈ terms, x.level = -400) → mixDown terms = 0) ∧
  (∀ x : Int, -8388608 ≤ x → x ≤ 8388607 → mixDown [⟨x, 0⟩] = x) ∧
  (∀ (input : Table (Table Int 16) 4) (s : State),
    let o := computeFrame input s
    (∀ b, o.bus.get b = mixDown (busTerms input s b)) ∧ (∀ f, o.mix.get f = mixDown (mixTerms input o.bus s f)) ∧
    o.relay = mixDown (relayTerms input o.bus s) ∧ (∀ n, o.station.get n = mixDown (stationTerms input o.relay s n))) ∧
  (∀ (muted : Bool) (parts less : List Int), effective muted parts less =
    if muted = true ∨ (-400 : Int) ∈ parts then -400 else max (-400) (min 48 (parts.sum - less.sum))) ∧
  (∀ (input : Table (Table Int 16) 4) (s : State) (bus : Table Int 8) (rly : Int),
    let raw (c : Fin 64) : Int := (input.get (linkOf c)).get (slotOf c)
    let voice (c : Fin 64) (parts less : List Int) : Term :=
      ⟨match (s.channel c).polarity with
        | .normal => raw c
        | .inverted => if raw c = -8388608 then 8388607 else -raw c,
       effective (s.channel c).mute ((s.channel c).trim :: (s.receiver (linkOf c)).ramp :: parts) less⟩
    let group (g : Option (Fin 16)) : Int := (g.map (fun g => (s.group g).level)).getD 0
    (∀ c : Fin 64, (linkOf c).val = c.val / 16 ∧ (slotOf c).val = c.val % 16) ∧
    (∀ b, busTerms input s b =
      (List.finRange 64).flatMap (fun r =>
        let x := s.role r
        if x.active = true ∧ inSet x.buses b = true then
          termsOf x.channel (fun c => voice c [x.level, group x.group, x.xin] []) ++
          termsOf x.releasing (fun c => voice c [x.level, group x.group, x.xout] [])
        else []) ++
      (List.finRange 64).flatMap (fun c =>
        let x := s.channel c
        if x.binding = .none ∧ inSet x.directBuses b = true then
          [voice c [x.directLevel, group x.directGroup] []]
        else [])) ∧
    (∀ f, mixTerms input bus s f =
      (s.mix f).entries.flatMap (fun e =>
        let m := s.mix f
        let less : List Int := [(m.protect : Int), m.duck]
        match e.source with
        | .role r =>
          if (s.role r).active = true then
            termsOf (s.role r).channel (fun c => voice c [e.level, (s.role r).xin, m.master] less) ++
            termsOf (s.role r).releasing (fun c => voice c [e.level, (s.role r).xout, m.master] less)
          else []
        | .channel c => [voice c [e.level, m.master] less]
        | .programme b => [⟨bus.get b, effective false [e.level, m.master] less⟩]) ++
      (List.finRange 2).flatMap (fun i =>
        let x := s.talkback i
        if x.on = true ∧ inSet x.targets f = true then
          termsOf x.source (fun c => voice c [x.level] [((s.mix f).protect : Int)])
        else [])) ∧
    relayTerms input bus s =
      (match s.relay.selection with
       | .main => s.relay.entries.map (fun e =>
          match e.source with
          | .channel c => voice c [e.level] []
          | .programme b => ⟨bus.get b, effective false [e.level] []⟩)
       | .backup => termsOf s.relay.backup (fun c => voice c [s.relay.backupLevel] [])) ∧
    ∀ n, stationTerms input rly s n =
      (if (s.station n).programme = true then [⟨rly, effective false [(s.station n).volume] [(s.station n).duck]⟩]
       else []) ++
      (s.relay.active.toList.flatMap (fun a =>
        if inSet a.stations n = true then
          termsOf (s.preset a.call.preset).source (fun c => voice c [(s.preset a.call.preset).gain] [])
        else []))) ∧
  ∀ w : SlotWord, -8388608 ≤ wordSample w ∧ wordSample w ≤ 8388607

/-- The end of a control interval comes at its 48th frame and not in a pause of the frame clock (R147, R148); where none comes,
the lines alone move (R75; log 8). It turns every largest magnitude into a peak code and starts it again at 0, and takes each protect attenuation one step of the table of
R113 on that peak (R37, R38); a mix whose attenuation leaves 0 joins the set of LIMITER and raises it, and nothing else of the
end does (R114). Every block takes its part, or what the commands that are parts of the end have left of it
(logs 7 and 8): first the block that has begun its part, so that each block's part is one event (R82, R133; log 38), then the
others in an order of the model's choice (log 6), the Cue Engine in the three stages of R82. The timer
rises by 1 up to 16,777,215 at an end that counts, stands under HOLD, and is captured and cleared where the follow compare fires
a cue (R94, R95). A command that is no part of the end, CLEAR_SHOW and every other request among them, finds an end that has
begun whole, with the lines as they stand (R82, R93, R96, R98, R172; log 38), and another block's part finds the part of the
block that has begun whole (R82, R133; log 38). -/
def Obligations.IntervalEndPeaksAndLimiters : Prop :=
  ∀ (g h c : Option Line) (s : State), s.inReset = false →
    let lines : CueEngine → CueEngine := fun x => { x with
      goInput := { x.goInput with line := g.getD x.goInput.line }
      holdInput := { x.holdInput with line := h.getD x.holdInput.line }
      callInput := { x.callInput with line := c.getD x.callInput.line } }
    (s.ending.due = false ∨ paused s = true → exec (.controlIntervalEnd g h c) s = .next (s.modEngine lines)) ∧
    (s.ending.due = true → paused s = false →
      ∃ t, exec (.controlIntervalEnd g h c) s = .next t ∧
      (s.ending.measured = false →
        ∀ i, t.mixer.peaks.get i = peakCode (s.mixer.largest.get i) ∧ t.mixer.largest.get i = 0) ∧
      (s.ending.measured = true → t.mixer = s.mixer) ∧
      t.mixer.out = s.mixer.out ∧ t.links.clock = s.links.clock ∧
      t.ending = ⟨false, false, [], false, 0#16, false, false, none, false, .none⟩ ∧
      (∀ f : Fin 12, (t.mix f).protect =
        let p := t.mixer.peaks.get (pointIndex (.mix f))
        let m := s.mix f
        if m.ceiling ≤ p then min (m.protect + 4) 96
        else if m.ceiling - 24 ≤ p then m.protect else m.protect - 1) ∧
      (let starts (f : Fin 12) : Prop := (s.mix f).protect = 0 ∧ 0 < (t.mix f).protect
       (∀ f, inSet t.attention.details.limiter f = true ↔ inSet s.attention.details.limiter f = true ∨ starts f) ∧
       (t.attention.flags.getLsbD 13 = true ↔ s.attention.flags.getLsbD 13 = true ∨ ∃ f, starts f)) ∧
      t.port = s.port ∧ t.resets = s.resets ∧ t.pending = s.pending ∧ t.links.outputs = s.links.outputs ∧
      t.cues.cues = s.cues.cues ∧ t.table.groups.map (fun x => x.label) = s.table.groups.map (fun x => x.label) ∧
      (let first := finishOpen (takePeaks (s.modEngine lines))
       let stepped := finishMonitors (stepLimiters (finishFades first))
       t = { finishCue (finishRelay stepped) with ending := {} }) ∧
      (let edge := (sampleInput { s.engine.goInput with line := g.getD s.engine.goInput.line }).2
       let n := min (s.engine.timer + 1) 16777215
       (∀ e, edge = some e → edgeActs s.engine.goInput e = false) →
        (s.engine.hold = true ∨ s.ending.counted = true → t.engine.timer = s.engine.timer) ∧
        (s.engine.hold = false → s.ending.counted = false → s.ending.sampled ≠ .all →
          (∀ time, s.engine.follow = some time → n < max time 1) → t.engine.timer = n))) ∧
    (∀ s : State,
      (s.engine.hold = true → countTimer s = s) ∧
      (s.engine.hold = false →
        let n := min (s.engine.timer + 1) 16777215
        ((∀ time, s.engine.follow = some time → n < max time 1) →
          countTimer s = { s with engine := { s.engine with timer := n } }) ∧
        ∀ time cue, s.engine.follow = some time → max time 1 ≤ n → standbyCue s = some cue →
          (countTimer s).engine.lastInterval = n ∧ (countTimer s).engine.timer = 0 ∧
          (countTimer s).engine.follow = cue.follow)) ∧
    (∀ (i : Instr) (s : State), findsWhole i = true → s.inReset = false → isExecuting s.port.response = false →
      s.ending.due = true → s.ending.begun = true → paused s = false →
      ∃ u, exec (.controlIntervalEnd none none none) s = .next u ∧ u.ending = {} ∧ exec i s = exec i u) ∧
    (∀ (i : Instr) (b c : EndBlock) (s : State), endBlock i = some b → s.ending.block = some c → c ≠ b →
      s.inReset = false → s.ending.due = true → paused s = false → exec i s = exec i (finishOpen s)) ∧
    (∀ s : State,
      (s.ending.block = none → finishOpen s = s) ∧
      (∀ b, s.ending.block = some b →
        let u := takePeaks s
        let v := match b with
          | .fades => finishFades u
          | .monitors => finishMonitors u
          | .relay => finishRelay u
          | .cue => finishCue u
        finishOpen s = { v with ending := { v.ending with block := none } }) ∧
      (s.ending.stepped = true → finishFades s = s) ∧
      (s.ending.stepped = false → finishFades s = (stepFades s).modEnding (fun x => { x with stepped := true })) ∧
      finishMonitors s = (stepMonitors s).modEnding (fun x => { x with monitors := 0xFFFF#16 }) ∧
      (s.ending.called = true → finishRelay s = s) ∧
      (s.ending.called = false → finishRelay s = (countCall s).modEnding (fun x => { x with called := true })) ∧
      (s.ending.sampled = .all → finishCue s = s) ∧
      (let u := if s.ending.counted = true ∨ s.engine.hold = true then s else
         (countTimer (countSlots s)).modEnding (fun x => { x with counted := true })
       let done (v : State) : State := v.modEnding (fun x => { x with sampled := .all })
       (s.ending.sampled = .none → finishCue s = done (sampleCall (sampleGo (sampleHold u)))) ∧
       (s.ending.sampled = .hold → finishCue s = done (sampleCall (sampleGo u))) ∧
       (s.ending.sampled = .go → finishCue s = done (sampleCall u)))) ∧
    (∀ s : State, countSlots s =
      if s.engine.hold = true then s
      else (slotsByAge s).foldl
        (fun s k => if (s.slot k).running = true then settle k (runDue k (countSlot k s)) else s) s) ∧
    (∀ (k : Fin 8) (s : State), (countSlot k s).slot k = { s.slot k with
      elapsed := min ((s.slot k).elapsed + 1) 16777215
      actions := (s.slot k).actions.map (fun p => { p with remaining := p.remaining - 1 }) })

/-- Under HOLD an interval end counts no slot and not the timer, fires no cue, and steps no CUE entry; HOST and SYSTEM fades,
calls and monitors go on (R52, R82, R97). An end that counted before HOLD came is no end under HOLD: its CUE entries step (R52,
R98). -/
def Obligations.HoldFreezesCues : Prop :=
  ∀ (s : State), s.engine.hold = true → s.ending.counted = false →
    countTimer (countSlots s) = s ∧ (∀ k, actionDue k s = s) ∧ followGo s = s ∧
    (∀ el e, s.entry? el = some e → (∃ k, e.owner = .cue k) → stepEntry el s = s) ∧
    (s.ending.block = none ∨ s.ending.block = some .cue →
      (∀ k, exec (.actionDue k) s = .next s) ∧ exec .followGo s = .next s) ∧
    (s.ending.block = none ∨ s.ending.block = some .fades →
      ∀ el e, s.entry? el = some e → (∃ k, e.owner = .cue k) → exec (.fadeComplete el) s = .next s) ∧
    ∀ (g h c : Option Line), s.inReset = false → ∃ t, exec (.controlIntervalEnd g h c) s = .next t ∧
      t.engine.hold = true ∧ t.engine.timer = s.engine.timer ∧ t.engine.lastInterval = s.engine.lastInterval ∧
      t.engine.follow = s.engine.follow ∧ t.engine.serial = s.engine.serial ∧ t.cues = s.cues ∧
      (∀ k, (t.slot k).elapsed = (s.slot k).elapsed ∧ (t.slot k).actions = (s.slot k).actions ∨ t.slot k = {}) ∧
      ∀ el e, s.entry? el = some e → (∃ k, e.owner = .cue k) → elemOpen el = true →
        t.entry? el = some e ∧ t.value? el = s.value? el

/-- The interval end's monitor step is the table of R141: false goes back to WATCHING at count 0, true counts, and a
count that reaches the hold time trips (R140, R141). CONTROL_INTERVAL_END takes it for every monitor, on the peaks of the
interval that ended (R38), but for one that has taken it at this end (log 7). -/
def Obligations.MonitorStepTable : Prop :=
  (∀ (x : Monitor) (s : State), monitorTrue x s = true ↔
    let p := s.mixer.peaks.get (pointIndex x.point)
    match x.condition with
    | .inside => x.low < p ∧ p < x.high
    | .below => p ≤ x.low
    | .above => x.high ≤ p
    | .outside => p ≤ x.low ∨ x.high ≤ p) ∧
  (∀ (g h c : Option Line) (s : State), s.inReset = false → s.ending.due = true → paused s = false →
    ∃ t, exec (.controlIntervalEnd g h c) s = .next t ∧ ∀ m, t.monitor m =
      if inSet s.ending.monitors m = true then s.monitor m else (stepMonitor (takePeaks s) m).monitor m) ∧
  ∀ (m : Fin 16) (s : State),
    let x := s.monitor m
    let t := (stepMonitor s m).monitor m
    (x.state = .off → stepMonitor s m = s) ∧
    (x.state ≠ .off → monitorTrue x s = false → t = { x with state := .watching, count := 0 }) ∧
    (x.state = .tripped → monitorTrue x s = true → stepMonitor s m = s) ∧
    (x.state = .watching → monitorTrue x s = true → 1 < x.hold → t = { x with state := .counting, count := 1 }) ∧
    (x.state = .watching → monitorTrue x s = true → x.hold = 1 → t = { x with state := .tripped, count := 1 }) ∧
    (x.state = .counting → monitorTrue x s = true →
      t = { x with state := if x.hold ≤ x.count + 1 then .tripped else .counting, count := x.count + 1 })

/-! ## The Fade Engine -/

/-- What a SYSTEM fade of `el` to `target` over `time` ms leaves, among the fades of the elements `asked` that are requested in
turn (R45 to R47, R54): the target at once where the value stands at it or no place is free, and else an entry from the value
that stands. Whether a place is free at the element's turn is said where no other request of `asked` can decide it. -/
def movesTo (asked : List Element) (el : Element) (target : Int) (time : Nat) (s t : State) : Prop :=
  ∃ cur, s.value? el = some cur ∧
    let written := t.entry? el = none ∧ t.value? el = some target
    let fading := t.entry? el = some ⟨el, .system, cur, target, time, 0⟩ ∧ t.value? el = some cur
    (target = cur → written) ∧
    (target ≠ cur → ((s.entry? el).isSome ∨ s.fades.length + asked.length ≤ 128) → fading) ∧
    (target ≠ cur → 128 ≤ s.fades.length → (∀ x ∈ asked, s.entry? x = none) → written) ∧
    (fading ∨ written)


/-- A fade request (R45): at once when the time is 0 or nothing is to move, in place of the entry on the element, as a new
entry while a place is free, and snapped when none is (R46, R47, R48, R54). A fade that starts while the end of an interval is
due belongs to the interval that follows (R47, R85; log 7). -/
def Obligations.FadeRequestCases : Prop :=
  ∀ (el : Element) (z : Int) (d : Nat) (o : FadeOwner) (cur : Int) (s : State), s.value? el = some cur →
    let target := elemClamp el z
    let t := (fadeRequest el z d o s).2
    ((d = 0 ∨ target = cur) → (fadeRequest el z d o s).1 = .set ∧ t.entry? el = none ∧ t.value? el = some target) ∧
    (d ≠ 0 → target ≠ cur → ((s.entry? el).isSome ∨ s.fades.length < 128) →
      (fadeRequest el z d o s).1 = .fading ∧
      t.entry? el = some ⟨el, o, cur, target, min d 600000, 0⟩ ∧ t.value? el = some cur ∧
      t.ending = { s.ending with
        fresh := if s.ending.due = true then el :: s.ending.fresh else s.ending.fresh }) ∧
    (d ≠ 0 → target ≠ cur → s.entry? el = none → 128 ≤ s.fades.length →
      (fadeRequest el z d o s).1 = .snapped ∧ t.entry? el = none ∧ t.value? el = some target ∧
      t.attention.details.snaps = min (s.attention.details.snaps + 1) 255 ∧
      t.attention.flags.getLsbD 8 = true) ∧
    (∀ e, e ≠ el → t.entry? e = s.entry? e ∧ t.value? e = s.value? e)

/-- Class NONE, CUE, HOST or SYSTEM of the entry on an element (R57, R109, R135). -/
def classByte (e : Option FadeEntry) : Field :=
  .byte (match e with
    | none => 0
    | some x => match x.owner with | .cue _ => 1 | .host => 2 | .system => 3)

/-- The answer to LEVEL_SET item by item: SET, FADING or SNAPPED, the class of the entry overtaken, and the slot of a CUE entry
or 0 (R57; log 11). -/
def levelAnswer : List (Element × Int × Nat) → State → List Field
  | [], _ => []
  | (el, z, time) :: rest, s =>
    [.byte (if time = 0 ∨ s.value? el = some (elemClamp el z) then 0
        else if (s.entry? el).isSome ∨ s.fades.length < 128 then 1 else 2),
     classByte (s.entry? el),
     .byte (match s.entry? el with
       | none => 0
       | some e => match e.owner with | .cue k => k.val + 1 | .host => 0 | .system => 0)] ++
    levelAnswer rest (fadeRequest el z time .host s).2

/-- LEVEL_SET takes its items in order as HOST-class fade requests and answers what each did and overtook (R57); here it names
elements that class HOST may fade, that exist and are distinct. The numbers of the answer are the model's choice (log 11). -/
def Obligations.LevelSetFades : Prop :=
  ∀ (items : List (Element × Int × Nat)) (s : State), accepts s →
    1 ≤ items.length → items.length ≤ 16 → (items.map (fun i => i.1)).Nodup →
    (∀ i ∈ items, elemOpen i.1 = true ∧ s.available i.1 = true) →
    exec (.levelSet (items.map (fun i => ⟨addrOf i.1, i.2.1, i.2.2⟩))) s =
      .next (answered 18 (.byte items.length :: levelAnswer items s)
        (settleAll (items.foldl (fun s i => (fadeRequest i.1 i.2.1 i.2.2 .host s).2) s)))

/-- The last step of an entry that is not frozen, or that steps at an end that counted before HOLD came (R52), writes its target
and frees its place; a CUE entry lowers its slot's owned-fade count, and no other entry changes (R53). The step is a part of the end that is due (logs 7 and 8), and a fade
of the interval that follows takes none (R47), nor does any that has stepped at this end (log 38). -/
def Obligations.FadeCompleteWritesTarget : Prop :=
  ∀ (el : Element) (e : FadeEntry) (s : State), takesParts .fades s → fadeLaw s →
    (el ∈ s.ending.fresh ∨ s.ending.stepped = true → exec (.fadeComplete el) s = .next s) ∧
    (el ∉ s.ending.fresh → s.ending.stepped = false → s.entry? el = some e → (frozen s e = true → s.ending.counted = true) →
    e.duration ≤ e.elapsed + 1 → (∀ r, el ≠ .xout r) →
    elemLo el ≤ e.target → e.target ≤ elemHi el → (s.value? el).isSome →
    ∃ t, exec (.fadeComplete el) s = .next t ∧ t.value? el = some e.target ∧ t.entry? el = none ∧
      (∀ x, x ≠ el → t.entry? x = s.entry? x ∧ t.value? x = s.value? x) ∧
      (∀ k, e.owner = .cue k → (t.slot k).owned = (s.slot k).owned - 1 ∨ t.slot k = {}) ∧
      t.ending = { s.ending with begun := true, block := some .fades } ∧
      t.cues = s.cues ∧ t.port = s.port ∧ t.table.channels = s.table.channels)

/-- When the fade of XOUT r completes, the releasing channel is unbound, the field becomes absent and XOUT r stands at 0
(R21); the completion is a part of the end that is due (logs 7 and 8). -/
def Obligations.CrossfadeEnds : Prop :=
  ∀ (r c : Fin 64) (e : FadeEntry) (s : State), takesParts .fades s → fadeLaw s →
    s.ending.stepped = false → Element.xout r ∉ s.ending.fresh →
    s.entry? (.xout r) = some e → frozen s e = false → e.duration ≤ e.elapsed + 1 →
    (s.role r).releasing = some c →
    ∃ t, exec (.fadeComplete (.xout r)) s = .next t ∧ (t.channel c).binding = .none ∧
      (t.role r).releasing = none ∧ (t.role r).xout = 0 ∧ t.entry? (.xout r) = none ∧
      (t.role r).channel = (s.role r).channel ∧ (∀ q, q ≠ r → t.role q = s.role q) ∧
      (∀ d, d ≠ c → t.channel d = s.channel d)

/-- A step that does not complete raises the entry's elapsed by 1 and writes the interpolated value, an OFF end taken at
−160 where the kind has a floor and the other end lies above it (R50, R51). A fade of the interval that follows takes no step
(R47). CONTROL_INTERVAL_END takes this step for every entry: its outcome is stated on the elements that neither a cue nor a
call may move at the same end. -/
def Obligations.FadeStepInterpolates : Prop :=
  ∀ (el : Element) (e : FadeEntry) (s : State), fadeLaw s → s.entry? el = some e →
    let a := if elemFloor el = true ∧ e.start = -400 ∧ e.target > -160 then -160 else e.start
    let b := if elemFloor el = true ∧ e.target = -400 ∧ e.start > -160 then -160 else e.target
    let v := a + Int.tdiv ((b - a) * (e.elapsed + 1 : Nat)) (e.duration : Nat)
    ((frozen s e = true → s.ending.counted = true) → e.elapsed + 1 < e.duration → (s.value? el).isSome →
      el ∉ s.ending.fresh →
      (stepFades s).entry? el = some { e with elapsed := e.elapsed + 1 } ∧
        (stepFades s).value? el = some (elemClamp el v)) ∧
    (el ∈ s.ending.fresh → (∀ r, el ≠ .xout r) →
      (stepFades s).entry? el = some e ∧ (stepFades s).value? el = s.value? el) ∧
    ∀ (g h c : Option Line), s.inReset = false → s.ending.due = true → paused s = false → classLaw s →
      ((∃ r, el = .xin r) ∨ (∃ f, el = .tbDuck f) ∨ ∃ n, el = .link n) →
      ∃ t, exec (.controlIntervalEnd g h c) s = .next t ∧
        (e.elapsed + 1 < e.duration → (s.value? el).isSome → el ∉ s.ending.fresh → s.ending.stepped = false →
          frozen s e = false →
          t.entry? el = some { e with elapsed := e.elapsed + 1 } ∧ t.value? el = some (elemClamp el v)) ∧
        (e.duration ≤ e.elapsed + 1 → (s.value? el).isSome → el ∉ s.ending.fresh → s.ending.stepped = false →
          frozen s e = false →
          t.entry? el = none ∧ t.value? el = some (elemClamp el e.target)) ∧
        (el ∈ s.ending.fresh ∨ s.ending.stepped = true → t.entry? el = some e ∧ t.value? el = s.value? el)

/-! ## The cue list and the cue engine -/

/-- CUE_STORE inserts a new cue in its place or replaces the record of its number; a full list takes no new number (R66). Its
answer gives the outcome (log 11), the count of cues (log 16) and the standby pointer (R74; log 33). -/
def Obligations.CueStoreStores : Prop :=
  ∀ (raw : RawCue) (c : Cue) (s : State), accepts s → cueLaw s → cueIndexOk raw = true → cueOf raw = some c →
    ((findCue c.number s).isSome ∨ s.cues.cues.length < 512 →
      ∃ t, exec (.cueStore raw) s = .next t ∧ findCue c.number t = some c ∧
        (∀ n, n ≠ c.number → findCue n t = findCue n s) ∧ t.cues.standby = s.cues.standby ∧
        t = answered 20 [.byte (if (findCue c.number s).isSome then 1 else 0), .two t.cues.cues.length,
          .two (s.cues.standby.getD 0)] { s with cues := t.cues }) ∧
    (findCue c.number s = none → 512 ≤ s.cues.cues.length →
      exec (.cueStore raw) s = .next (refusedWith .full 20 s))

/-- CUE_DELETE removes the cues of its range, and standby in the range moves to the smallest number above it, or to END when
no cue lies above it (R67). Its answer gives the two counts (log 16) and standby. -/
def Obligations.CueDeleteDeletes : Prop :=
  ∀ (first last : Nat) (s : State), accepts s → cueLaw s → 1 ≤ first → first ≤ last → last ≤ 9999 →
    (∃ c ∈ s.cues.cues, first ≤ c.number ∧ c.number ≤ last) →
    ∃ t, exec (.cueDelete first last) s = .next t ∧
      (∀ n, findCue n t = if first ≤ n ∧ n ≤ last then none else findCue n s) ∧
      (∀ n, s.cues.standby = some n → (n < first ∨ last < n) → t.cues.standby = some n) ∧
      (∀ n m, s.cues.standby = some n → first ≤ n → n ≤ last → t.cues.standby = some m →
        last < m ∧ (findCue m s).isSome ∧ ∀ c ∈ s.cues.cues, last < c.number → m ≤ c.number) ∧
      (∀ n, s.cues.standby = some n → first ≤ n → n ≤ last → t.cues.standby = none →
        ∀ c ∈ s.cues.cues, c.number ≤ last) ∧
      (s.cues.standby = none → t.cues.standby = none) ∧
      t = answered 21 [.two (s.cues.cues.length - t.cues.cues.length), .two t.cues.cues.length,
        .two (t.cues.standby.getD 0)] { s with cues := t.cues }

/-- STANDBY_SET moves standby to a cue of the list or to END, under HOLD too, and acts on nothing else; a number outside
1–9999 is answered BAD_INDEX and one not in the list NOT_FOUND. An armed follow that reaches its time then fires the cue
placed in standby (R72). -/
def Obligations.StandbySetMoves : Prop :=
  ∀ (n : Nat) (s : State), accepts s →
    exec (.standbySet 0) s = .next (answered 24 [.two 0] { s with cues := { s.cues with standby := none } }) ∧
    (1 ≤ n → n ≤ 9999 → (findCue n s).isSome → exec (.standbySet n) s =
      .next (answered 24 [.two n] { s with cues := { s.cues with standby := some n } })) ∧
    (9999 < n → exec (.standbySet n) s = .next (refusedWith .badIndex 24 s)) ∧
    (1 ≤ n → n ≤ 9999 → findCue n s = none → exec (.standbySet n) s = .next (refusedWith .notFound 24 s)) ∧
    (∀ time, 1 ≤ n → n ≤ 9999 → (findCue n s).isSome → s.engine.hold = false → s.engine.follow = some time →
      takesParts .cue s → s.ending.counted = false →
      max time 1 ≤ s.engine.timer + 1 → s.engine.timer < 16777215 →
      ∃ t u, exec (.standbySet n) s = .next t ∧ exec .followGo t = .next u ∧ u.attention.details.fired = some n)

/-- What a GO that fires `cue` leaves, found by the GO in state `s` (R71, R81). -/
def firedBy (cue : Cue) (s t : State) : Prop :=
  t.cues.cues = s.cues.cues ∧
  t.cues.standby = (s.cues.cues.find? (fun c => cue.number < c.number)).map (fun c => c.number) ∧
  t.engine.serial = s.engine.serial + 1#32 ∧ t.engine.lastInterval = s.engine.timer ∧ t.engine.timer = 0 ∧
  t.engine.follow = cue.follow ∧ t.engine.hold = s.engine.hold ∧ t.engine.safes = s.engine.safes ∧
  t.attention.details.fired = some cue.number ∧ t.attention.flags.getLsbD 5 = true ∧
  t.monitors = s.monitors ∧ t.mixer = s.mixer ∧ t.links.clock = s.links.clock ∧
  t.links.outputs = s.links.outputs ∧ t.resets = s.resets ∧ t.pending = s.pending ∧
  t.foldback.talkbacks = s.foldback.talkbacks ∧ t.relay.presets = s.relay.presets

/-- A GO of the host, of the line and of the follow compare fires the standby cue: the take moves standby on, the serial
rises, the timer starts again and CUE_FIRED is raised (R71, R80, R81, R95). The follow compare is tested once the slots and
the timer have counted at the end that is due (R82; log 7). With all eight slots RUNNING the oldest cue is force-completed
first: its pending actions execute at once with every fade time 0, its entries jump to their targets, and its slot takes the
new cue (R83, R84; logs 11 and 36). -/
def Obligations.GoFires : Prop :=
  (∀ (cue : Cue) (e : Edge) (s : State), standbyCue s = some cue →
    (accepts s → s.engine.hold = false → ∃ t, exec .go s = .next t ∧ firedBy cue s t ∧
      ∃ fields, t.port.response = .ready ⟨.ok, 25, .two cue.number :: fields⟩) ∧
    (takesEdges s → exec (.goNPress e) s = .next (goPress e s)) ∧
    (edgeActs s.engine.goInput e = true → s.engine.hold = false →
      firedBy cue s (goPress e s) ∧ (goPress e s).port = s.port ∧
        (goPress e s).engine.goInput = acceptEdge e s.engine.goInput) ∧
    (∀ time, takesParts .cue s → s.ending.counted = false → s.engine.hold = false →
      s.engine.follow = some time → max time 1 ≤ s.engine.timer + 1 → s.engine.timer < 16777215 →
      ∃ t, exec .followGo s = .next t ∧
        firedBy cue (s.modEngine (fun x => { x with timer := x.timer + 1 })) t ∧ t.port = s.port ∧
        t.ending.begun = true ∧ t.ending.block = some .cue ∧ t.ending.counted = true)) ∧
  ∀ (cue : Cue) (k : Fin 8) (s : State), accepts s → fadeLaw s → classLaw s →
    standbyCue s = some cue → s.engine.hold = false → cue.actions ≠ [] → (∀ a ∈ cue.actions, 1 ≤ a.delay) →
    (∀ j, (s.slot j).running = true) → (∀ j, j ≠ k → finished (s.slot j) = false) →
    (∀ j, j ≠ k → (s.engine.serial - (s.slot j).serial).toNat < (s.engine.serial - (s.slot k).serial).toNat) →
    let forced := (s.slot k).cue.getD 0
    let started (t : State) : Prop :=
      t.slot k = ⟨true, some cue.number, s.engine.serial + 1#32, some .port, 0,
        cue.actions.map (fun a => ⟨a, a.delay⟩), 0, 0⟩ ∧
      t.attention.details.forced = some forced ∧ t.attention.flags.getLsbD 7 = true ∧
      (∀ e ∈ t.fades, e.owner ≠ .cue k) ∧
      t.port.response = .ready ⟨.ok, 25, [.two cue.number, .byte (num k), .four (s.engine.serial + 1#32).toNat,
        .two (t.cues.standby.getD 0), .two forced, .byte 0]⟩
    ((∀ p ∈ (s.slot k).actions, flagSet s.engine.safes (safeFlag p.action.body) = true) →
      ∃ t, exec .go s = .next t ∧ firedBy cue s t ∧ started t ∧ (∀ j, j ≠ k → t.slot j = s.slot j) ∧
        t.attention = { s.attention with
          flags := s.attention.flags ||| 0xA0#16
          details := { s.attention.details with forced := some forced, fired := some cue.number } } ∧
        (∀ e, e ∈ t.fades ↔ e ∈ s.fades ∧ e.owner ≠ .cue k) ∧
        (∀ e ∈ s.fades, e.owner = .cue k → (s.value? e.element).isSome →
          t.value? e.element = some (elemClamp e.element e.target)) ∧
        ∀ el, (∀ e ∈ s.fades, e.owner = .cue k → e.element ≠ el) → t.value? el = s.value? el) ∧
    (∀ codes : List Nat, (s.slot k).actions.map (fun p => p.action.body) = codes.map .trigger →
      s.engine.triggers.length + codes.length ≤ 16 →
      ∃ t, exec .go s = .next t ∧ firedBy cue s t ∧ started t ∧ t.engine.triggers = s.engine.triggers ++ codes) ∧
    ∀ (p : PendingAction) (el : Element) (z : Int) (time : Nat), (s.slot k).actions = [p] →
      p.action.body = .level el z time → flagSet s.engine.safes (elemFlag el) = false → s.available el = true →
      (∀ e, s.entry? el = some e → ∀ j, j ≠ k → e.owner ≠ .cue j) →
      ∃ t, exec .go s = .next t ∧ firedBy cue s t ∧ started t ∧ t.entry? el = none ∧
        t.value? el = some (elemClamp el z)

/-- A GO under HOLD, and one with standby at END, is turned away: HELD or END_OF_LIST to the host, and GO_IGNORED with its
reason for a line and for the follow compare, which disarms; nothing fires (R80, R95). -/
def Obligations.GoTurnedAway : Prop :=
  ∀ (e : Edge) (s : State),
    (accepts s → s.engine.hold = true → exec .go s = .next (refusedWith .held 25 s)) ∧
    (accepts s → s.engine.hold = false → s.cues.standby = none →
      exec .go s = .next (refusedWith .endOfList 25 s)) ∧
    (∀ time, takesParts .cue s → s.ending.counted = false → s.engine.hold = false → s.engine.follow = some time → max time 1 ≤ s.engine.timer + 1 →
      s.engine.timer < 16777215 → s.cues.standby = none →
      let u := countSlots { s with ending := { s.ending with begun := true, block := some .cue } }
      exec .followGo s = .next { u with
        engine := { u.engine with timer := s.engine.timer + 1, follow := none }
        attention := { u.attention with
          flags := u.attention.flags ||| 0x400#16
          details := { u.attention.details with ignored := some .ended } }
        ending := { u.ending with counted := true } } ∧
      u.cues = s.cues ∧ u.engine.serial = s.engine.serial ∧ u.engine.lastInterval = s.engine.lastInterval) ∧
    (takesEdges s → exec (.goNPress e) s = .next (goPress e s)) ∧
    (edgeActs s.engine.goInput e = true → (s.engine.hold = true ∨ s.cues.standby = none) →
      ∃ t, goPress e s = t ∧ t.attention.flags = s.attention.flags ||| 0x400#16 ∧
        t.attention.details = { s.attention.details with
          ignored := some (if s.engine.hold = true then .held else .ended) } ∧
        t = { s with
          engine := { s.engine with goInput := acceptEdge e s.engine.goInput }, attention := t.attention })

/-- HOLD and an acting HOLD_N edge take HOLD, RESUME releases it, each raising HOLD_CHANGE with the state after; where
nothing changes nothing is raised. HOLD is not in force after a reset, and CLEAR_SHOW keeps it (R97). -/
def Obligations.HoldAndResume : Prop :=
  ∀ (e : Edge) (s : State),
    (accepts s → s.engine.hold = true → exec .hold s = .next (answered 26 [] s)) ∧
    (accepts s → s.engine.hold = false → exec .resume s = .next (answered 27 [] s)) ∧
    (accepts s → s.engine.hold = false → exec .hold s = .next (answered 26 [] { s with
      engine := { s.engine with hold := true },
      attention := { s.attention with
        flags := s.attention.flags ||| 0x8000#16, details := { s.attention.details with hold := some true } } })) ∧
    (accepts s → s.engine.hold = true → exec .resume s = .next (answered 27 [] { s with
      engine := { s.engine with hold := false },
      attention := { s.attention with
        flags := s.attention.flags ||| 0x8000#16, details := { s.attention.details with hold := some false } } })) ∧
    (takesEdges s → exec (.holdNPress e) s = .next (holdPress e s)) ∧
    (s.engine.hold = false → edgeActs s.engine.holdInput e = true →
      holdPress e s = { s with
        engine := { s.engine with hold := true, holdInput := acceptEdge e s.engine.holdInput },
        attention := { s.attention with
          flags := s.attention.flags ||| 0x8000#16,
          details := { s.attention.details with hold := some true } } }) ∧
    (s.engine.hold = true → edgeActs s.engine.holdInput e = true →
      holdPress e s = { s with
        engine := { s.engine with holdInput := acceptEdge e s.engine.holdInput } }) ∧
    State.reset.engine.hold = false ∧
    (accepts s → ∃ t, exec .clearShow s = .next t ∧ t.engine.hold = s.engine.hold)

/-- SAFE_SET writes the selected flags; CUE entries on newly covered elements leave the table, every other entry and every
element's value stay, and the answer is the whole safe set (R49, R92). -/
def Obligations.SafeSetWrites : Prop :=
  ∀ (sel val : BitVec 125) (s : State), accepts s → fadeLaw s →
    ∃ t, exec (.safeSet sel.toNat val.toNat) s = .next t ∧
      (∀ i : Fin 125, inSet t.engine.safes i = if inSet sel i then inSet val i else inSet s.engine.safes i) ∧
      (∀ e, e ∈ t.fades ↔ e ∈ s.fades ∧
        ¬ ((∃ k, e.owner = .cue k) ∧ newlySafe s.engine.safes t.engine.safes e.element = true)) ∧
      (∀ el, t.value? el = s.value? el) ∧
      t.port.response = .ready ⟨.ok, 28, [.set 16 t.engine.safes.toNat]⟩ ∧
      t = { s with
        fades := t.fades, engine := { s.engine with slots := t.engine.slots, safes := t.engine.safes },
        attention := t.attention, port := t.port }

/-- INPUT_SET writes enable, acting edge and filter length of the selected inputs, starts their candidate counts again,
keeps all else of them, their accepted levels among it, and leaves the others (R77). One sample of a line moves its filter by R75, and an edge acts when its
input is enabled and its acting edge is the edge or BOTH (R76); an edge that does not act moves only the filter, and in a pause
of the frame clock none is accepted (R147). At an interval
end the accepted edges act as GO_N, HOLD_N and CALL_N would, HOLD_N before GO_N (R76, R82), CALL_N last by the model's choice
(log 31). A press command while an end is due is the sample of its line at that end, after stages 1 and 2 and the lines before
it, and comes after the whole of that end where its line or a later one has been sampled (R82; logs 9 and 38). -/
def Obligations.InputSetWrites : Prop :=
  (∀ (f : InputFields) (s : State), accepts s → inputAny f = true → f.beyond = false →
    optOk settingOk f.go = true → optOk settingOk f.hold = true → optOk settingOk f.call = true →
    exec (.inputSet f) s = .next (answered 29 [] { s with engine := { s.engine with
      goInput := applySetting f.go s.engine.goInput, holdInput := applySetting f.hold s.engine.holdInput,
      callInput := applySetting f.call s.engine.callInput } }) ∧
    (∀ (x : InputSetting) (i : ShowInput), settingOk x = true →
      (applySetting (some x) i).length = x.length ∧ (applySetting (some x) i).count = 0 ∧
      ((applySetting (some x) i).enable = true ↔ x.enable = 1) ∧
      actingEdgeNum (applySetting (some x) i).edge = x.edge ∧
      (applySetting (some x) i).accepted = i.accepted ∧ (applySetting (some x) i).line = i.line ∧
      (applySetting (some x) i).primed = i.primed) ∧
    ∀ i : ShowInput, applySetting none i = i) ∧
  (∀ i : ShowInput,
    (i.primed = false → sampleInput i = ({ i with accepted := i.line, primed := true, count := 0 }, none)) ∧
    (i.primed = true → i.line = i.accepted → sampleInput i = ({ i with count := 0 }, none)) ∧
    (i.primed = true → i.line ≠ i.accepted → i.count + 1 < i.length →
      sampleInput i = ({ i with count := i.count + 1 }, none)) ∧
    (i.primed = true → i.line ≠ i.accepted → i.length ≤ i.count + 1 →
      sampleInput i = ({ i with accepted := i.line, count := 0 },
        some (match i.line with | .low => .press | .high => .release)))) ∧
  (∀ (i : ShowInput) (e : Edge), edgeActs i e = true ↔ i.enable = true ∧
    (i.edge = .both ∨ i.edge = .press ∧ e = .press ∨ i.edge = .release ∧ e = .release)) ∧
  (∀ (e : Edge) (s : State), s.inReset = false → paused s = true →
    exec (.goNPress e) s = .next s ∧ exec (.holdNPress e) s = .next s ∧ exec .callNPress s = .next s ∧
    exec .callNRelease s = .next s) ∧
  (∀ (e : Edge) (s : State),
    (edgeActs s.engine.goInput e = false →
      goPress e s = { s with engine := { s.engine with goInput := acceptEdge e s.engine.goInput } }) ∧
    (edgeActs s.engine.holdInput e = false →
      holdPress e s = { s with engine := { s.engine with holdInput := acceptEdge e s.engine.holdInput } }) ∧
    (edgeActs s.engine.callInput e = false →
      callKey e s = { s with engine := { s.engine with callInput := acceptEdge e s.engine.callInput } }) ∧
    (takesEdges s → exec (.goNPress e) s = .next (goPress e s) ∧ exec (.holdNPress e) s = .next (holdPress e s) ∧
      exec .callNPress s = .next (callKey .press s) ∧ exec .callNRelease s = .next (callKey .release s))) ∧
  (∀ (e : Edge) (s : State), s.inReset = false → s.ending.due = true → paused s = false →
    let u := meetBlock .cue s
    let w := beginBlock .cue u
    let v := if u.ending.counted = true ∨ u.engine.hold = true then w else
      (countTimer (countSlots w)).modEnding (fun x => { x with counted := true })
    let upTo (l : Sampled) (t : State) : Out := .next (t.modEnding (fun x => { x with sampled := l }))
    ∃ after, exec (.controlIntervalEnd none none none) u = .next after ∧ after.ending = {} ∧
      exec (.holdNPress e) s = (match u.ending.sampled with
        | .none => upTo .hold (holdPress e v)
        | .hold | .go | .all => .next (holdPress e after)) ∧
      exec (.goNPress e) s = (match u.ending.sampled with
        | .none => upTo .go (goPress e (sampleHold v))
        | .hold => upTo .go (goPress e v)
        | .go | .all => .next (goPress e after)) ∧
      exec (match e with | .press => .callNPress | .release => .callNRelease) s = (match u.ending.sampled with
        | .none => upTo .all (callKey e (sampleGo (sampleHold v)))
        | .hold => upTo .all (callKey e (sampleGo v))
        | .go => upTo .all (callKey e v)
        | .all => .next (callKey e after))) ∧
  ∀ s : State, takesEdges s →
    let g := sampleInput s.engine.goInput
    let h := sampleInput s.engine.holdInput
    let c := sampleInput s.engine.callInput
    ∃ held gone : State,
      (let sampled : State := { s with
         engine := { s.engine with goInput := g.1, holdInput := h.1, callInput := c.1 } }
       (h.2 = none → held = sampled) ∧ (∀ e, h.2 = some e → exec (.holdNPress e) sampled = .next held)) ∧
      (g.2 = none → gone = held) ∧ (∀ e, g.2 = some e → exec (.goNPress e) held = .next gone) ∧
      (c.2 = none → sampleInputs s = gone) ∧
      (c.2 = some .press → exec .callNPress gone = .next (sampleInputs s)) ∧
      (c.2 = some .release → exec .callNRelease gone = .next (sampleInputs s))

/-- What the end of a slot's action leaves of the slot, `rest` being still pending: the pending list, or the FREE values and
CUE_DONE when nothing is pending and no fade is owned (R85, R90). -/
def afterAction (k : Fin 8) (rest : List PendingAction) (s : State) : State :=
  if rest = [] ∧ (s.slot k).owned = 0 then
    { s.modSlot k (fun _ => ⟨false, none, 0#32, none, 0, [], 0, 0⟩) with
      attention := { s.attention with
        flags := s.attention.flags ||| 0x40#16
        details := { s.attention.details with done := some ((s.slot k).cue.getD 0, (s.slot k).skipped) } } }
  else s.modSlot k (fun x => { x with actions := rest })

/-- What a handover from the set `old` to the set `new` leaves (R128): the stations of `new` in CALL, their ducks asked to the
depth over 100 ms; the stations of `old` alone out of it, their ducks asked to 0 over 250 ms; every other station as it
stood. -/
def handedOver (old new : BitVec 32) (depth : Int) (s t : State) : Prop :=
  let asked := ((List.finRange 32).filter (fun n => inSet new n || inSet old n)).map Element.duck
  (∀ n, t.station n = { s.station n with
    inCall := inSet new n || (!inSet old n && (s.station n).inCall), duck := (t.station n).duck }) ∧
  (∀ n, inSet new n = true → movesTo asked (.duck n) (clampCode 0 400 depth) 100 s t) ∧
  (∀ n, inSet new n = false → inSet old n = true → movesTo asked (.duck n) 0 250 s t) ∧
  (∀ n, inSet new n = false → inSet old n = false →
    t.station n = s.station n ∧ t.entry? (.duck n) = s.entry? (.duck n)) ∧
  ∀ el, (∀ n, el ≠ .duck n) → t.entry? el = s.entry? el

/-- What an activation of preset `p` leaves where no call lives (R127, R128): the call ACTIVE with the set its target resolves
to, and a handover to that set from none. -/
def callHolds (p : Fin 16) (origin : Origin) (s t : State) : Prop :=
  t.relay.arrivals = s.relay.arrivals + 1#32 ∧ t.relay.queue = [] ∧
  t.relay.active = some ⟨⟨p, origin, s.relay.arrivals + 1#32, (s.preset p).priority⟩, resolve p s, 0, 0⟩ ∧
  handedOver 0#32 (resolve p s) (s.preset p).depth s t ∧
  t.relay = { t.relay with
    entries := s.relay.entries, backup := s.relay.backup, backupLevel := s.relay.backupLevel,
    selection := s.relay.selection, presets := s.relay.presets } ∧
  t.table = s.table ∧ t.cues = s.cues ∧ t.foldback = s.foldback ∧ t.links = s.links ∧ t.monitors = s.monitors

/-- The preset and reason of the call ended last, when `a` ends and the calls of `gone` end NO_TARGET after it (R129). -/
def lastEnded (why : EndReason) (a : ActiveCall) (gone : List Call) : Fin 16 × EndReason :=
  match gone.getLast? with
  | none => (a.call.preset, why)
  | some c => (c.preset, .noTarget)

/-- What the end of the active call `a` leaves, `calls` being those that may replace it (R128, R129): the first of them that
resolves to a set that is not empty takes over with a handover from the set of `a`, those before it end NO_TARGET, and no call
holds a station when none follows. -/
def callEnded (why : EndReason) (a : ActiveCall) (calls : List Call) (s t : State) : Prop :=
  ((∀ c ∈ calls, resolve c.preset s = 0#32) → t.relay.active = none ∧ t.relay.queue = [] ∧
    t.attention.details.call = some (lastEnded why a calls) ∧ handedOver a.stations 0#32 0 s t) ∧
  (∀ gone c q, calls = gone ++ c :: q → (∀ d ∈ gone, resolve d.preset s = 0#32) →
    resolve c.preset s ≠ 0#32 →
    t.relay.active = some ⟨c, resolve c.preset s, 0, 0⟩ ∧ t.relay.queue = q ∧
    t.attention.details.call = some (lastEnded why a gone) ∧
    handedOver a.stations (resolve c.preset s) (s.preset c.preset).depth s t) ∧
  t.attention.flags.getLsbD 12 = true ∧
  t.relay = { t.relay with
    entries := s.relay.entries, backup := s.relay.backup, backupLevel := s.relay.backupLevel,
    selection := s.relay.selection, presets := s.relay.presets } ∧
  t.table = s.table ∧ t.cues = s.cues ∧ t.foldback = s.foldback ∧ t.links = s.links

/-- The call an accepted request makes (R122). -/
def newCall (p : Fin 16) (origin : Origin) (s : State) : Call := ⟨p, origin, s.relay.arrivals + 1#32, (s.preset p).priority⟩

/-- A pending call stays ahead of the call `c` that joins: its priority is as high, or higher (R126). -/
def staysAhead (c d : Call) : Bool := decide (rank c.priority ≤ rank d.priority)

/-- The call `c` has joined the pending calls of `q` (R126). -/
def callJoins (c : Call) (q : List Call) (s : State) : State :=
  { s with relay := { s.relay with
    arrivals := c.serial, queue := q.takeWhile (staysAhead c) ++ c :: q.dropWhile (staysAhead c) } }

/-- CALL_CHANGE names this call as the last that ended (R129). -/
def callReported (p : Fin 16) (why : EndReason) (s : State) : State :=
  { s with attention := { s.attention with
    flags := s.attention.flags ||| 0x1000#16
    details := { s.attention.details with call := some (p, why) } } }

/-- `d` is the call that `c` displaces: eight calls are pending, and `d` is the latest arrived of the lowest priority, which is
below that of `c` (R125). -/
def displacedBy (c d : Call) (s : State) : Prop :=
  d ∈ s.relay.queue ∧ 8 ≤ s.relay.queue.length ∧ rank d.priority < rank c.priority ∧
  ∀ e ∈ s.relay.queue, e ≠ d → rank d.priority < rank e.priority ∨ rank d.priority = rank e.priority ∧
    (s.relay.arrivals - d.serial).toNat < (s.relay.arrivals - e.serial).toNat

/-- The action cannot act on what it names (R89): a ROLE that is VACANT, an element that does not exist, or a call that is
refused (R88, R125). -/
def cannotAct (s : State) : ActionBody → Prop
  | .level el _ _ => s.available el = false
  | .member r _ => (s.role r).active = false
  | .route r _ => (s.role r).active = false
  | .call q => (s.preset q).source = none ∨ callLives q s = true ∨
      ∃ a, s.relay.active = some a ∧ ¬ ((s.preset q).priority = .urgent ∧ rank a.call.priority < 3) ∧
        8 ≤ s.relay.queue.length ∧ ∀ d ∈ s.relay.queue, rank (s.preset q).priority ≤ rank d.priority
  | .trigger _ => False

/-- What a LEVEL action of slot `k` leaves in `v`, the element standing at `cur`: a fade of class CUE from there, a direct write
where it has no time or nowhere to go, a snap where no place is free; a fade it takes over is lost to its owner's count (R44, R45,
R46, R47, R48, R54, R87). -/
def levelLeaves (k : Fin 8) (el : Element) (z : Int) (time : Nat) (cur : Int) (u v : State) : Prop :=
  let target := elemClamp el z
  let direct : Prop := time = 0 ∨ target = cur
  let placed : Prop := (u.entry? el).isSome ∨ u.fades.length < 128
  let lost (j : Fin 8) : Nat := if (u.entry? el).any (fun e => decide (e.owner = .cue j)) then 1 else 0
  (direct → v.entry? el = none ∧ v.value? el = some target) ∧
  (¬ direct → placed → v.entry? el = some ⟨el, .cue k, cur, target, min time 600000, 0⟩ ∧ v.value? el = some cur ∧
    (u.ending.due = true → el ∈ v.ending.fresh)) ∧
  (¬ direct → ¬ placed → v.entry? el = none ∧ v.value? el = some target ∧ v.attention = { u.attention with
    flags := u.attention.flags ||| 0x100#16
    details := { u.attention.details with snaps := min (u.attention.details.snaps + 1) 255 } }) ∧
  (direct ∨ placed → v.attention = u.attention) ∧
  (∀ x, x ≠ el → v.entry? x = u.entry? x ∧ v.value? x = u.value? x) ∧
  v.slot k = { u.slot k with owned := (u.slot k).owned + (if (v.entry? el).isSome then 1 else 0) - lost k } ∧
  (∀ j, j ≠ k → v.slot j = { u.slot j with owned := (u.slot j).owned - lost j }) ∧
  v.engine = { u.engine with slots := v.engine.slots } ∧ v.ending = { u.ending with fresh := v.ending.fresh } ∧
  v.cues = u.cues ∧ v.port = u.port ∧ v.links.clock = u.links.clock ∧ v.monitors = u.monitors

/-- The cue of another slot whose last fade slot `k` took over, with nothing pending either, completes at that loss report (R46,
R90); `e` is the entry that stood on the element. -/
def overtaken (k : Fin 8) (e : Option FadeEntry) (v : State) : State :=
  match e.map FadeEntry.owner with
  | some (FadeOwner.cue j) =>
    if j ≠ k ∧ (v.slot j).running = true ∧ (v.slot j).actions = [] ∧ (v.slot j).owned = 0 then afterAction j [] v else v
  | some FadeOwner.host | some FadeOwner.system | none => v

/-- What a CALL action of slot `k` for preset `q` that the Relay Unit accepts leaves of `u`, given to `ends`: it is activated where
no call lives, and else joins the queue, displacing a lower call of a full one, or preempts the active call (R88, R124 to
R129). -/
def callActs (q : Fin 16) (k : Fin 8) (u : State) (ends : State → Prop) : Prop :=
  let c := newCall q .cue u
  (u.relay.active = none → u.relay.queue = [] →
    (resolve q u ≠ 0#32 → ∃ v, ends v ∧ callHolds q .cue u v ∧ v.slot k = u.slot k ∧ v.port = u.port) ∧
    (resolve q u = 0#32 →
      ends (callReported q .noTarget { u with relay := { u.relay with arrivals := c.serial } }))) ∧
  ∀ a, u.relay.active = some a → callLives q u = false →
    (¬ (c.priority = .urgent ∧ rank a.call.priority < 3) →
      (u.relay.queue.length < 8 → ends (callJoins c u.relay.queue u)) ∧
      (∀ d, displacedBy c d u →
        ends (callReported d.preset .displaced (callJoins c (u.relay.queue.filter (fun e => decide (e ≠ d))) u)))) ∧
    (c.priority = .urgent → rank a.call.priority < 3 →
      ∃ v, ends v ∧ callEnded .preempted a (c :: u.relay.queue) u v ∧ v.relay.arrivals = c.serial ∧
        v.slot k = u.slot k ∧ v.port = u.port)

/-- A GO of the host that fires `cue` into the free slot `k`, up to its actions of delay 0 (R81, stages 2 to 5). -/
def startedBy (k : Fin 8) (cue : Cue) (s : State) : State :=
  { s with
    cues := { s.cues with standby := (s.cues.cues.find? (fun c => cue.number < c.number)).map (fun c => c.number) }
    engine := { s.engine with
      slots := s.engine.slots.set k ⟨true, some cue.number, s.engine.serial + 1#32, some .port, 0,
        cue.actions.map (fun a => ⟨a, a.delay⟩), 0, 0⟩
      serial := s.engine.serial + 1#32, lastInterval := s.engine.timer, timer := 0, follow := cue.follow } }

/-- What such a GO leaves and answers when the actions of delay 0 have left `v` and `rest` is still pending: CUE_FIRED, the test
for completion, and the answer with its completed mark (R81, stages 6 to 8, R84; logs 11 and 36). -/
def goLeaves (k : Fin 8) (cue : Cue) (rest : List PendingAction) (v : State) : State :=
  answered 25 [.two cue.number, .byte (k.val + 1), .four v.engine.serial.toNat, .two (v.cues.standby.getD 0), .two 0,
      .byte (if rest = [] ∧ (v.slot k).owned = 0 then 1 else 0)]
    (afterAction k rest { v with
      attention := { v.attention with
        flags := v.attention.flags ||| 0x20#16
        details := { v.attention.details with fired := some cue.number } } })

/-- With a slot free the lowest-numbered FREE slot runs a copy of the cue (R81), and the answer names no forced cue, as 0 (R84;
logs 11 and 36). With no action of delay 0, nothing but that slot, standby, the engine's counters and CUE_FIRED changes. An action
of delay 0 executes within the GO as one that falls due does (R85 to R89), and a cue with nothing left completes within the GO: its
slot is FREE again, CUE_DONE follows CUE_FIRED, and the answer marks it (R81, R84, R90). -/
def Obligations.GoStartsSlot : Prop :=
  ∀ (cue : Cue) (k : Fin 8) (s : State), accepts s → standbyCue s = some cue →
    s.engine.hold = false → freeSlot s = some k →
    (cue.actions ≠ [] → (∀ a ∈ cue.actions, 1 ≤ a.delay) →
      exec .go s = .next (goLeaves k cue (cue.actions.map (fun a => ⟨a, a.delay⟩)) (startedBy k cue s)) ∧
      ∀ j, j ≠ k → (startedBy k cue s).slot j = s.slot j) ∧
    (cue.actions = [] → exec .go s = .next (goLeaves k cue [] (startedBy k cue s))) ∧
    ((∀ j, j ≠ k → finished (s.slot j) = false) →
      (∀ codes : List Nat, cue.actions = codes.map (fun c => ⟨0, .trigger c⟩) →
        s.engine.triggers.length + codes.length ≤ 16 →
        exec .go s = .next (goLeaves k cue []
          ((startedBy k cue s).modEngine (fun x => { x with triggers := x.triggers ++ codes })))) ∧
      ∀ (b : ActionBody) (rest : List Action), cue.actions = ⟨0, b⟩ :: rest → (∀ a ∈ rest, 1 ≤ a.delay) →
        let u := startedBy k cue s
        let left : List PendingAction := rest.map (fun a => ⟨a, a.delay⟩)
        let ends (v : State) : Prop := exec .go s = .next (goLeaves k cue left v)
        (flagSet s.engine.safes (safeFlag b) = true → ends u) ∧
        (flagSet s.engine.safes (safeFlag b) = false →
          (cannotAct s b → ends { u.modSlot k (fun x => { x with skipped := x.skipped + 1 }) with
            attention := { u.attention with
              flags := u.attention.flags ||| 0x200#16,
              details := { u.attention.details with skips := min (u.attention.details.skips + 1) 255 } } }) ∧
          (∀ r g, b = .member r g → (s.role r).active = true → ends (u.modRole r (fun x => { x with group := g }))) ∧
          (∀ r set, b = .route r set → (s.role r).active = true →
            ends (u.modRole r (fun x => { x with buses := set }))) ∧
          (∀ code, b = .trigger code → 16 ≤ s.engine.triggers.length → ends { u with
            attention := { u.attention with
              flags := u.attention.flags ||| 0x800#16,
              details := { u.attention.details with lost := min (u.attention.details.lost + 1) 255 } } }) ∧
          (∀ el z time cur, b = .level el z time → s.available el = true → s.value? el = some cur →
            ∃ v, ends (overtaken k (s.entry? el) v) ∧ levelLeaves k el z time cur u v) ∧
          (∀ q, classLaw s → b = .call q → (s.preset q).source.isSome → callActs q k u ends)))

/-- The first pending action of a slot that falls due at the end that is due leaves the slot's list, those before it waiting on,
and executes, and the slot is tested for completion (R85, R90; logs 7 and 8). One that a safe flag covers is skipped silently (R86); one that cannot act on what it names
is skipped with ACTION_SKIPPED (R8, R89); MEMBER and ROUTE write the role, TRIGGER appends its code or is lost (R88), LEVEL asks
for a fade of class CUE (R87), whose first step is at the end of the interval that follows (R85), and CALL submits its call with
origin CUE (R88). The slots are taken from the oldest to the youngest (R79, R85): where an action of an older slot falls due at
the same end, it is taken first. -/
def Obligations.ActionDueExecutes : Prop :=
  let isDue (s : State) (k : Fin 8) : Prop := (s.slot k).running = true ∧ ∃ p ∈ (s.slot k).actions, p.remaining ≤ 1
  (∀ (j k : Fin 8) (s : State), takesParts .cue s → s.ending.counted = false → s.engine.hold = false → isDue s k → isDue s j →
    slotAge s k < slotAge s j → (∀ i, i ≠ j → isDue s i → slotAge s i < slotAge s j) →
    ∃ u, exec (.actionDue j) s = .next u ∧ exec (.actionDue k) s = exec (.actionDue k) u) ∧
  ∀ (k : Fin 8) (waiting : List PendingAction) (p : PendingAction) (rest : List PendingAction) (s : State),
    takesParts .cue s → s.ending.counted = false → s.engine.hold = false → (s.slot k).running = true →
    (s.slot k).actions = waiting ++ p :: rest → (∀ q ∈ waiting, 1 < q.remaining) → p.remaining ≤ 1 →
    (∀ j, j ≠ k → finished (s.slot j) = false) → (∀ j, isDue s j → slotAge s j ≤ slotAge s k) →
    let u : State := { s with ending := { s.ending with begun := true, block := some .cue } }
    let ends (v : State) : Prop := exec (.actionDue k) s = .next (afterAction k (waiting ++ rest) v)
    (flagSet s.engine.safes (safeFlag p.action.body) = true → ends u) ∧
    (flagSet s.engine.safes (safeFlag p.action.body) = false →
      (cannotAct s p.action.body → ends
        { u.modSlot k (fun x => { x with skipped := x.skipped + 1 }) with
          attention := { s.attention with
            flags := s.attention.flags ||| 0x200#16,
            details := { s.attention.details with skips := min (s.attention.details.skips + 1) 255 } } }) ∧
      (∀ r g, p.action.body = .member r g → (s.role r).active = true →
        ends (u.modRole r (fun x => { x with group := g }))) ∧
      (∀ r b, p.action.body = .route r b → (s.role r).active = true →
        ends (u.modRole r (fun x => { x with buses := b }))) ∧
      (∀ code, p.action.body = .trigger code →
        (s.engine.triggers.length < 16 → ends (u.modEngine (fun x => { x with triggers := x.triggers ++ [code] }))) ∧
        (16 ≤ s.engine.triggers.length → ends { u with attention := { s.attention with
          flags := s.attention.flags ||| 0x800#16,
          details := { s.attention.details with lost := min (s.attention.details.lost + 1) 255 } } })) ∧
      (∀ el z time cur, p.action.body = .level el z time → s.available el = true → s.value? el = some cur →
        ∃ v, ends (overtaken k (s.entry? el) v) ∧ levelLeaves k el z time cur u v) ∧
      (∀ q, classLaw s → p.action.body = .call q → (s.preset q).source.isSome → callActs q k u ends))

/-! ## Reads -/

/-- An on/off byte or a mark (R164). -/
def markByte (b : Bool) : Field := .byte (if b then 1 else 0)

/-- A source as a response carries it: its kind, ROLE 1, CHANNEL 2, PROGRAMME 3, and its number (R164). -/
def sourceBytes : Source → List Field
  | .role r => [.byte 1, .byte (r.val + 1)]
  | .channel c => [.byte 2, .byte (c.val + 1)]
  | .programme b => [.byte 3, .byte (b.val + 1)]

/-- The same of a source of the relay. -/
def relaySourceBytes : RelaySource → List Field
  | .channel c => [.byte 2, .byte (c.val + 1)]
  | .programme b => [.byte 3, .byte (b.val + 1)]

/-- An element address as a response carries it: kind, index, and the source of a SEND or RELAYSEND (R40, R164; log 14). -/
def addressBytes : Element → List Field
  | .group g => [.byte 0, .byte (g.val + 1), .byte 0, .byte 0]
  | .role r => [.byte 1, .byte (r.val + 1), .byte 0, .byte 0]
  | .master f => [.byte 2, .byte (f.val + 1), .byte 0, .byte 0]
  | .send f src => [.byte 3, .byte (f.val + 1)] ++ sourceBytes src
  | .relaySend src => [.byte 4, .byte 0] ++ relaySourceBytes src
  | .station n => [.byte 5, .byte (n.val + 1), .byte 0, .byte 0]
  | .duck n => [.byte 6, .byte (n.val + 1), .byte 0, .byte 0]
  | .tbDuck f => [.byte 7, .byte (f.val + 1), .byte 0, .byte 0]
  | .xout r => [.byte 8, .byte (r.val + 1), .byte 0, .byte 0]
  | .xin r => [.byte 9, .byte (r.val + 1), .byte 0, .byte 0]
  | .link n => [.byte 10, .byte (n.val + 1), .byte 0, .byte 0]

/-- The number of an index that may be absent: 0 where it is (R164). -/
def indexByte {n : Nat} (i : Option (Fin n)) : Field := .byte ((i.map (fun j => j.val + 1)).getD 0)

/-- A list of numbers: their count, then each (R164; log 11). -/
def numberBytes {n : Nat} (l : List (Fin n)) : List Field := .byte l.length :: l.map (fun j => .byte (j.val + 1))

/-- The kind byte of an action (R63, R164). -/
def kindByte : ActionBody → Field
  | .level _ _ _ => .byte 0
  | .member _ _ => .byte 1
  | .route _ _ => .byte 2
  | .call _ => .byte 3
  | .trigger _ => .byte 4

/-- The fields of an action's kind (R63, R164). -/
def bodyBytes : ActionBody → List Field
  | .level el z time => addressBytes el ++ [.level z, .time time]
  | .member r g => [.byte (r.val + 1), indexByte g]
  | .route r b => [.byte (r.val + 1), .set 1 b.toNat]
  | .call p => [.byte (p.val + 1)]
  | .trigger code => [.byte code]

/-- The number of a cover, in the order of R4 (R164). -/
def coverNumber (x : Cover) : Nat := match x with | .principal => 0 | .understudy => 1 | .swing => 2

/-- The number of a link's state, in the order of R151 (R164). -/
def linkStateByte (x : LinkState) : Field :=
  .byte (match x with | .disabled => 0 | .waitSync => 1 | .locked => 2 | .lost => 3)

/-- How many entries of the table an owner has. -/
def entriesOf (s : State) (p : FadeOwner → Bool) : Nat := (s.fades.filter (fun e => p e.owner)).length

/-- A show input as ENGINE_READ gives it (R99): its accepted level, count, length, enable and acting edge. -/
def inputBytes (i : ShowInput) : List Field :=
  [.byte (match i.accepted with | .high => 0 | .low => 1), .byte i.count, .byte i.length, markByte i.enable,
    .byte (match i.edge with | .press => 0 | .release => 1 | .both => 2)]

/-- The reads of the Role Table, the Fade Engine, the Cue List and the Cue Engine answer OK with the values that stand and
change nothing else (R10, R11, R58, R68, R69, R99). The marks and count bytes of the parts that may be absent are the model's
choice (log 11), and so are the 2-byte count of cues (log 16), the order of SEND and of RELAYSEND addresses of one index
(log 32), the zeros of an absent follow time and cue number (log 36), and the bytes of ENGINE_READ for an accepted level and for the
time remaining of a compare armed with 0 (log 39). -/
def Obligations.TableReadsAnswer : Prop :=
  ∀ (r c : Fin 64) (g : Fin 16) (k : Fin 8) (s : State), accepts s →
    exec (.roleRead (num r)) s = .next (answered 8
      (let x := s.role r
       [.byte (if x.active then 1 else 0), .label x.label, .two (x.performer.getD 0), .byte (coverNumber x.cover),
        .byte (optNum x.channel), .byte (optNum x.releasing), .byte (optNum x.group), .level x.level,
        .set 1 x.buses.toNat, .byte (optNum x.station), .level x.xout, .level x.xin]) s) ∧
    exec (.channelRead (num c)) s = .next (answered 9
      (let x := s.channel c
       [.level x.trim, .byte (match x.polarity with | .normal => 0 | .inverted => 1), .byte (if x.mute then 1 else 0), .set 1 x.directBuses.toNat,
        .level x.directLevel, .byte (optNum x.directGroup)] ++
        (match x.binding with
         | .none => [.byte 0]
         | .current q => [.byte 1, .byte (num q)]
         | .releasing q => [.byte 2, .byte (num q)]) ++
        [linkStateByte (s.receiver (linkOf c)).state]) s) ∧
    exec (.groupRead (num g)) s = .next (answered 10
      ([.level (s.group g).level, .label (s.group g).label] ++
        numberBytes ((List.finRange 64).filter (fun q => (s.role q).active && decide ((s.role q).group = some g))) ++
        numberBytes ((List.finRange 64).filter (fun d =>
          decide ((s.channel d).binding = .none) && decide ((s.channel d).directGroup = some g)))) s) ∧
    (∀ p covers, p ≤ 999 → 1 ≤ covers → covers ≤ 7 → exec (.roleFind p covers) s = .next (answered 11
      (numberBytes ((List.finRange 64).filter (fun q => (s.role q).active &&
        (decide (p = 0) || decide ((s.role q).performer = some p)) &&
        covers.testBit (coverNumber (s.role q).cover)))) s)) ∧
    (∀ el, s.available el = true → exec (.fadeRead (.element (addrOf el))) s = .next (answered 19
      (.level ((s.value? el).getD (-400)) ::
        match s.entry? el with
        | none => [.byte 0]
        | some e => .byte 1 :: addressBytes e.element ++
          [.byte (match e.owner with | .cue _ => 0 | .host => 1 | .system => 2),
           .byte (match e.owner with | .cue j => j.val + 1 | .host => 0 | .system => 0),
           .level e.start, .level e.target, .time e.duration, .time e.elapsed, .time (e.duration - e.elapsed),
           markByte (s.engine.hold && match e.owner with | .cue _ => true | .host => false | .system => false)]) s)) ∧
    exec (.fadeRead .summary) s = .next (answered 19
      ([.byte s.fades.length, .byte (128 - s.fades.length),
        .byte (entriesOf s (fun o => match o with | .cue _ => true | .host => false | .system => false)),
        .byte (entriesOf s (fun o => decide (o = .host))), .byte (entriesOf s (fun o => decide (o = .system)))] ++
        (List.finRange 8).map (fun j => .byte (entriesOf s (fun o => decide (o = .cue j)))) ++
        [.byte s.attention.details.snaps, markByte s.engine.hold]) s) ∧
    (∃ l : List Element, l.Perm ((s.fades.filter (fun e => decide (e.owner = .cue k))).map (fun e => e.element)) ∧
      l.Pairwise (fun x y =>
        let key (el : Element) : Nat := (addressBytes el).foldl
          (fun n b => match b with | .byte m => n * 256 + m | _ => n) 0
        key x ≤ key y) ∧
      exec (.fadeRead (.owner (num k))) s = .next (answered 19 (.byte l.length :: l.flatMap addressBytes) s)) ∧
    (∀ n cue, 1 ≤ n → n ≤ 9999 → findCue n s = some cue → exec (.cueRead n) s = .next (answered 22
      ([.two cue.number, .label cue.label, markByte cue.follow.isSome, .time (cue.follow.getD 0),
        .byte cue.actions.length] ++
        cue.actions.flatMap (fun a => kindByte a.body :: .time a.delay :: bodyBytes a.body) ++
        [.byte (if s.cues.standby = some n then 1 else 0)]) s)) ∧
    (∀ n page, 1 ≤ n → n ≤ 9999 → 1 ≤ page → page ≤ 64 →
      let found := (s.cues.cues.map (fun c => c.number)).filter (fun m => decide (n ≤ m))
      exec (.cueList n page) s = .next (answered 23 ([.two s.cues.cues.length, .two (s.cues.standby.getD 0),
        .byte (found.take page).length] ++ (found.take page).map .two ++
        [.byte (if page < found.length then 1 else 0)]) s)) ∧
    exec (.runningRead (num k)) s = .next (answered 30
      (let x := s.slot k
       [markByte x.running, .two (x.cue.getD 0), .four x.serial.toNat] ++
        (match x.source with
         | none => [.byte 0]
         | some o => [.byte 1, .byte (match o with | .line => 0 | .port => 1 | .follow => 2)]) ++
        [.time x.elapsed, .byte x.actions.length] ++
        x.actions.flatMap (fun p => kindByte p.action.body :: bodyBytes p.action.body ++
          [.time p.action.delay, .time p.remaining]) ++
        [.byte x.owned, .byte x.skipped]) s) ∧
    exec .engineRead s = .next (answered 31
      (let e := s.engine
       [markByte e.hold, .time e.timer, .time e.lastInterval] ++
        (match e.follow with
         | none => [.byte 0]
         | some time => [.byte 1, .time time, .time (max time 1 - e.timer)]) ++
        [.four e.serial.toNat] ++
        (List.finRange 8).flatMap (fun j =>
          let x := s.slot j
          if x.running then
            [.byte 1, .two (x.cue.getD 0), .four x.serial.toNat, .four (e.serial - x.serial).toNat,
             .byte x.actions.length, .byte x.owned]
          else [.byte 0]) ++
        .byte e.triggers.length :: e.triggers.map .byte ++
        inputBytes e.goInput ++ inputBytes e.holdInput ++ inputBytes e.callInput) s)

/-- A measured point as a response carries it (R164). -/
def pointBytes : Point → List Field
  | .channel c => [.byte 0, .byte (c.val + 1)]
  | .programme b => [.byte 1, .byte (b.val + 1)]
  | .mix f => [.byte 2, .byte (f.val + 1)]
  | .relay => [.byte 3, .byte 0]
  | .station n => [.byte 4, .byte (n.val + 1)]

/-- A call record as CALL_READ gives it (R135). -/
def callBytes (c : Call) : List Field :=
  [.byte (c.preset.val + 1), .byte (match c.origin with | .port => 0 | .cue => 1 | .line => 2), .four c.serial.toNat,
    .byte (match c.priority with | .routine => 1 | .standard => 2 | .urgent => 3)]

/-- A talkback record as TALKBACK_READ gives it (R110, R111). -/
def talkbackBytes (x : Talkback) : List Field :=
  [indexByte x.source, .set 2 x.targets.toNat, .level x.level, .level x.depth, markByte x.on]

/-- The larger of the depths of the records that are ON and target the mix, or 0 (R111). -/
def depthAsked (f : Fin 12) (s : State) : Int :=
  let ask (x : Talkback) : Int := if x.on = true ∧ inSet x.targets f = true then x.depth else 0
  max (ask (s.talkback 0)) (ask (s.talkback 1))

/-- The number of an output slot's source (R157, R164). -/
def slotByte (x : SlotSource) : Field :=
  .byte (match x with
    | .none => 0
    | .programme b => 1 + b.val
    | .mix f => 9 + f.val
    | .relay => 21
    | .station n => 22 + n.val
    | .trigger => 54)

/-- The reads of the Foldback, Relay and Monitor Units and of the links answer OK with the values that stand; the STATUS
form of LINK_READ alone changes something, clearing every slip count as it reads it (R109, R111, R121, R135, R144,
R145, R160). The marks and count bytes of the parts that may be absent are the model's choice (log 11), and so are that STATUS
shows a waiting enable alone (log 34) and the 2 bytes of a monitor's count (log 16). -/
def Obligations.UnitReadsAnswer : Prop :=
  ∀ (f : Fin 12) (r : Fin 64) (n : Fin 32) (p m : Fin 16) (s : State), accepts s →
    exec (.mixRead (num f)) s = .next (answered 35
      (let x := s.mix f
       [.label x.label, .level x.master, .level x.ceiling, .level x.protect, .level x.duck] ++
        (match x.listener with
         | none => [.byte 0]
         | some q => [.byte (q.val + 1), indexByte (s.role q).channel, .two ((s.role q).performer.getD 0),
            .byte (coverNumber (s.role q).cover)]) ++
        [.level (s.mixer.peaks.get (pointIndex (.mix f))), .level (depthAsked f s)] ++
        numberBytes ((List.finRange 2).filter (fun i => (s.talkback i).on && inSet (s.talkback i).targets f)) ++
        .byte x.entries.length :: x.entries.flatMap (fun e => sourceBytes e.source ++
          [.level e.level, classByte (s.entry? (.send f e.source)),
           markByte (match e.source with
             | .role q => (s.role q).active && ((s.role q).channel.isSome || (s.role q).releasing.isSome)
             | .channel _ => true
             | .programme _ => true)])) s) ∧
    exec (.mixFind (num r)) s = .next (answered 36
      (numberBytes ((List.finRange 12).filter (fun f => decide ((s.mix f).listener = some r))) ++
        numberBytes ((List.finRange 12).filter (fun f =>
          (s.mix f).entries.any (fun e => decide (e.source = .role r))))) s) ∧
    exec .talkbackRead s = .next (answered 40 (talkbackBytes (s.talkback 0) ++ talkbackBytes (s.talkback 1) ++
      (List.finRange 12).flatMap (fun f => [.level (depthAsked f s), .level (s.mix f).duck])) s) ∧
    exec .relayRead s = .next (answered 45
      (.byte s.relay.entries.length :: s.relay.entries.flatMap (fun e => relaySourceBytes e.source ++
        [.level e.level, classByte (s.entry? (.relaySend e.source))]) ++
        [indexByte s.relay.backup, .level s.relay.backupLevel,
         .byte (match s.relay.selection with | .main => 0 | .backup => 1),
         .level (s.mixer.peaks.get (pointIndex .relay))]) s) ∧
    exec (.stationRead (num n)) s = .next (answered 47
      (let x := s.station n
       [.label x.label, .level x.volume, markByte x.programme, markByte x.calls, .level x.duck, markByte x.inCall,
        classByte (s.entry? (.station n)), classByte (s.entry? (.duck n)),
        indexByte (s.relay.active.bind (fun a => if inSet a.stations n then some a.call.preset else none)),
        .level (s.mixer.peaks.get (pointIndex (.station n)))]) s) ∧
    exec (.presetRead (num p)) s = .next (answered 49
      (let x := s.preset p
       indexByte x.source ::
        (match x.target with
         | .stations set => [.byte 0, .set 4 set.toNat]
         | .roles set => [.byte 1, .set 8 set.toNat]
         | .all => [.byte 2]) ++
        [.byte (match x.priority with | .routine => 1 | .standard => 2 | .urgent => 3), .level x.gain, .level x.depth,
         .time x.maxLength, .time x.silence] ++
        (if s.relay.active.any (fun a => decide (a.call.preset = p)) then [.byte 2]
         else if s.relay.queue.any (fun c => decide (c.preset = p)) then
          [.byte 1, .byte (s.relay.queue.findIdx (fun c => decide (c.preset = p)) + 1)]
         else [.byte 0])) s) ∧
    exec .callRead s = .next (answered 52 (.four s.relay.arrivals.toNat ::
      (match s.relay.active with
       | none => [.byte 0]
       | some a => callBytes a.call ++ [.set 4 a.stations.toNat, .time a.activeTime, .time a.silenceTime,
          .time ((s.preset a.call.preset).maxLength - a.activeTime)]) ++
      .byte s.relay.queue.length :: s.relay.queue.flatMap callBytes) s) ∧
    exec (.monitorRead (num m)) s = .next (answered 54
      (let x := s.monitor m
       markByte x.enabled :: pointBytes x.point ++
        [.level x.low, .level x.high,
         .byte (match x.condition with | .inside => 0 | .below => 1 | .above => 2 | .outside => 3), .time x.hold,
         .byte (match x.action with | .notify => 0 | .relayBackup => 1 | .muteChannel => 2),
         .byte (match x.state with | .off => 0 | .watching => 1 | .counting => 2 | .tripped => 3), .two x.count,
         .level (s.mixer.peaks.get (pointIndex x.point)), markByte (monitorTrue x s),
         markByte (inSet s.attention.details.trips m)]) s) ∧
    (∀ ps : List Point, 1 ≤ ps.length → ps.length ≤ 64 → exec (.meterRead (ps.map pointAddr)) s =
      .next (answered 55 (.byte ps.length :: ps.map (fun p => .level (s.mixer.peaks.get (pointIndex p)))) s)) ∧
    exec (.linkRead 1) s = .next (answered 59
      ((List.finRange 4).flatMap (fun l => (List.finRange 16).flatMap (fun i =>
        [slotByte (((s.output l).waitingSlots.get i).getD ((s.output l).slots.get i)),
         markByte ((s.output l).waitingSlots.get i).isSome]))) s) ∧
    ∃ t, exec (.linkRead 0) s = .next t ∧ (∀ l : Fin 4, t.receiver l = { s.receiver l with slips := 0 }) ∧
      t = answered 59
        (let c := s.links.clock
         [.byte (match c.role with | .master => 0 | .slave => 1),
          .byte (match c.source with | .internal => 0 | .wck => 1), markByte c.monitor,
          markByte (decide (c.wckAge < 3)), markByte c.returnWaiting, .byte c.frameCount] ++
          (List.finRange 4).flatMap (fun l =>
            let x := s.receiver l
            [markByte x.enable, linkStateByte x.state, .byte x.missed, .two x.slips, .level x.ramp,
             markByte (s.entry? (.link l)).isSome]) ++
          (List.finRange 4).flatMap (fun l =>
            let x := s.output l
            markByte x.enable ::
              match x.waitingEnable with
              | none => [.byte 0]
              | some v => [.byte 1, markByte v]) ++
          [.set 1 s.attention.details.links.toNat])
        { s with links := { s.links with receivers := t.links.receivers } }

/-! ## The Role Table -/

/-- ROLE_SET makes a VACANT slot ACTIVE with the values given and is answered IN_USE on an ACTIVE one (R12); CHANNEL_SET
writes each selected value into every channel of the set, clamped, and no other (R14). -/
def Obligations.RoleSetAndChannelSet : Prop :=
  (∀ (r : Fin 64) (label : Label) (p n : Nat) (cover : Cover) (s : State), accepts s →
    label.length ≤ 12 → (∀ x ∈ label, 32 ≤ x ∧ x ≤ 126) → p ≤ 999 → coverOf n = some cover →
    ((s.role r).active = true → exec (.roleSet (num r) label p n) s = .next (refusedWith .inUse 12 s)) ∧
    ((s.role r).active = false → ∃ t, exec (.roleSet (num r) label p n) s = .next t ∧
      t.role r = ⟨true, label, if p = 0 then none else some p, cover, none, none, none, 0, 3#8, none, 0, 0⟩ ∧
      (∀ q, q ≠ r → t.role q = s.role q) ∧
      t = answered 12 [] { s with table := { s.table with roles := t.table.roles } })) ∧
  ∀ (m : BitVec 64) (f : ChannelFields) (group : Option (Option (Fin 16))) (buses : Option (BitVec 8)) (s : State),
    accepts s → m ≠ 0#64 → channelValuesOk f = true → opt (indexOpt 16) f.group = .ok group →
    opt (maskOf 8) f.buses = .ok buses →
    ∃ t, exec (.channelSet m.toNat f) s = .next t ∧
      (∀ c, inSet m c = false → t.channel c = s.channel c) ∧
      (∀ c, inSet m c = true → (t.channel c).binding = (s.channel c).binding ∧
        (t.channel c).trim = (f.trim.map (clampCode (-80) 80)).getD (s.channel c).trim ∧
        (t.channel c).polarity = (f.polarity.bind polarityOf).getD (s.channel c).polarity ∧
        (t.channel c).mute = (f.mute.map isOn).getD (s.channel c).mute ∧
        (t.channel c).directBuses = buses.getD (s.channel c).directBuses ∧
        (t.channel c).directLevel = (f.level.map (clampCode (-400) 40)).getD (s.channel c).directLevel ∧
        (t.channel c).directGroup = group.getD (s.channel c).directGroup) ∧
      t = answered 14 [] { s with table := { s.table with channels := t.table.channels } }

/-- ROLE_MODIFY writes each selected value into every ACTIVE role of the set; a selected level is a direct write that takes
the entry on ROLE r away, and no other entry or value changes (R13). GROUP_SET does the same to one group (R15). -/
def Obligations.RoleModifyAndGroupSet : Prop :=
  (∀ (m : BitVec 64) (f : RoleFields) (group : Option (Option (Fin 16))) (station : Option (Option (Fin 32)))
    (buses : Option (BitVec 8)) (s : State), accepts s → m ≠ 0#64 → roleValuesOk f = true →
    opt (indexOpt 16) f.group = .ok group → opt (indexOpt 32) f.station = .ok station →
    opt (maskOf 8) f.buses = .ok buses → (∀ r, inSet m r = true → (s.role r).active = true) →
    ∃ t, exec (.roleModify m.toNat f) s = .next t ∧
      (∀ r, inSet m r = false → t.role r = s.role r) ∧
      (∀ r, inSet m r = true → t.role r = { s.role r with
        label := f.label.getD (s.role r).label
        performer := (f.performer.map (fun n => if n = 0 then none else some n)).getD (s.role r).performer
        cover := (f.cover.bind coverOf).getD (s.role r).cover
        group := group.getD (s.role r).group
        level := (f.level.map (clampCode (-400) 40)).getD (s.role r).level
        buses := buses.getD (s.role r).buses
        station := station.getD (s.role r).station }) ∧
      (∀ el, t.entry? el = if f.level.isSome ∧ ∃ r, el = .role r ∧ inSet m r = true then none else s.entry? el) ∧
      t.port.response = .ready ⟨.ok, 13, []⟩ ∧
      t = { s with
        table := { s.table with roles := t.table.roles }, fades := t.fades, attention := t.attention,
        engine := { s.engine with slots := t.engine.slots }, port := t.port }) ∧
  ∀ (g : Fin 16) (f : GroupFields) (s : State), accepts s → f.beyond = false → (f.level.isSome ∨ f.label.isSome) →
    optOk (labelOk 12) f.label = true →
    ∃ t, exec (.groupSet (num g) f) s = .next t ∧
      t.group g = ⟨(f.level.map (clampCode (-400) 40)).getD (s.group g).level, f.label.getD (s.group g).label⟩ ∧
      (∀ h, h ≠ g → t.group h = s.group h) ∧
      (∀ el, t.entry? el = if f.level.isSome ∧ el = .group g then none else s.entry? el) ∧
      t.port.response = .ready ⟨.ok, 15, []⟩ ∧
      t = { s with
        table := { s.table with groups := t.table.groups }, fades := t.fades, attention := t.attention,
        engine := { s.engine with slots := t.engine.slots }, port := t.port }

/-- ROLE_RETIRE unbinds the role's channels, removes its fades, clears the listener fields that name it and leaves the slot
VACANT, everything else standing; a VACANT slot is answered NOT_FOUND (R16). -/
def Obligations.RoleRetireVacates : Prop :=
  ∀ (r : Fin 64) (s : State), accepts s →
    ((s.role r).active = false → exec (.roleRetire (num r)) s = .next (refusedWith .notFound 16 s)) ∧
    ((s.role r).active = true → ∃ t, exec (.roleRetire (num r)) s = .next t ∧
      t.role r = ⟨false, [], none, .principal, none, none, none, 0, 3#8, none, 0, 0⟩ ∧
      (∀ q, q ≠ r → t.role q = s.role q) ∧
      (∀ c, t.channel c = { s.channel c with
        binding :=
          if (s.role r).channel = some c ∨ (s.role r).releasing = some c then .none else (s.channel c).binding }) ∧
      (∀ el, t.entry? el = if el = .role r ∨ el = .xout r ∨ el = .xin r then none else s.entry? el) ∧
      (∀ f, t.mix f = { s.mix f with listener := if (s.mix f).listener = some r then none else (s.mix f).listener }) ∧
      t.port.response = .ready ⟨.ok, 16, []⟩ ∧
      t = { s with
        table := { s.table with roles := t.table.roles, channels := t.table.channels }, fades := t.fades,
        foldback := { s.foldback with mixes := t.foldback.mixes }, attention := t.attention,
        engine := { s.engine with slots := t.engine.slots }, port := t.port })

/-- ROLE_REBIND: the role's own channel answers UNCHANGED, and so does none where the role has none; a channel of another role
is IN_USE (R17). An earlier crossfade of the role is completed first (R18). Time 0, a role without a channel and a fade table
without the entries that are needed make the rebind instant, the last with a snap for each entry (R19, R22); and a longer time
makes the old channel releasing under fades of XOUT r and XIN r, of XOUT r alone when the new channel is none (R20). The numbers
of the outcomes are the model's choice (log 11). -/
def Obligations.RoleRebindMoves : Prop :=
  (∀ (r c old : Fin 64) (time : Nat) (s : State), accepts s → (s.role r).active = true →
    (s.role r).channel = some old →
    ((s.channel old).binding = .current r →
      exec (.roleRebind (num r) (num old) time) s = .next (answered 17 [.byte 2, .byte 0] s)) ∧
    ((∃ q, q ≠ r ∧ ((s.channel c).binding = .current q ∨ (s.channel c).binding = .releasing q)) →
      exec (.roleRebind (num r) (num c) time) s = .next (refusedWith .inUse 17 s)) ∧
    ((s.channel c).binding = .none → c ≠ old → (s.role r).releasing = none →
      (time = 0 → ∃ t, exec (.roleRebind (num r) (num c) time) s = .next t ∧
        t.role r = { s.role r with channel := some c, xout := 0, xin := 0 } ∧
        (∀ q, q ≠ r → t.role q = s.role q) ∧
        (t.channel c).binding = .current r ∧ (t.channel old).binding = .none ∧
        (∀ d, d ≠ c → d ≠ old → t.channel d = s.channel d) ∧
        t.entry? (.xout r) = none ∧ t.entry? (.xin r) = none ∧
        t.port.response = .ready ⟨.ok, 17, [.byte 0, .byte 0]⟩) ∧
      (time ≠ 0 → (s.role r).xout = 0 → s.entry? (.xout r) = none → s.entry? (.xin r) = none →
        s.fades.length + 2 ≤ 128 → ∃ t, exec (.roleRebind (num r) (num c) time) s = .next t ∧
        t.role r = { s.role r with channel := some c, releasing := some old, xin := -400 } ∧
        (∀ q, q ≠ r → t.role q = s.role q) ∧
        (t.channel c).binding = .current r ∧ (t.channel old).binding = .releasing r ∧
        (∀ d, d ≠ c → d ≠ old → t.channel d = s.channel d) ∧
        t.entry? (.xout r) = some ⟨.xout r, .system, 0, -400, min time 2000, 0⟩ ∧
        t.entry? (.xin r) = some ⟨.xin r, .system, -400, 0, min time 2000, 0⟩ ∧
        (∀ el, el ≠ .xout r → el ≠ .xin r → t.entry? el = s.entry? el) ∧
        t.port.response = .ready ⟨.ok, 17, [.byte 1, .byte 0]⟩))) ∧
  ∀ (r : Fin 64) (new : Option (Fin 64)) (time : Nat) (s : State), accepts s → (s.role r).active = true →
    ((s.role r).channel = none → exec (.roleRebind (num r) 0 time) s = .next (answered 17 [.byte 2, .byte 0] s)) ∧
    ((s.role r).channel ≠ new →
      (∀ d, new = some d → ∀ q, q ≠ r → (s.channel d).binding ≠ .current q ∧ (s.channel d).binding ≠ .releasing q) →
      let need := if new.isSome then 2 else 1
      (∀ c, (s.role r).releasing = some c → ∃ (u t : State) (outcome : Nat),
        u.role r = { s.role r with releasing := none, xout := 0, xin := 0 } ∧ (∀ q, q ≠ r → u.role q = s.role q) ∧
        u.channel c = { s.channel c with binding := .none } ∧ (∀ d, d ≠ c → u.channel d = s.channel d) ∧
        (∀ el, u.entry? el = if el = .xout r ∨ el = .xin r then none else s.entry? el) ∧
        (∀ e, e ∈ u.fades ↔ e ∈ s.fades ∧ e.element ≠ .xout r ∧ e.element ≠ .xin r) ∧
        u = { s with
          table := { s.table with roles := u.table.roles, channels := u.table.channels }, fades := u.fades,
          engine := { s.engine with slots := u.engine.slots } } ∧
        exec (.roleRebind (num r) (optNum new) time) u = .next (answered 17 [.byte outcome, .byte 0] t) ∧
        exec (.roleRebind (num r) (optNum new) time) s = .next (answered 17 [.byte outcome, .byte 1] t)) ∧
      ((s.role r).releasing = none → (time = 0 ∨ (s.role r).channel = none ∨ 128 < s.fades.length + need) →
        ∃ t, exec (.roleRebind (num r) (optNum new) time) s = .next t ∧
          t.role r = { s.role r with channel := new, xout := 0, xin := 0 } ∧ (∀ q, q ≠ r → t.role q = s.role q) ∧
          (∀ d, t.channel d = { s.channel d with
            binding :=
              if new = some d then .current r else if (s.role r).channel = some d then .none
              else (s.channel d).binding }) ∧
          (∀ el, t.entry? el = if el = .xout r ∨ el = .xin r then none else s.entry? el) ∧
          t.attention = (if time = 0 ∨ (s.role r).channel = none then s.attention else { s.attention with
            flags := s.attention.flags ||| 0x100#16
            details := { s.attention.details with snaps := min (s.attention.details.snaps + need) 255 } }) ∧
          t.port.response = .ready ⟨.ok, 17, [.byte 0, .byte 0]⟩) ∧
      (∀ old, (s.role r).releasing = none → (s.role r).channel = some old → new = none → time ≠ 0 →
        (s.role r).xout = 0 → s.entry? (.xout r) = none → s.fades.length + 1 ≤ 128 →
        ∃ t, exec (.roleRebind (num r) 0 time) s = .next t ∧
          t.role r = { s.role r with channel := none, releasing := some old } ∧ (∀ q, q ≠ r → t.role q = s.role q) ∧
          (t.channel old).binding = .releasing r ∧ (∀ d, d ≠ old → t.channel d = s.channel d) ∧
          t.entry? (.xout r) = some ⟨.xout r, .system, 0, -400, min time 2000, 0⟩ ∧
          (∀ el, el ≠ .xout r → t.entry? el = s.entry? el) ∧ t.attention = s.attention ∧
          t.port.response = .ready ⟨.ok, 17, [.byte 1, .byte 0]⟩))

/-! ## The Foldback Unit -/

/-- The loss reports of one request lower owned-fade counts and complete slots that have nothing pending, which raises CUE_DONE
with the cue and the skipped count of one of them; nothing else of the slots and of the attention conditions changes (R48, R49,
R90). -/
def lossReports (s t : State) : Prop :=
  let completes (k : Fin 8) : Prop := (s.slot k).running = true ∧ (t.slot k).running = false
  (∀ k, ¬ completes k → t.slot k = { s.slot k with owned := (t.slot k).owned } ∧ (t.slot k).owned ≤ (s.slot k).owned) ∧
  (∀ k, completes k → t.slot k = {} ∧ (s.slot k).actions = []) ∧
  ((∀ k, ¬ completes k) → t.attention = s.attention) ∧
  ((∃ k, completes k) → ∃ k, completes k ∧ t.attention = { s.attention with
    flags := s.attention.flags ||| 0x40#16
    details := { s.attention.details with done := some ((s.slot k).cue.getD 0, (s.slot k).skipped) } })

/-- MIX_SET writes the selected fields of one mix, a selected master as a direct write (R106); MIX_ENTRY_SET changes levels
in place and appends new entries in item order, its answer marking each item ADDED, 0, or CHANGED, 1 (logs 11 and 35), or is
FULL where the mix would hold more than 24, however long its list (R107);
MIX_ENTRY_REMOVE takes an entry, or all, with the fades on them, and answers how many it took and how many are left (R108). An
entry edit keeps every other field of the mix, every other mix and, but for its loss reports, every other block. -/
def Obligations.MixEdits : Prop :=
  ∀ (f : Fin 12) (s : State), accepts s →
    let edited (t : State) : Prop := t.mix f = { s.mix f with entries := (t.mix f).entries } ∧
      (∀ g, g ≠ f → t.mix g = s.mix g) ∧ lossReports s t ∧
      t = { s with
        foldback := { s.foldback with mixes := t.foldback.mixes }, fades := t.fades,
        engine := { s.engine with slots := t.engine.slots }, attention := t.attention, port := t.port }
    (∀ (x : MixFields) (listener : Option (Option (Fin 64))), mixValuesOk x = true →
      opt (indexOpt 64) x.listener = .ok listener → listenerOk listener s = true →
      ∃ t, exec (.mixSet (num f) x) s = .next t ∧
        t.mix f = { s.mix f with
          label := x.label.getD (s.mix f).label
          listener := listener.getD (s.mix f).listener
          master := (x.master.map (clampCode (-400) 40)).getD (s.mix f).master
          ceiling := (x.ceiling.map (clampCode (-80) 0)).getD (s.mix f).ceiling } ∧
        (∀ g, g ≠ f → t.mix g = s.mix g) ∧
        (∀ el, t.entry? el = if x.master.isSome ∧ el = .master f then none else s.entry? el) ∧
        t.table = s.table ∧ t.relay = s.relay ∧ t.cues = s.cues ∧ t.links = s.links ∧
        t.foldback.talkbacks = s.foldback.talkbacks ∧ t.port.response = .ready ⟨.ok, 32, []⟩) ∧
    (∀ items : List (Source × Int), 1 ≤ items.length → (items.map (fun i => i.1)).Nodup →
      24 < (s.mix f).entries.length + newSources f items s →
      exec (.mixEntrySet (num f) (items.map (fun i => ⟨⟨sourceKind i.1, sourceIndex i.1⟩, i.2⟩))) s =
        .next (refusedWith .full 33 s)) ∧
    (∀ items : List (Source × Int), 1 ≤ items.length → (items.map (fun i => i.1)).Nodup →
      (s.mix f).entries.length + newSources f items s ≤ 24 →
      ∃ t, exec (.mixEntrySet (num f) (items.map (fun i => ⟨⟨sourceKind i.1, sourceIndex i.1⟩, i.2⟩))) s = .next t ∧
        (t.mix f).entries.map (fun e => e.source) = (s.mix f).entries.map (fun e => e.source) ++
          (items.map (fun i => i.1)).filter (fun src => !hasEntry f src s) ∧
        (∀ i ∈ items, hasEntry f i.1 s = true → t.entry? (.send f i.1) = none) ∧
        (∀ i ∈ items, t.value? (.send f i.1) = some (clampCode (-400) 40 i.2)) ∧
        (∀ src, src ∉ items.map (fun i => i.1) → t.value? (.send f src) = s.value? (.send f src)) ∧
        (∀ el, (∀ i ∈ items, el ≠ .send f i.1) → t.entry? el = s.entry? el) ∧ edited t ∧
        t.port.response = .ready ⟨.ok, 33, .byte (t.mix f).entries.length ::
          items.map (fun i => .byte (if hasEntry f i.1 s = true then 1 else 0))⟩) ∧
    (∃ t, exec (.mixEntryRemove (num f) .all) s = .next t ∧ (t.mix f).entries = [] ∧ edited t ∧
      (∀ src, hasEntry f src s = true → t.entry? (.send f src) = none) ∧
      (∀ el, (∀ src, hasEntry f src s = true → el ≠ .send f src) → t.entry? el = s.entry? el) ∧
      t.port.response = .ready ⟨.ok, 34, [.byte (s.mix f).entries.length, .byte 0]⟩) ∧
    (∀ src, hasEntry f src s = false →
      exec (.mixEntryRemove (num f) (.one ⟨sourceKind src, sourceIndex src⟩)) s = .next (refusedWith .notFound 34 s)) ∧
    (∀ src, hasEntry f src s = true →
      ∃ t, exec (.mixEntryRemove (num f) (.one ⟨sourceKind src, sourceIndex src⟩)) s = .next t ∧
        (t.mix f).entries = (s.mix f).entries.filter (fun e => decide (e.source ≠ src)) ∧
        (∀ el, t.entry? el = if el = .send f src then none else s.entry? el) ∧ edited t ∧
        t.port.response = .ready ⟨.ok, 34, [.byte 1, .byte (t.mix f).entries.length]⟩)

/-- TALKBACK_ON and TALKBACK_OFF change the state of a record and TALKBACK_SET its selected fields; TBDUCK f of each mix
whose required depth changed moves to it over 50 ms up and 200 ms down, written at once where it stands there already or no
place is free, and every other mix stands; taking the source from a record that is ON is IN_USE (R110, R111, R112). -/
def Obligations.TalkbackDucks : Prop :=
  ∀ (i : Fin 2) (s : State), accepts s → (∀ j, 0 ≤ (s.talkback j).depth ∧ (s.talkback j).depth ≤ 400) →
    let ducked (t : State) : Prop :=
      let asked := ((List.finRange 12).filter (fun f => decide (depthAsked f t ≠ depthAsked f s))).map Element.tbDuck
      (∀ f, depthAsked f t = depthAsked f s → t.mix f = s.mix f ∧ t.entry? (.tbDuck f) = s.entry? (.tbDuck f)) ∧
      (∀ f, depthAsked f t ≠ depthAsked f s → t.mix f = { s.mix f with duck := (t.mix f).duck } ∧
        movesTo asked (.tbDuck f) (depthAsked f t) (if depthAsked f s < depthAsked f t then 50 else 200) s t) ∧
      ∀ el, (∀ f, el ≠ .tbDuck f) → t.entry? el = s.entry? el
    let others (t : State) : Prop := (∀ j, j ≠ i → t.talkback j = s.talkback j) ∧ t.table = s.table ∧
      t.cues = s.cues ∧ t.relay = s.relay ∧ t.links = s.links ∧ t.monitors = s.monitors
    ((s.talkback i).source = none → exec (.talkbackOn (num i)) s = .next (refusedWith .invalid 38 s)) ∧
    ((s.talkback i).source.isSome → (s.talkback i).on = true →
      exec (.talkbackOn (num i)) s = .next (answered 38 [] s)) ∧
    ((s.talkback i).source.isSome → (s.talkback i).on = false → ∃ t, exec (.talkbackOn (num i)) s = .next t ∧
      t.talkback i = { s.talkback i with on := true } ∧ ducked t ∧ others t ∧
      t.port.response = .ready ⟨.ok, 38, []⟩) ∧
    ((s.talkback i).on = false → exec (.talkbackOff (num i)) s = .next (answered 39 [] s)) ∧
    ((s.talkback i).on = true → ∃ t, exec (.talkbackOff (num i)) s = .next t ∧
      t.talkback i = { s.talkback i with on := false } ∧ ducked t ∧ others t ∧
      t.port.response = .ready ⟨.ok, 39, []⟩) ∧
    (∀ (f : TalkbackFields) (source : Option (Option (Fin 64))) (targets : Option (BitVec 12)),
      talkbackAny f = true → f.beyond = false → opt (indexOpt 64) f.source = .ok source →
      opt (maskOf 12) f.targets = .ok targets →
      (source = some none → (s.talkback i).on = true →
        exec (.talkbackSet (num i) f) s = .next (refusedWith .inUse 37 s)) ∧
      (¬ (source = some none ∧ (s.talkback i).on = true) → ∃ t, exec (.talkbackSet (num i) f) s = .next t ∧
        t.talkback i = { s.talkback i with
          source := source.getD (s.talkback i).source
          targets := targets.getD (s.talkback i).targets
          level := (f.level.map (clampCode (-400) 40)).getD (s.talkback i).level
          depth := (f.depth.map (clampCode 0 400)).getD (s.talkback i).depth } ∧
        ducked t ∧ others t ∧ t.port.response = .ready ⟨.ok, 37, []⟩))

/-! ## The Relay Unit -/

/-- RELAY_ENTRY_SET changes levels in place and appends new entries in item order, and its answer marks each item ADDED, 0, or
CHANGED, 1 (logs 11 and 35), or it is FULL where the relay would hold more than 8; a ROLE source is INVALID.
RELAY_ENTRY_REMOVE takes an entry, or all, with the fades on them, and answers how many it took and how many are left (R117).
Every other field of the Relay Unit stands and, but for the loss reports, every other block. -/
def Obligations.RelayEntryEdits : Prop :=
  ∀ s : State, accepts s →
    let edited (t : State) : Prop := lossReports s t ∧
      t = { s with
        relay := { s.relay with entries := t.relay.entries }, fades := t.fades,
        engine := { s.engine with slots := t.engine.slots }, attention := t.attention, port := t.port }
    (∀ items : List (RelaySource × Int), 1 ≤ items.length → (items.map (fun i => i.1)).Nodup →
      8 < s.relay.entries.length + newRelaySources items s →
      exec (.relayEntrySet (items.map (fun i => ⟨⟨relaySourceKind i.1, relaySourceIndex i.1⟩, i.2⟩))) s =
        .next (refusedWith .full 41 s)) ∧
    (∀ items : List (RelaySource × Int), 1 ≤ items.length → (items.map (fun i => i.1)).Nodup →
      s.relay.entries.length + newRelaySources items s ≤ 8 →
      ∃ t, exec (.relayEntrySet (items.map (fun i => ⟨⟨relaySourceKind i.1, relaySourceIndex i.1⟩, i.2⟩))) s = .next t ∧
        t.relay.entries.map (fun e => e.source) = s.relay.entries.map (fun e => e.source) ++
          (items.map (fun i => i.1)).filter (fun src => !hasRelayEntry src s) ∧
        (∀ i ∈ items, t.value? (.relaySend i.1) = some (clampCode (-400) 40 i.2)) ∧
        (∀ i ∈ items, hasRelayEntry i.1 s = true → t.entry? (.relaySend i.1) = none) ∧
        (∀ src, src ∉ items.map (fun i => i.1) → t.value? (.relaySend src) = s.value? (.relaySend src)) ∧
        (∀ el, (∀ i ∈ items, el ≠ .relaySend i.1) → t.entry? el = s.entry? el) ∧
        edited t ∧
        t.port.response = .ready ⟨.ok, 41, .byte t.relay.entries.length ::
          items.map (fun i => .byte (if hasRelayEntry i.1 s = true then 1 else 0))⟩) ∧
    (∀ (r : Fin 64) (z : Int), exec (.relayEntrySet [⟨⟨1, num r⟩, z⟩]) s = .next (refusedWith .invalid 41 s)) ∧
    (∃ t, exec (.relayEntryRemove .all) s = .next t ∧ t.relay.entries = [] ∧ edited t ∧
      (∀ src, hasRelayEntry src s = true → t.entry? (.relaySend src) = none) ∧
      (∀ el, (∀ src, hasRelayEntry src s = true → el ≠ .relaySend src) → t.entry? el = s.entry? el) ∧
      t.port.response = .ready ⟨.ok, 42, [.byte s.relay.entries.length, .byte 0]⟩) ∧
    (∀ src, hasRelayEntry src s = true →
      ∃ t, exec (.relayEntryRemove (.one ⟨relaySourceKind src, relaySourceIndex src⟩)) s = .next t ∧
        t.relay.entries = s.relay.entries.filter (fun e => decide (e.source ≠ src)) ∧
        (∀ el, t.entry? el = if el = .relaySend src then none else s.entry? el) ∧ edited t ∧
        t.port.response = .ready ⟨.ok, 42, [.byte 1, .byte t.relay.entries.length]⟩) ∧
    (∀ src, hasRelayEntry src s = false →
      exec (.relayEntryRemove (.one ⟨relaySourceKind src, relaySourceIndex src⟩)) s =
        .next (refusedWith .notFound 42 s))

/-- RELAY_SET writes the backup and its level, RELAY_SELECT the selection (R118); STATION_SET writes the selected values of
every station of the set (R119); PRESET_SET writes a preset whole, clamped, unless its call lives (R121). -/
def Obligations.RelayRecordsWritten : Prop :=
  ∀ s : State, accepts s →
    (∀ (f : RelayFields) (channel : Option (Option (Fin 64))), (f.channel.isSome ∨ f.level.isSome) →
      f.beyond = false → opt (indexOpt 64) f.channel = .ok channel →
      (channel = some none → s.relay.selection = .backup → exec (.relaySet f) s = .next (refusedWith .inUse 43 s)) ∧
      (¬ (channel = some none ∧ s.relay.selection = .backup) → exec (.relaySet f) s = .next (answered 43 []
        { s with relay := { s.relay with
          backup := channel.getD s.relay.backup
          backupLevel := (f.level.map (clampCode (-400) 40)).getD s.relay.backupLevel } }))) ∧
    exec (.relaySelect 0) s = .next (answered 44 [.byte 0] { s with relay := { s.relay with selection := .main } }) ∧
    (s.relay.backup = none → exec (.relaySelect 1) s = .next (refusedWith .invalid 44 s)) ∧
    (s.relay.backup.isSome → exec (.relaySelect 1) s =
      .next (answered 44 [.byte 1] { s with relay := { s.relay with selection := .backup } })) ∧
    (∀ (m : BitVec 32) (f : StationFields), m ≠ 0#32 → stationValuesOk f = true →
      ∃ t, exec (.stationSet m.toNat f) s = .next t ∧
        (∀ n, inSet m n = false → t.station n = s.station n) ∧
        (∀ n, inSet m n = true → t.station n = { s.station n with
          label := f.label.getD (s.station n).label
          volume := (f.volume.map (clampCode (-400) 0)).getD (s.station n).volume
          programme := (f.programme.map isOn).getD (s.station n).programme
          calls := (f.calls.map isOn).getD (s.station n).calls }) ∧
        (∀ el, t.entry? el =
          if f.volume.isSome ∧ ∃ n, el = .station n ∧ inSet m n = true then none else s.entry? el) ∧
        t.relay = { s.relay with stations := t.relay.stations } ∧ t.table = s.table ∧ t.cues = s.cues ∧
        t.foldback = s.foldback ∧ t.port.response = .ready ⟨.ok, 46, []⟩) ∧
    (∀ (p : Fin 16) (f : RawPreset) (source : Option (Fin 64)) (target : CallTarget) (priority : Priority),
      indexOpt 64 f.source = .ok source → targetIndexOk f.target = true → targetOf f.target = some target →
      priorityOf f.priority = some priority →
      (callLives p s = true → exec (.presetSet (num p) f) s = .next (refusedWith .inUse 48 s)) ∧
      (callLives p s = false → ∃ t, exec (.presetSet (num p) f) s = .next t ∧
        t.preset p = ⟨source, target, priority, clampCode (-400) 40 f.gain, clampCode 0 400 f.depth,
          max 1000 (min f.maxLength 600000), if f.silence = 0 then 0 else max 500 (min f.silence 30000)⟩ ∧
        (∀ q, q ≠ p → t.preset q = s.preset q) ∧
        t = answered 48 [] { s with relay := { s.relay with presets := t.relay.presets } }))

/-- A call request that finds no call living is activated: the target is resolved once, its stations go to CALL and their
ducks move to the preset's depth over 100 ms, and where it resolves to no station the call ends NO_TARGET. CALL_START has
origin PORT, an acting CALL_N press is for preset 1 with origin LINE; an empty preset is NOT_FOUND and a living call IN_USE
(R122, R123, R124, R127, R128, R129). The outcomes' numbers in the answer are the model's choice (log 11). -/
def Obligations.CallsActivate : Prop :=
  ∀ (p : Fin 16) (s : State),
    (∀ n, inSet (resolve p s) n = true ↔ (s.station n).calls = true ∧
      (match (s.preset p).target with
       | .all => True
       | .stations set => inSet set n = true
       | .roles set => ∃ r, inSet set r = true ∧ (s.role r).active = true ∧ (s.role r).station = some n)) ∧
    (accepts s → (s.preset p).source = none → exec (.callStart (num p)) s = .next (refusedWith .notFound 50 s)) ∧
    (accepts s → (s.preset p).source.isSome → callLives p s = true →
      exec (.callStart (num p)) s = .next (refusedWith .inUse 50 s)) ∧
    ((s.preset p).source.isSome → s.relay.active = none → s.relay.queue = [] → resolve p s ≠ 0#32 →
      (accepts s → ∃ t, exec (.callStart (num p)) s = .next t ∧ callHolds p .port s t ∧
        t.port.response = .ready ⟨.ok, 50, [.four (s.relay.arrivals + 1#32).toNat, .byte 0, .byte 0]⟩) ∧
      (p = 0 → edgeActs s.engine.callInput .press = true →
        (takesEdges s → exec .callNPress s = .next (callKey .press s)) ∧
        ∃ t, callKey .press s = t ∧ callHolds p .line s t ∧ t.port = s.port ∧
          t.engine.callInput = acceptEdge .press s.engine.callInput)) ∧
    (accepts s → (s.preset p).source.isSome → s.relay.active = none → s.relay.queue = [] → resolve p s = 0#32 →
      exec (.callStart (num p)) s = .next (answered 50
        [.four (s.relay.arrivals + 1#32).toNat, .byte 2, .byte 0]
        (callReported p .noTarget { s with relay := { s.relay with arrivals := s.relay.arrivals + 1#32 } })))

/-- An accepted call that does not take over joins the queue behind every call of its own or higher priority (R126); with
eight calls pending it displaces the latest of the lowest priority when that is lower than its own, and is refused FULL when it
is not (R125). An URGENT call ends a lower active call PREEMPTED and takes its rooms over, the queue untouched (R124, R128,
R129). The outcomes' numbers in the answer are the model's choice (log 11). -/
def Obligations.CallsQueueAndPreempt : Prop :=
  ∀ (p : Fin 16) (a : ActiveCall) (s : State), accepts s → (s.preset p).source.isSome → callLives p s = false →
    s.relay.active = some a →
    let c := newCall p .port s
    let place (q : List Call) : Nat := (q.takeWhile (staysAhead c)).length + 1
    (¬ (c.priority = .urgent ∧ rank a.call.priority < 3) →
      (s.relay.queue.length < 8 →
        exec (.callStart (num p)) s = .next (answered 50
          [.four c.serial.toNat, .byte 1, .byte (place s.relay.queue), .byte 0] (callJoins c s.relay.queue s))) ∧
      (∀ d, displacedBy c d s →
        let kept := s.relay.queue.filter (fun e => decide (e ≠ d))
        exec (.callStart (num p)) s = .next (answered 50
          [.four c.serial.toNat, .byte 1, .byte (place kept), .byte (num d.preset)]
          (callReported d.preset .displaced (callJoins c kept s)))) ∧
      (8 ≤ s.relay.queue.length → (∀ d ∈ s.relay.queue, rank c.priority ≤ rank d.priority) →
        exec (.callStart (num p)) s = .next (refusedWith .full 50 s))) ∧
    (c.priority = .urgent → rank a.call.priority < 3 →
      ∃ t, exec (.callStart (num p)) s = .next t ∧ callEnded .preempted a (c :: s.relay.queue) s t ∧
        t.relay.arrivals = c.serial ∧
        t.port.response = .ready ⟨.ok, 50,
          [.four c.serial.toNat, .byte (if resolve p s ≠ 0#32 then 0 else 2), .byte (num a.call.preset)]⟩ ∧
        (resolve p s ≠ 0#32 → t.relay.active = some ⟨c, resolve p s, 0, 0⟩ ∧ t.relay.queue = s.relay.queue ∧
          t.attention.details.call = some (a.call.preset, .preempted)))

/-- CALL_END ends a preset's call HOST, active or pending, is NOT_FOUND where there is none and BAD_INDEX out of range (R130);
an acting CALL_N release ends the LINE call on preset 1, active or pending, and where there is none changes nothing (R131); the
maximum length and the silence limit end the active call TIMEOUT or SILENT at the end that is due, and an end that ends it for
neither counts it (R132; logs 7 and 8). The numbers of PENDING and ACTIVE in the answer are the model's choice (log 11). -/
def Obligations.CallsEnd : Prop :=
  ∀ (p : Fin 16) (a : ActiveCall) (s : State),
    (accepts s → callLives p s = false → exec (.callEnd (num p)) s = .next (refusedWith .notFound 51 s)) ∧
    (accepts s → s.relay.active = some a → a.call.preset = p →
      ∃ t, exec (.callEnd (num p)) s = .next t ∧ callEnded .host a s.relay.queue s t ∧
        t.relay.arrivals = s.relay.arrivals ∧
        t.port.response = .ready ⟨.ok, 51, [.byte 1, .byte (optNum (activePreset t))]⟩) ∧
    (accepts s → callActive p s = false → callPending p s = true →
      ∃ t, exec (.callEnd (num p)) s = .next t ∧
        t.relay = { s.relay with queue := s.relay.queue.filter (fun c => decide (c.preset ≠ p)) } ∧
        t.attention.details.call = some (p, .host) ∧ t.attention.flags.getLsbD 12 = true ∧
        t.port.response = .ready ⟨.ok, 51, [.byte 0, .byte (optNum (activePreset t))]⟩ ∧
        t = { s with relay := t.relay, attention := t.attention, port := t.port }) ∧
    (takesEdges s → exec .callNRelease s = .next (callKey .release s)) ∧
    (edgeActs s.engine.callInput .release = true →
      (s.relay.active = some a → a.call.preset = 0 → a.call.origin = .line →
        ∃ t, callKey .release s = t ∧ callEnded .line a s.relay.queue s t ∧
          t.relay.arrivals = s.relay.arrivals ∧ t.port = s.port) ∧
      ((∀ b, s.relay.active = some b → ¬ (b.call.preset = 0 ∧ b.call.origin = .line)) →
        (∃ c ∈ s.relay.queue, c.preset = 0 ∧ c.origin = .line) →
        ∃ t, callKey .release s = t ∧
          t.relay = { s.relay with queue := s.relay.queue.filter (fun c => decide (c.preset ≠ 0)) } ∧
          t.attention.details.call = some (0, .line) ∧ t.attention.flags.getLsbD 12 = true ∧ t.port = s.port) ∧
      ((∀ b, s.relay.active = some b → ¬ (b.call.preset = 0 ∧ b.call.origin = .line)) →
        (∀ c ∈ s.relay.queue, ¬ (c.preset = 0 ∧ c.origin = .line)) → callKey .release s =
        { s with engine := { s.engine with callInput := acceptEdge .release s.engine.callInput } })) ∧
    (accepts s → ∀ n, (n = 0 ∨ 16 < n) → exec (.callEnd n) s = .next (refusedWith .badIndex 51 s)) ∧
    (s.relay.active = some a →
      let x := s.preset a.call.preset
      let quiet (u : State) : Prop := ∀ c, x.source = some c → u.mixer.peaks.get (pointIndex (.channel c)) ≤ -240
      (takesParts .relay s → s.ending.called = false →
        (x.maxLength ≤ a.activeTime + 1 →
          ∃ t, exec .callTimeout s = .next t ∧ callEnded .timeout a s.relay.queue s t ∧
            t.relay.arrivals = s.relay.arrivals ∧ t.port = s.port ∧ t.ending.called = true) ∧
        (a.activeTime + 1 < x.maxLength → x.silence ≠ 0 → quiet (takePeaks s) → x.silence ≤ a.silenceTime + 1 →
          ∃ t, exec .callSilent s = .next t ∧ callEnded .silent a s.relay.queue s t ∧
            t.relay.arrivals = s.relay.arrivals ∧ t.port = s.port ∧ t.ending.called = true)) ∧
      (x.maxLength ≤ a.activeTime + 1 → callEnded .timeout a s.relay.queue s (countCall s)) ∧
      (a.activeTime + 1 < x.maxLength → x.silence ≠ 0 → quiet s → x.silence ≤ a.silenceTime + 1 →
        callEnded .silent a s.relay.queue s (countCall s)) ∧
      (a.activeTime + 1 < x.maxLength →
        (x.silence = 0 → countCall s = { s with relay := { s.relay with
          active := some { a with activeTime := a.activeTime + 1 } } }) ∧
        (x.silence ≠ 0 → quiet s → a.silenceTime + 1 < x.silence → countCall s = { s with relay := { s.relay with
          active := some { a with activeTime := a.activeTime + 1, silenceTime := a.silenceTime + 1 } } }) ∧
        (x.silence ≠ 0 → ¬ quiet s → countCall s = { s with relay := { s.relay with
          active := some { a with activeTime := a.activeTime + 1, silenceTime := 0 } } })))

/-! ## Monitors -/

/-- MONITOR_SET writes the record whole, clamped, and re-arms it (R139); MONITOR_TRIP, a part of the end that is due (logs 7 and
8), makes the monitor TRIPPED on the peak of the interval that ended (R38), takes its action and raises MONITOR_TRIP with the
monitor in its set (R141, R142). -/
def Obligations.MonitorSetAndTrip : Prop :=
  (∀ (m : Fin 16) (f : RawMonitor) (point : Point) (w : Window) (act : TripAction) (s : State), accepts s →
    f.enabled ≤ 1 → pointIndexOk f.point = true → pointOf f.point = some point → windowOf f.condition = some w →
    tripActionOf f.action = some act →
    ((∃ c, point = .channel c) ∨ act ≠ .muteChannel) → clampCode (-400) 0 f.low ≤ clampCode (-400) 0 f.high →
    ∃ t, exec (.monitorSet (num m) f) s = .next t ∧
      t.monitor m = ⟨decide (f.enabled = 1), point, clampCode (-400) 0 f.low, clampCode (-400) 0 f.high, w,
        max 1 (min f.hold 60000), act, if f.enabled = 1 then .watching else .off, 0⟩ ∧
      (∀ i, i ≠ m → t.monitor i = s.monitor i) ∧ t = answered 53 [] { s with monitors := t.monitors }) ∧
  ∀ (m : Fin 16) (s : State), takesParts .monitors s →
    inSet s.ending.monitors m = false → armed (s.monitor m) = true →
    monitorTrue (s.monitor m) (takePeaks s) = true → (s.monitor m).hold ≤ (s.monitor m).count + 1 →
    ∃ t, exec (.monitorTrip m) s = .next t ∧
      t.monitor m = { s.monitor m with state := .tripped, count := (s.monitor m).count + 1 } ∧
      (∀ i, i ≠ m → t.monitor i = s.monitor i) ∧
      inSet t.attention.details.trips m = true ∧ t.attention.flags = s.attention.flags ||| 0x4000#16 ∧
      (∀ i, i ≠ m → inSet t.attention.details.trips i = inSet s.attention.details.trips i) ∧
      ((s.monitor m).action ≠ .relayBackup → t.relay = s.relay) ∧
      ((s.monitor m).action = .relayBackup → t.relay = { s.relay with selection :=
        if s.relay.backup.isSome then .backup else s.relay.selection }) ∧
      ((s.monitor m).action ≠ .muteChannel → t.table = s.table) ∧
      (∀ c, (s.monitor m).action = .muteChannel → (s.monitor m).point = .channel c →
        t.channel c = { s.channel c with mute := true } ∧ ∀ d, d ≠ c → t.channel d = s.channel d) ∧
      (s.ending.measured = true → t.mixer = s.mixer) ∧
      (s.ending.measured = false → t.mixer.out = s.mixer.out ∧ ∀ i,
        t.mixer.peaks.get i = peakCode (s.mixer.largest.get i) ∧ t.mixer.largest.get i = 0) ∧
      t.ending = { s.ending with begun := true, block := some .monitors, measured := true, monitors := t.ending.monitors } ∧
      (∀ i, inSet t.ending.monitors i = (inSet s.ending.monitors i || decide (i = m))) ∧
      t = { s with
        monitors := t.monitors, attention := t.attention, relay := t.relay, table := t.table, mixer := t.mixer,
        ending := t.ending }

/-! ## Links and the clock -/

/-- LINK_SET turns input links on, to WAIT_SYNC, and off, to DISABLED with the ramp OFF, and lets output enables wait for
their frame boundary (R154, R156, R159); SLOT_MAP_SET lets map entries wait for it (R157). -/
def Obligations.LinksSet : Prop :=
  (∀ (f : LinkFields) (s : State), accepts s → linkValuesOk f = true →
    ∃ t, exec (.linkSet f) s = .next t ∧
      (∀ n, f.inputs.get n = none → t.receiver n = s.receiver n ∧ t.entry? (.link n) = s.entry? (.link n)) ∧
      (∀ n, f.inputs.get n = some 1 → t.receiver n = if (s.receiver n).enable = true then s.receiver n else
        { s.receiver n with
          enable := true, state := .waitSync, receiving := false, newest := none, held := Table.replicate 16 0,
          missed := 0 }) ∧
      (∀ n, f.inputs.get n = some 0 → (s.receiver n).enable = true → t.entry? (.link n) = none ∧
        t.receiver n = ⟨false, .disabled, false, none, Table.replicate 16 0, 0, (s.receiver n).slips, -400⟩) ∧
      (∀ n, f.inputs.get n = some 0 → (s.receiver n).enable = false → t.receiver n = s.receiver n) ∧
      (∀ n, t.output n = { s.output n with
        waitingEnable :=
          match f.outputs.get n with
          | none => (s.output n).waitingEnable
          | some v => if isOn v = (s.output n).enable then none else some (isOn v) }) ∧
      t.links.clock = { s.links.clock with monitor := (f.monitor.map isOn).getD s.links.clock.monitor } ∧
      (∀ el, t.entry? el =
        if ∃ n, el = .link n ∧ f.inputs.get n = some 0 ∧ (s.receiver n).enable = true then none else s.entry? el) ∧
      t.port.response = .ready ⟨.ok, 56,
        (List.finRange 4).map (fun n => linkStateByte (t.receiver n).state) ++
        (List.finRange 4).flatMap (fun n =>
          [markByte ((t.output n).waitingEnable.getD (t.output n).enable), markByte (t.output n).waitingEnable.isSome]) ++
        [.byte (match t.links.clock.role with | .master => 0 | .slave => 1),
         .byte (match t.links.clock.source with | .internal => 0 | .wck => 1), markByte t.links.clock.monitor]⟩ ∧
      t.attention = s.attention ∧
      t = { s with
        links := t.links, fades := t.fades, engine := { s.engine with slots := t.engine.slots }, port := t.port }) ∧
  ∀ (items : List (Fin 4 × Fin 16 × SlotSource)) (s : State), accepts s → 1 ≤ items.length → items.length ≤ 64 →
    (items.map (fun i => (i.1, i.2.1))).Nodup → (∀ i ∈ items, i.2.2 = .trigger → i.1 = 3 ∧ i.2.1 = 15) →
    ∃ t, exec (.slotMapSet (items.map (fun i => ⟨num i.1, num i.2.1, slotSourceNum i.2.2⟩))) s = .next t ∧
      (∀ n k src, (n, k, src) ∈ items → (t.output n).waitingSlots.get k = some src) ∧
      (∀ n k, (n, k) ∉ items.map (fun i => (i.1, i.2.1)) →
        (t.output n).waitingSlots.get k = (s.output n).waitingSlots.get k) ∧
      (∀ n, t.output n = { s.output n with waitingSlots := (t.output n).waitingSlots }) ∧
      t = answered 58 [] { s with links := { s.links with outputs := t.links.outputs } }

/-- A link frame becomes the newest frame, an unused one before it counting a slip; an arrival in WAIT_SYNC or LOST locks
the link under a SYSTEM fade of its ramp over 20 ms (R152, R155). A sync begins a frame and a sync before the 16th word
counts no slip (R152), and a link that has bridged four frames is lost, outside a pause of the frame clock (R147, R153). -/
def Obligations.LinksReceive : Prop :=
  ∀ (n : Fin 4) (words : Table SlotWord 16) (s : State), s.inReset = false → s.ending.begun = false →
    ((s.receiver n).enable = true → (s.receiver n).receiving = true →
      exec (.partialFrameDiscard n) s = .next s ∧
      ∃ t, exec (.linkFrameArrival n words) s = .next t ∧
        (∃ frame : Table Int 16, (t.receiver n).newest = some frame ∧
          ∀ i, frame.get i = ((words.get i).extractLsb' 8 24).toInt) ∧
        (t.receiver n).slips = (if (s.receiver n).newest.isSome then min ((s.receiver n).slips + 1) 65535
          else (s.receiver n).slips) ∧
        ((s.receiver n).state = .locked → (t.receiver n).state = .locked ∧ t.fades = s.fades ∧
          t.attention = s.attention) ∧
        ((s.receiver n).state = .waitSync ∨ (s.receiver n).state = .lost →
          (t.receiver n).state = .locked ∧ (t.receiver n).missed = 0 ∧
          t.attention.flags.getLsbD 4 = true ∧ inSet t.attention.details.links n = true ∧
          ((s.receiver n).ramp ≠ 0 → s.entry? (.link n) = none → s.fades.length < 128 →
            t.entry? (.link n) = some ⟨.link n, .system, (s.receiver n).ramp, 0, 20, 0⟩)) ∧
        (∀ m, m ≠ n → t.receiver m = s.receiver m) ∧ t.table = s.table ∧ t.links.clock = s.links.clock) ∧
    ((s.receiver n).enable = true → ∃ t, exec (.frameSync n) s = .next t ∧
      t.receiver n = { s.receiver n with receiving := true } ∧
      t = { s with links := { s.links with receivers := t.links.receivers } }) ∧
    (paused s = false → (s.receiver n).state = .locked → (s.receiver n).newest = none → (s.receiver n).missed = 4 →
      ∃ t, exec (.linkLost n) s = .next t ∧
        t.receiver n = { s.receiver n with
          state := .lost, held := Table.replicate 16 0, missed := 0, ramp := -400 } ∧
        t.entry? (.link n) = none ∧ inSet t.attention.details.links n = true ∧
        t.attention.flags = s.attention.flags ||| 0x10#16 ∧ ∀ m, m ≠ n → t.receiver m = s.receiver m)

/-- At its frame boundary an output link takes what waits and sends its 16 slots: the destination's sample, the oldest
trigger code, or nothing (R156, R157, R158, R165); that the code is sent before the first frame is computed too is the model's
choice (log 40). In a pause of the frame clock, WCK being its source and absent, it sends none (R147). OBCK and OFS are driven
but in a reset procedure and stand still in a pause (R156, R170). CLOCK_RETURN, the return it asks for, its being abandoned, and
the fallback move the frame clock's source (R149, R150); WCK counts as absent from the third frame period without an edge on
(R147; log 4). -/
def Obligations.OutputFramesAndClock : Prop :=
  (∀ s : State, (paused s = true ↔ s.links.clock.source = .wck ∧ 3 ≤ s.links.clock.wckAge) ∧
    (s.inReset = true → linkClocks s = .undriven) ∧
    (s.inReset = false → paused s = true → linkClocks s = .stopped ∧
      (s.ending.begun = false → ∀ n, exec (.outputLinkFrame n) s = .next s)) ∧
    (s.inReset = false → paused s = false → linkClocks s = .running)) ∧
  (∀ (n : Fin 4) (s : State), s.inReset = false → paused s = false → s.ending.begun = false →
    ∃ t, exec (.outputLinkFrame n) s = .next t ∧
    (t.output n).enable = (s.output n).waitingEnable.getD (s.output n).enable ∧
    (t.output n).waitingEnable = none ∧
    (∀ k, (t.output n).slots.get k = ((s.output n).waitingSlots.get k).getD ((s.output n).slots.get k) ∧
      (t.output n).waitingSlots.get k = none) ∧
    ((t.output n).enable = false → (∀ k, (t.output n).sent.get k = none) ∧ t.engine = s.engine) ∧
    ((t.output n).enable = true → ∀ k, (t.output n).sent.get k =
      match (t.output n).slots.get k with
      | .none => none
      | .programme b => some (BitVec.ofInt 24 (s.mixer.out.bus.get b) ++ 0#8)
      | .mix f => some (BitVec.ofInt 24 (s.mixer.out.mix.get f) ++ 0#8)
      | .relay => some (BitVec.ofInt 24 s.mixer.out.relay ++ 0#8)
      | .station i => some (BitVec.ofInt 24 (s.mixer.out.station.get i) ++ 0#8)
      | .trigger => some (0#24 ++ BitVec.ofNat 8 (s.engine.triggers.headD 0))) ∧
    ((t.output n).enable = true → (∃ k, (t.output n).slots.get k = .trigger) →
      t.engine = { s.engine with triggers := s.engine.triggers.tail }) ∧
    ((∀ k, (t.output n).slots.get k ≠ .trigger) → t.engine = s.engine) ∧
    (∀ m, m ≠ n → t.output m = s.output m) ∧
    t = { s with links := { s.links with outputs := t.links.outputs }, engine := t.engine }) ∧
  ∀ s : State,
    (accepts s → s.links.clock.role = .master → exec .clockReturn s = .next (refusedWith .invalid 57 s)) ∧
    (accepts s → s.links.clock.role = .slave → s.links.clock.source = .wck →
      exec .clockReturn s = .next (answered 57 [] s)) ∧
    (accepts s → s.links.clock.role = .slave → s.links.clock.source = .internal →
      exec .clockReturn s = .next (if s.links.clock.wckAge < 3 then answered 57 []
        { s with links := { s.links with clock := { s.links.clock with returnWaiting := true } } }
        else refusedWith .invalid 57 s)) ∧
    (s.inReset = false → s.ending.begun = false → s.links.clock.returnWaiting = true →
      exec .returnToWck s = .next { s with links := { s.links with
        clock := { s.links.clock with source := .wck, returnWaiting := false, wckAge := 0 } } } ∧
      exec .returnAbandoned s = .next { s with
        links := { s.links with clock := { s.links.clock with returnWaiting := false, wckAge := 3 } },
        attention := { s.attention with flags := s.attention.flags ||| 8#16 } }) ∧
    (s.inReset = false → s.ending.begun = false → s.links.clock.role = .slave → s.links.clock.source = .wck →
      s.links.clock.monitor = true →
      exec .fallback s = .next { s with
        links := { s.links with clock := { s.links.clock with source := .internal, wckAge := 3 } },
        attention := { s.attention with flags := s.attention.flags ||| 8#16 } }) ∧
    (s.inReset = false → s.ending.begun = false → s.links.clock.source = .wck →
      (s.links.clock.role = .master ∨ s.links.clock.monitor = false) →
      exec .fallback s = .next { s with links := { s.links with clock := { s.links.clock with wckAge := 3 } } }) ∧
    (s.resets.procedure = none → ∃ t, exec .pinCause s = .next t ∧ t.links.clock.returnWaiting = false)
end

