-- ==== Sys2Proof/Laws/State.lean ====
section
/-! SUPPORT. One lemma for each field and each update of State, true by unfolding, so that no proof unfolds an update. -/

namespace Sys2Proof.Machine

/-! ### modChannel -/

section

variable (s : State) (x : Fin 64) (f : Channel → Channel)

@[simp] theorem modChannel_mixer : (s.modChannel x f).mixer = s.mixer := rfl
@[simp] theorem modChannel_fades : (s.modChannel x f).fades = s.fades := rfl
@[simp] theorem modChannel_cues : (s.modChannel x f).cues = s.cues := rfl
@[simp] theorem modChannel_engine : (s.modChannel x f).engine = s.engine := rfl
@[simp] theorem modChannel_foldback : (s.modChannel x f).foldback = s.foldback := rfl
@[simp] theorem modChannel_relay : (s.modChannel x f).relay = s.relay := rfl
@[simp] theorem modChannel_monitors : (s.modChannel x f).monitors = s.monitors := rfl
@[simp] theorem modChannel_links : (s.modChannel x f).links = s.links := rfl
@[simp] theorem modChannel_attention : (s.modChannel x f).attention = s.attention := rfl
@[simp] theorem modChannel_port : (s.modChannel x f).port = s.port := rfl
@[simp] theorem modChannel_resets : (s.modChannel x f).resets = s.resets := rfl
@[simp] theorem modChannel_ending : (s.modChannel x f).ending = s.ending := rfl
@[simp] theorem modChannel_freeIndex : (s.modChannel x f).freeIndex = s.freeIndex := rfl
@[simp] theorem modChannel_pending : (s.modChannel x f).pending = s.pending := rfl
@[simp] theorem modChannel_table_roles : (s.modChannel x f).table.roles = s.table.roles := rfl
@[simp] theorem modChannel_table_groups : (s.modChannel x f).table.groups = s.table.groups := rfl
@[simp] theorem modChannel_channel (y : Fin 64) :
    (s.modChannel x f).channel y = if x = y then f (s.channel y) else s.channel y := Table.get_modify ..
@[simp] theorem modChannel_role (r : Fin 64) : (s.modChannel x f).role r = s.role r := rfl
@[simp] theorem modChannel_group (g : Fin 16) : (s.modChannel x f).group g = s.group g := rfl
@[simp] theorem modChannel_slot (k : Fin 8) : (s.modChannel x f).slot k = s.slot k := rfl
@[simp] theorem modChannel_mix (i : Fin 12) : (s.modChannel x f).mix i = s.mix i := rfl
@[simp] theorem modChannel_talkback (t : Fin 2) : (s.modChannel x f).talkback t = s.talkback t := rfl
@[simp] theorem modChannel_station (n : Fin 32) : (s.modChannel x f).station n = s.station n := rfl
@[simp] theorem modChannel_preset (p : Fin 16) : (s.modChannel x f).preset p = s.preset p := rfl
@[simp] theorem modChannel_monitor (m : Fin 16) : (s.modChannel x f).monitor m = s.monitor m := rfl
@[simp] theorem modChannel_receiver (l : Fin 4) : (s.modChannel x f).receiver l = s.receiver l := rfl
@[simp] theorem modChannel_output (o : Fin 4) : (s.modChannel x f).output o = s.output o := rfl
@[simp] theorem modChannel_entry (el : Element) : (s.modChannel x f).entry? el = s.entry? el := rfl
@[simp] theorem modChannel_peak (pt : Point) : (s.modChannel x f).peak pt = s.peak pt := rfl
@[simp] theorem modChannel_inReset : (s.modChannel x f).inReset = s.inReset := rfl

end

/-! ### modRole -/

section

variable (s : State) (x : Fin 64) (f : Role → Role)

@[simp] theorem modRole_mixer : (s.modRole x f).mixer = s.mixer := rfl
@[simp] theorem modRole_fades : (s.modRole x f).fades = s.fades := rfl
@[simp] theorem modRole_cues : (s.modRole x f).cues = s.cues := rfl
@[simp] theorem modRole_engine : (s.modRole x f).engine = s.engine := rfl
@[simp] theorem modRole_foldback : (s.modRole x f).foldback = s.foldback := rfl
@[simp] theorem modRole_relay : (s.modRole x f).relay = s.relay := rfl
@[simp] theorem modRole_monitors : (s.modRole x f).monitors = s.monitors := rfl
@[simp] theorem modRole_links : (s.modRole x f).links = s.links := rfl
@[simp] theorem modRole_attention : (s.modRole x f).attention = s.attention := rfl
@[simp] theorem modRole_port : (s.modRole x f).port = s.port := rfl
@[simp] theorem modRole_resets : (s.modRole x f).resets = s.resets := rfl
@[simp] theorem modRole_ending : (s.modRole x f).ending = s.ending := rfl
@[simp] theorem modRole_freeIndex : (s.modRole x f).freeIndex = s.freeIndex := rfl
@[simp] theorem modRole_pending : (s.modRole x f).pending = s.pending := rfl
@[simp] theorem modRole_table_channels : (s.modRole x f).table.channels = s.table.channels := rfl
@[simp] theorem modRole_table_groups : (s.modRole x f).table.groups = s.table.groups := rfl
@[simp] theorem modRole_channel (c : Fin 64) : (s.modRole x f).channel c = s.channel c := rfl
@[simp] theorem modRole_role (y : Fin 64) :
    (s.modRole x f).role y = if x = y then f (s.role y) else s.role y := Table.get_modify ..
@[simp] theorem modRole_group (g : Fin 16) : (s.modRole x f).group g = s.group g := rfl
@[simp] theorem modRole_slot (k : Fin 8) : (s.modRole x f).slot k = s.slot k := rfl
@[simp] theorem modRole_mix (i : Fin 12) : (s.modRole x f).mix i = s.mix i := rfl
@[simp] theorem modRole_talkback (t : Fin 2) : (s.modRole x f).talkback t = s.talkback t := rfl
@[simp] theorem modRole_station (n : Fin 32) : (s.modRole x f).station n = s.station n := rfl
@[simp] theorem modRole_preset (p : Fin 16) : (s.modRole x f).preset p = s.preset p := rfl
@[simp] theorem modRole_monitor (m : Fin 16) : (s.modRole x f).monitor m = s.monitor m := rfl
@[simp] theorem modRole_receiver (l : Fin 4) : (s.modRole x f).receiver l = s.receiver l := rfl
@[simp] theorem modRole_output (o : Fin 4) : (s.modRole x f).output o = s.output o := rfl
@[simp] theorem modRole_entry (el : Element) : (s.modRole x f).entry? el = s.entry? el := rfl
@[simp] theorem modRole_peak (pt : Point) : (s.modRole x f).peak pt = s.peak pt := rfl
@[simp] theorem modRole_inReset : (s.modRole x f).inReset = s.inReset := rfl

end

/-! ### modGroup -/

section

variable (s : State) (x : Fin 16) (f : Group → Group)

@[simp] theorem modGroup_mixer : (s.modGroup x f).mixer = s.mixer := rfl
@[simp] theorem modGroup_fades : (s.modGroup x f).fades = s.fades := rfl
@[simp] theorem modGroup_cues : (s.modGroup x f).cues = s.cues := rfl
@[simp] theorem modGroup_engine : (s.modGroup x f).engine = s.engine := rfl
@[simp] theorem modGroup_foldback : (s.modGroup x f).foldback = s.foldback := rfl
@[simp] theorem modGroup_relay : (s.modGroup x f).relay = s.relay := rfl
@[simp] theorem modGroup_monitors : (s.modGroup x f).monitors = s.monitors := rfl
@[simp] theorem modGroup_links : (s.modGroup x f).links = s.links := rfl
@[simp] theorem modGroup_attention : (s.modGroup x f).attention = s.attention := rfl
@[simp] theorem modGroup_port : (s.modGroup x f).port = s.port := rfl
@[simp] theorem modGroup_resets : (s.modGroup x f).resets = s.resets := rfl
@[simp] theorem modGroup_ending : (s.modGroup x f).ending = s.ending := rfl
@[simp] theorem modGroup_freeIndex : (s.modGroup x f).freeIndex = s.freeIndex := rfl
@[simp] theorem modGroup_pending : (s.modGroup x f).pending = s.pending := rfl
@[simp] theorem modGroup_table_channels : (s.modGroup x f).table.channels = s.table.channels := rfl
@[simp] theorem modGroup_table_roles : (s.modGroup x f).table.roles = s.table.roles := rfl
@[simp] theorem modGroup_channel (c : Fin 64) : (s.modGroup x f).channel c = s.channel c := rfl
@[simp] theorem modGroup_role (r : Fin 64) : (s.modGroup x f).role r = s.role r := rfl
@[simp] theorem modGroup_group (y : Fin 16) :
    (s.modGroup x f).group y = if x = y then f (s.group y) else s.group y := Table.get_modify ..
@[simp] theorem modGroup_slot (k : Fin 8) : (s.modGroup x f).slot k = s.slot k := rfl
@[simp] theorem modGroup_mix (i : Fin 12) : (s.modGroup x f).mix i = s.mix i := rfl
@[simp] theorem modGroup_talkback (t : Fin 2) : (s.modGroup x f).talkback t = s.talkback t := rfl
@[simp] theorem modGroup_station (n : Fin 32) : (s.modGroup x f).station n = s.station n := rfl
@[simp] theorem modGroup_preset (p : Fin 16) : (s.modGroup x f).preset p = s.preset p := rfl
@[simp] theorem modGroup_monitor (m : Fin 16) : (s.modGroup x f).monitor m = s.monitor m := rfl
@[simp] theorem modGroup_receiver (l : Fin 4) : (s.modGroup x f).receiver l = s.receiver l := rfl
@[simp] theorem modGroup_output (o : Fin 4) : (s.modGroup x f).output o = s.output o := rfl
@[simp] theorem modGroup_entry (el : Element) : (s.modGroup x f).entry? el = s.entry? el := rfl
@[simp] theorem modGroup_peak (pt : Point) : (s.modGroup x f).peak pt = s.peak pt := rfl
@[simp] theorem modGroup_inReset : (s.modGroup x f).inReset = s.inReset := rfl

end

/-! ### modSlot -/

section

variable (s : State) (x : Fin 8) (f : Slot → Slot)

@[simp] theorem modSlot_table : (s.modSlot x f).table = s.table := rfl
@[simp] theorem modSlot_mixer : (s.modSlot x f).mixer = s.mixer := rfl
@[simp] theorem modSlot_fades : (s.modSlot x f).fades = s.fades := rfl
@[simp] theorem modSlot_cues : (s.modSlot x f).cues = s.cues := rfl
@[simp] theorem modSlot_foldback : (s.modSlot x f).foldback = s.foldback := rfl
@[simp] theorem modSlot_relay : (s.modSlot x f).relay = s.relay := rfl
@[simp] theorem modSlot_monitors : (s.modSlot x f).monitors = s.monitors := rfl
@[simp] theorem modSlot_links : (s.modSlot x f).links = s.links := rfl
@[simp] theorem modSlot_attention : (s.modSlot x f).attention = s.attention := rfl
@[simp] theorem modSlot_port : (s.modSlot x f).port = s.port := rfl
@[simp] theorem modSlot_resets : (s.modSlot x f).resets = s.resets := rfl
@[simp] theorem modSlot_ending : (s.modSlot x f).ending = s.ending := rfl
@[simp] theorem modSlot_freeIndex : (s.modSlot x f).freeIndex = s.freeIndex := rfl
@[simp] theorem modSlot_pending : (s.modSlot x f).pending = s.pending := rfl
@[simp] theorem modSlot_engine_goInput : (s.modSlot x f).engine.goInput = s.engine.goInput := rfl
@[simp] theorem modSlot_engine_holdInput : (s.modSlot x f).engine.holdInput = s.engine.holdInput := rfl
@[simp] theorem modSlot_engine_callInput : (s.modSlot x f).engine.callInput = s.engine.callInput := rfl
@[simp] theorem modSlot_engine_serial : (s.modSlot x f).engine.serial = s.engine.serial := rfl
@[simp] theorem modSlot_engine_safes : (s.modSlot x f).engine.safes = s.engine.safes := rfl
@[simp] theorem modSlot_engine_timer : (s.modSlot x f).engine.timer = s.engine.timer := rfl
@[simp] theorem modSlot_engine_lastInterval : (s.modSlot x f).engine.lastInterval = s.engine.lastInterval := rfl
@[simp] theorem modSlot_engine_follow : (s.modSlot x f).engine.follow = s.engine.follow := rfl
@[simp] theorem modSlot_engine_hold : (s.modSlot x f).engine.hold = s.engine.hold := rfl
@[simp] theorem modSlot_engine_triggers : (s.modSlot x f).engine.triggers = s.engine.triggers := rfl
@[simp] theorem modSlot_channel (c : Fin 64) : (s.modSlot x f).channel c = s.channel c := rfl
@[simp] theorem modSlot_role (r : Fin 64) : (s.modSlot x f).role r = s.role r := rfl
@[simp] theorem modSlot_group (g : Fin 16) : (s.modSlot x f).group g = s.group g := rfl
@[simp] theorem modSlot_slot (y : Fin 8) :
    (s.modSlot x f).slot y = if x = y then f (s.slot y) else s.slot y := Table.get_modify ..
@[simp] theorem modSlot_mix (i : Fin 12) : (s.modSlot x f).mix i = s.mix i := rfl
@[simp] theorem modSlot_talkback (t : Fin 2) : (s.modSlot x f).talkback t = s.talkback t := rfl
@[simp] theorem modSlot_station (n : Fin 32) : (s.modSlot x f).station n = s.station n := rfl
@[simp] theorem modSlot_preset (p : Fin 16) : (s.modSlot x f).preset p = s.preset p := rfl
@[simp] theorem modSlot_monitor (m : Fin 16) : (s.modSlot x f).monitor m = s.monitor m := rfl
@[simp] theorem modSlot_receiver (l : Fin 4) : (s.modSlot x f).receiver l = s.receiver l := rfl
@[simp] theorem modSlot_output (o : Fin 4) : (s.modSlot x f).output o = s.output o := rfl
@[simp] theorem modSlot_entry (el : Element) : (s.modSlot x f).entry? el = s.entry? el := rfl
@[simp] theorem modSlot_peak (pt : Point) : (s.modSlot x f).peak pt = s.peak pt := rfl
@[simp] theorem modSlot_inReset : (s.modSlot x f).inReset = s.inReset := rfl

end

/-! ### modMix -/

section

variable (s : State) (x : Fin 12) (f : Mix → Mix)

@[simp] theorem modMix_table : (s.modMix x f).table = s.table := rfl
@[simp] theorem modMix_mixer : (s.modMix x f).mixer = s.mixer := rfl
@[simp] theorem modMix_fades : (s.modMix x f).fades = s.fades := rfl
@[simp] theorem modMix_cues : (s.modMix x f).cues = s.cues := rfl
@[simp] theorem modMix_engine : (s.modMix x f).engine = s.engine := rfl
@[simp] theorem modMix_relay : (s.modMix x f).relay = s.relay := rfl
@[simp] theorem modMix_monitors : (s.modMix x f).monitors = s.monitors := rfl
@[simp] theorem modMix_links : (s.modMix x f).links = s.links := rfl
@[simp] theorem modMix_attention : (s.modMix x f).attention = s.attention := rfl
@[simp] theorem modMix_port : (s.modMix x f).port = s.port := rfl
@[simp] theorem modMix_resets : (s.modMix x f).resets = s.resets := rfl
@[simp] theorem modMix_ending : (s.modMix x f).ending = s.ending := rfl
@[simp] theorem modMix_freeIndex : (s.modMix x f).freeIndex = s.freeIndex := rfl
@[simp] theorem modMix_pending : (s.modMix x f).pending = s.pending := rfl
@[simp] theorem modMix_foldback_talkbacks : (s.modMix x f).foldback.talkbacks = s.foldback.talkbacks := rfl
@[simp] theorem modMix_channel (c : Fin 64) : (s.modMix x f).channel c = s.channel c := rfl
@[simp] theorem modMix_role (r : Fin 64) : (s.modMix x f).role r = s.role r := rfl
@[simp] theorem modMix_group (g : Fin 16) : (s.modMix x f).group g = s.group g := rfl
@[simp] theorem modMix_slot (k : Fin 8) : (s.modMix x f).slot k = s.slot k := rfl
@[simp] theorem modMix_mix (y : Fin 12) :
    (s.modMix x f).mix y = if x = y then f (s.mix y) else s.mix y := Table.get_modify ..
@[simp] theorem modMix_talkback (t : Fin 2) : (s.modMix x f).talkback t = s.talkback t := rfl
@[simp] theorem modMix_station (n : Fin 32) : (s.modMix x f).station n = s.station n := rfl
@[simp] theorem modMix_preset (p : Fin 16) : (s.modMix x f).preset p = s.preset p := rfl
@[simp] theorem modMix_monitor (m : Fin 16) : (s.modMix x f).monitor m = s.monitor m := rfl
@[simp] theorem modMix_receiver (l : Fin 4) : (s.modMix x f).receiver l = s.receiver l := rfl
@[simp] theorem modMix_output (o : Fin 4) : (s.modMix x f).output o = s.output o := rfl
@[simp] theorem modMix_entry (el : Element) : (s.modMix x f).entry? el = s.entry? el := rfl
@[simp] theorem modMix_peak (pt : Point) : (s.modMix x f).peak pt = s.peak pt := rfl
@[simp] theorem modMix_inReset : (s.modMix x f).inReset = s.inReset := rfl

end

/-! ### modTalkback -/

section

variable (s : State) (x : Fin 2) (f : Talkback → Talkback)

@[simp] theorem modTalkback_table : (s.modTalkback x f).table = s.table := rfl
@[simp] theorem modTalkback_mixer : (s.modTalkback x f).mixer = s.mixer := rfl
@[simp] theorem modTalkback_fades : (s.modTalkback x f).fades = s.fades := rfl
@[simp] theorem modTalkback_cues : (s.modTalkback x f).cues = s.cues := rfl
@[simp] theorem modTalkback_engine : (s.modTalkback x f).engine = s.engine := rfl
@[simp] theorem modTalkback_relay : (s.modTalkback x f).relay = s.relay := rfl
@[simp] theorem modTalkback_monitors : (s.modTalkback x f).monitors = s.monitors := rfl
@[simp] theorem modTalkback_links : (s.modTalkback x f).links = s.links := rfl
@[simp] theorem modTalkback_attention : (s.modTalkback x f).attention = s.attention := rfl
@[simp] theorem modTalkback_port : (s.modTalkback x f).port = s.port := rfl
@[simp] theorem modTalkback_resets : (s.modTalkback x f).resets = s.resets := rfl
@[simp] theorem modTalkback_ending : (s.modTalkback x f).ending = s.ending := rfl
@[simp] theorem modTalkback_freeIndex : (s.modTalkback x f).freeIndex = s.freeIndex := rfl
@[simp] theorem modTalkback_pending : (s.modTalkback x f).pending = s.pending := rfl
@[simp] theorem modTalkback_foldback_mixes : (s.modTalkback x f).foldback.mixes = s.foldback.mixes := rfl
@[simp] theorem modTalkback_channel (c : Fin 64) : (s.modTalkback x f).channel c = s.channel c := rfl
@[simp] theorem modTalkback_role (r : Fin 64) : (s.modTalkback x f).role r = s.role r := rfl
@[simp] theorem modTalkback_group (g : Fin 16) : (s.modTalkback x f).group g = s.group g := rfl
@[simp] theorem modTalkback_slot (k : Fin 8) : (s.modTalkback x f).slot k = s.slot k := rfl
@[simp] theorem modTalkback_mix (i : Fin 12) : (s.modTalkback x f).mix i = s.mix i := rfl
@[simp] theorem modTalkback_talkback (y : Fin 2) :
    (s.modTalkback x f).talkback y = if x = y then f (s.talkback y) else s.talkback y := Table.get_modify ..
@[simp] theorem modTalkback_station (n : Fin 32) : (s.modTalkback x f).station n = s.station n := rfl
@[simp] theorem modTalkback_preset (p : Fin 16) : (s.modTalkback x f).preset p = s.preset p := rfl
@[simp] theorem modTalkback_monitor (m : Fin 16) : (s.modTalkback x f).monitor m = s.monitor m := rfl
@[simp] theorem modTalkback_receiver (l : Fin 4) : (s.modTalkback x f).receiver l = s.receiver l := rfl
@[simp] theorem modTalkback_output (o : Fin 4) : (s.modTalkback x f).output o = s.output o := rfl
@[simp] theorem modTalkback_entry (el : Element) : (s.modTalkback x f).entry? el = s.entry? el := rfl
@[simp] theorem modTalkback_peak (pt : Point) : (s.modTalkback x f).peak pt = s.peak pt := rfl
@[simp] theorem modTalkback_inReset : (s.modTalkback x f).inReset = s.inReset := rfl

end

/-! ### modStation -/

section

variable (s : State) (x : Fin 32) (f : Station → Station)

@[simp] theorem modStation_table : (s.modStation x f).table = s.table := rfl
@[simp] theorem modStation_mixer : (s.modStation x f).mixer = s.mixer := rfl
@[simp] theorem modStation_fades : (s.modStation x f).fades = s.fades := rfl
@[simp] theorem modStation_cues : (s.modStation x f).cues = s.cues := rfl
@[simp] theorem modStation_engine : (s.modStation x f).engine = s.engine := rfl
@[simp] theorem modStation_foldback : (s.modStation x f).foldback = s.foldback := rfl
@[simp] theorem modStation_monitors : (s.modStation x f).monitors = s.monitors := rfl
@[simp] theorem modStation_links : (s.modStation x f).links = s.links := rfl
@[simp] theorem modStation_attention : (s.modStation x f).attention = s.attention := rfl
@[simp] theorem modStation_port : (s.modStation x f).port = s.port := rfl
@[simp] theorem modStation_resets : (s.modStation x f).resets = s.resets := rfl
@[simp] theorem modStation_ending : (s.modStation x f).ending = s.ending := rfl
@[simp] theorem modStation_freeIndex : (s.modStation x f).freeIndex = s.freeIndex := rfl
@[simp] theorem modStation_pending : (s.modStation x f).pending = s.pending := rfl
@[simp] theorem modStation_relay_entries : (s.modStation x f).relay.entries = s.relay.entries := rfl
@[simp] theorem modStation_relay_backup : (s.modStation x f).relay.backup = s.relay.backup := rfl
@[simp] theorem modStation_relay_backupLevel : (s.modStation x f).relay.backupLevel = s.relay.backupLevel := rfl
@[simp] theorem modStation_relay_selection : (s.modStation x f).relay.selection = s.relay.selection := rfl
@[simp] theorem modStation_relay_presets : (s.modStation x f).relay.presets = s.relay.presets := rfl
@[simp] theorem modStation_relay_arrivals : (s.modStation x f).relay.arrivals = s.relay.arrivals := rfl
@[simp] theorem modStation_relay_active : (s.modStation x f).relay.active = s.relay.active := rfl
@[simp] theorem modStation_relay_queue : (s.modStation x f).relay.queue = s.relay.queue := rfl
@[simp] theorem modStation_channel (c : Fin 64) : (s.modStation x f).channel c = s.channel c := rfl
@[simp] theorem modStation_role (r : Fin 64) : (s.modStation x f).role r = s.role r := rfl
@[simp] theorem modStation_group (g : Fin 16) : (s.modStation x f).group g = s.group g := rfl
@[simp] theorem modStation_slot (k : Fin 8) : (s.modStation x f).slot k = s.slot k := rfl
@[simp] theorem modStation_mix (i : Fin 12) : (s.modStation x f).mix i = s.mix i := rfl
@[simp] theorem modStation_talkback (t : Fin 2) : (s.modStation x f).talkback t = s.talkback t := rfl
@[simp] theorem modStation_station (y : Fin 32) :
    (s.modStation x f).station y = if x = y then f (s.station y) else s.station y := Table.get_modify ..
@[simp] theorem modStation_preset (p : Fin 16) : (s.modStation x f).preset p = s.preset p := rfl
@[simp] theorem modStation_monitor (m : Fin 16) : (s.modStation x f).monitor m = s.monitor m := rfl
@[simp] theorem modStation_receiver (l : Fin 4) : (s.modStation x f).receiver l = s.receiver l := rfl
@[simp] theorem modStation_output (o : Fin 4) : (s.modStation x f).output o = s.output o := rfl
@[simp] theorem modStation_entry (el : Element) : (s.modStation x f).entry? el = s.entry? el := rfl
@[simp] theorem modStation_peak (pt : Point) : (s.modStation x f).peak pt = s.peak pt := rfl
@[simp] theorem modStation_inReset : (s.modStation x f).inReset = s.inReset := rfl

end

/-! ### modPreset -/

section

variable (s : State) (x : Fin 16) (f : Preset → Preset)

@[simp] theorem modPreset_table : (s.modPreset x f).table = s.table := rfl
@[simp] theorem modPreset_mixer : (s.modPreset x f).mixer = s.mixer := rfl
@[simp] theorem modPreset_fades : (s.modPreset x f).fades = s.fades := rfl
@[simp] theorem modPreset_cues : (s.modPreset x f).cues = s.cues := rfl
@[simp] theorem modPreset_engine : (s.modPreset x f).engine = s.engine := rfl
@[simp] theorem modPreset_foldback : (s.modPreset x f).foldback = s.foldback := rfl
@[simp] theorem modPreset_monitors : (s.modPreset x f).monitors = s.monitors := rfl
@[simp] theorem modPreset_links : (s.modPreset x f).links = s.links := rfl
@[simp] theorem modPreset_attention : (s.modPreset x f).attention = s.attention := rfl
@[simp] theorem modPreset_port : (s.modPreset x f).port = s.port := rfl
@[simp] theorem modPreset_resets : (s.modPreset x f).resets = s.resets := rfl
@[simp] theorem modPreset_ending : (s.modPreset x f).ending = s.ending := rfl
@[simp] theorem modPreset_freeIndex : (s.modPreset x f).freeIndex = s.freeIndex := rfl
@[simp] theorem modPreset_pending : (s.modPreset x f).pending = s.pending := rfl
@[simp] theorem modPreset_relay_entries : (s.modPreset x f).relay.entries = s.relay.entries := rfl
@[simp] theorem modPreset_relay_backup : (s.modPreset x f).relay.backup = s.relay.backup := rfl
@[simp] theorem modPreset_relay_backupLevel : (s.modPreset x f).relay.backupLevel = s.relay.backupLevel := rfl
@[simp] theorem modPreset_relay_selection : (s.modPreset x f).relay.selection = s.relay.selection := rfl
@[simp] theorem modPreset_relay_stations : (s.modPreset x f).relay.stations = s.relay.stations := rfl
@[simp] theorem modPreset_relay_arrivals : (s.modPreset x f).relay.arrivals = s.relay.arrivals := rfl
@[simp] theorem modPreset_relay_active : (s.modPreset x f).relay.active = s.relay.active := rfl
@[simp] theorem modPreset_relay_queue : (s.modPreset x f).relay.queue = s.relay.queue := rfl
@[simp] theorem modPreset_channel (c : Fin 64) : (s.modPreset x f).channel c = s.channel c := rfl
@[simp] theorem modPreset_role (r : Fin 64) : (s.modPreset x f).role r = s.role r := rfl
@[simp] theorem modPreset_group (g : Fin 16) : (s.modPreset x f).group g = s.group g := rfl
@[simp] theorem modPreset_slot (k : Fin 8) : (s.modPreset x f).slot k = s.slot k := rfl
@[simp] theorem modPreset_mix (i : Fin 12) : (s.modPreset x f).mix i = s.mix i := rfl
@[simp] theorem modPreset_talkback (t : Fin 2) : (s.modPreset x f).talkback t = s.talkback t := rfl
@[simp] theorem modPreset_station (n : Fin 32) : (s.modPreset x f).station n = s.station n := rfl
@[simp] theorem modPreset_preset (y : Fin 16) :
    (s.modPreset x f).preset y = if x = y then f (s.preset y) else s.preset y := Table.get_modify ..
@[simp] theorem modPreset_monitor (m : Fin 16) : (s.modPreset x f).monitor m = s.monitor m := rfl
@[simp] theorem modPreset_receiver (l : Fin 4) : (s.modPreset x f).receiver l = s.receiver l := rfl
@[simp] theorem modPreset_output (o : Fin 4) : (s.modPreset x f).output o = s.output o := rfl
@[simp] theorem modPreset_entry (el : Element) : (s.modPreset x f).entry? el = s.entry? el := rfl
@[simp] theorem modPreset_peak (pt : Point) : (s.modPreset x f).peak pt = s.peak pt := rfl
@[simp] theorem modPreset_inReset : (s.modPreset x f).inReset = s.inReset := rfl

end

/-! ### modMonitor -/

section

variable (s : State) (x : Fin 16) (f : Monitor → Monitor)

@[simp] theorem modMonitor_table : (s.modMonitor x f).table = s.table := rfl
@[simp] theorem modMonitor_mixer : (s.modMonitor x f).mixer = s.mixer := rfl
@[simp] theorem modMonitor_fades : (s.modMonitor x f).fades = s.fades := rfl
@[simp] theorem modMonitor_cues : (s.modMonitor x f).cues = s.cues := rfl
@[simp] theorem modMonitor_engine : (s.modMonitor x f).engine = s.engine := rfl
@[simp] theorem modMonitor_foldback : (s.modMonitor x f).foldback = s.foldback := rfl
@[simp] theorem modMonitor_relay : (s.modMonitor x f).relay = s.relay := rfl
@[simp] theorem modMonitor_links : (s.modMonitor x f).links = s.links := rfl
@[simp] theorem modMonitor_attention : (s.modMonitor x f).attention = s.attention := rfl
@[simp] theorem modMonitor_port : (s.modMonitor x f).port = s.port := rfl
@[simp] theorem modMonitor_resets : (s.modMonitor x f).resets = s.resets := rfl
@[simp] theorem modMonitor_ending : (s.modMonitor x f).ending = s.ending := rfl
@[simp] theorem modMonitor_freeIndex : (s.modMonitor x f).freeIndex = s.freeIndex := rfl
@[simp] theorem modMonitor_pending : (s.modMonitor x f).pending = s.pending := rfl
@[simp] theorem modMonitor_channel (c : Fin 64) : (s.modMonitor x f).channel c = s.channel c := rfl
@[simp] theorem modMonitor_role (r : Fin 64) : (s.modMonitor x f).role r = s.role r := rfl
@[simp] theorem modMonitor_group (g : Fin 16) : (s.modMonitor x f).group g = s.group g := rfl
@[simp] theorem modMonitor_slot (k : Fin 8) : (s.modMonitor x f).slot k = s.slot k := rfl
@[simp] theorem modMonitor_mix (i : Fin 12) : (s.modMonitor x f).mix i = s.mix i := rfl
@[simp] theorem modMonitor_talkback (t : Fin 2) : (s.modMonitor x f).talkback t = s.talkback t := rfl
@[simp] theorem modMonitor_station (n : Fin 32) : (s.modMonitor x f).station n = s.station n := rfl
@[simp] theorem modMonitor_preset (p : Fin 16) : (s.modMonitor x f).preset p = s.preset p := rfl
@[simp] theorem modMonitor_monitor (y : Fin 16) :
    (s.modMonitor x f).monitor y = if x = y then f (s.monitor y) else s.monitor y := Table.get_modify ..
@[simp] theorem modMonitor_receiver (l : Fin 4) : (s.modMonitor x f).receiver l = s.receiver l := rfl
@[simp] theorem modMonitor_output (o : Fin 4) : (s.modMonitor x f).output o = s.output o := rfl
@[simp] theorem modMonitor_entry (el : Element) : (s.modMonitor x f).entry? el = s.entry? el := rfl
@[simp] theorem modMonitor_peak (pt : Point) : (s.modMonitor x f).peak pt = s.peak pt := rfl
@[simp] theorem modMonitor_inReset : (s.modMonitor x f).inReset = s.inReset := rfl

end

/-! ### modReceiver -/

section

variable (s : State) (x : Fin 4) (f : Receiver → Receiver)

@[simp] theorem modReceiver_table : (s.modReceiver x f).table = s.table := rfl
@[simp] theorem modReceiver_mixer : (s.modReceiver x f).mixer = s.mixer := rfl
@[simp] theorem modReceiver_fades : (s.modReceiver x f).fades = s.fades := rfl
@[simp] theorem modReceiver_cues : (s.modReceiver x f).cues = s.cues := rfl
@[simp] theorem modReceiver_engine : (s.modReceiver x f).engine = s.engine := rfl
@[simp] theorem modReceiver_foldback : (s.modReceiver x f).foldback = s.foldback := rfl
@[simp] theorem modReceiver_relay : (s.modReceiver x f).relay = s.relay := rfl
@[simp] theorem modReceiver_monitors : (s.modReceiver x f).monitors = s.monitors := rfl
@[simp] theorem modReceiver_attention : (s.modReceiver x f).attention = s.attention := rfl
@[simp] theorem modReceiver_port : (s.modReceiver x f).port = s.port := rfl
@[simp] theorem modReceiver_resets : (s.modReceiver x f).resets = s.resets := rfl
@[simp] theorem modReceiver_ending : (s.modReceiver x f).ending = s.ending := rfl
@[simp] theorem modReceiver_freeIndex : (s.modReceiver x f).freeIndex = s.freeIndex := rfl
@[simp] theorem modReceiver_pending : (s.modReceiver x f).pending = s.pending := rfl
@[simp] theorem modReceiver_links_clock : (s.modReceiver x f).links.clock = s.links.clock := rfl
@[simp] theorem modReceiver_links_outputs : (s.modReceiver x f).links.outputs = s.links.outputs := rfl
@[simp] theorem modReceiver_channel (c : Fin 64) : (s.modReceiver x f).channel c = s.channel c := rfl
@[simp] theorem modReceiver_role (r : Fin 64) : (s.modReceiver x f).role r = s.role r := rfl
@[simp] theorem modReceiver_group (g : Fin 16) : (s.modReceiver x f).group g = s.group g := rfl
@[simp] theorem modReceiver_slot (k : Fin 8) : (s.modReceiver x f).slot k = s.slot k := rfl
@[simp] theorem modReceiver_mix (i : Fin 12) : (s.modReceiver x f).mix i = s.mix i := rfl
@[simp] theorem modReceiver_talkback (t : Fin 2) : (s.modReceiver x f).talkback t = s.talkback t := rfl
@[simp] theorem modReceiver_station (n : Fin 32) : (s.modReceiver x f).station n = s.station n := rfl
@[simp] theorem modReceiver_preset (p : Fin 16) : (s.modReceiver x f).preset p = s.preset p := rfl
@[simp] theorem modReceiver_monitor (m : Fin 16) : (s.modReceiver x f).monitor m = s.monitor m := rfl
@[simp] theorem modReceiver_receiver (y : Fin 4) :
    (s.modReceiver x f).receiver y = if x = y then f (s.receiver y) else s.receiver y := Table.get_modify ..
@[simp] theorem modReceiver_output (o : Fin 4) : (s.modReceiver x f).output o = s.output o := rfl
@[simp] theorem modReceiver_entry (el : Element) : (s.modReceiver x f).entry? el = s.entry? el := rfl
@[simp] theorem modReceiver_peak (pt : Point) : (s.modReceiver x f).peak pt = s.peak pt := rfl
@[simp] theorem modReceiver_inReset : (s.modReceiver x f).inReset = s.inReset := rfl

end

/-! ### modOutput -/

section

variable (s : State) (x : Fin 4) (f : OutLink → OutLink)

@[simp] theorem modOutput_table : (s.modOutput x f).table = s.table := rfl
@[simp] theorem modOutput_mixer : (s.modOutput x f).mixer = s.mixer := rfl
@[simp] theorem modOutput_fades : (s.modOutput x f).fades = s.fades := rfl
@[simp] theorem modOutput_cues : (s.modOutput x f).cues = s.cues := rfl
@[simp] theorem modOutput_engine : (s.modOutput x f).engine = s.engine := rfl
@[simp] theorem modOutput_foldback : (s.modOutput x f).foldback = s.foldback := rfl
@[simp] theorem modOutput_relay : (s.modOutput x f).relay = s.relay := rfl
@[simp] theorem modOutput_monitors : (s.modOutput x f).monitors = s.monitors := rfl
@[simp] theorem modOutput_attention : (s.modOutput x f).attention = s.attention := rfl
@[simp] theorem modOutput_port : (s.modOutput x f).port = s.port := rfl
@[simp] theorem modOutput_resets : (s.modOutput x f).resets = s.resets := rfl
@[simp] theorem modOutput_ending : (s.modOutput x f).ending = s.ending := rfl
@[simp] theorem modOutput_freeIndex : (s.modOutput x f).freeIndex = s.freeIndex := rfl
@[simp] theorem modOutput_pending : (s.modOutput x f).pending = s.pending := rfl
@[simp] theorem modOutput_links_clock : (s.modOutput x f).links.clock = s.links.clock := rfl
@[simp] theorem modOutput_links_receivers : (s.modOutput x f).links.receivers = s.links.receivers := rfl
@[simp] theorem modOutput_channel (c : Fin 64) : (s.modOutput x f).channel c = s.channel c := rfl
@[simp] theorem modOutput_role (r : Fin 64) : (s.modOutput x f).role r = s.role r := rfl
@[simp] theorem modOutput_group (g : Fin 16) : (s.modOutput x f).group g = s.group g := rfl
@[simp] theorem modOutput_slot (k : Fin 8) : (s.modOutput x f).slot k = s.slot k := rfl
@[simp] theorem modOutput_mix (i : Fin 12) : (s.modOutput x f).mix i = s.mix i := rfl
@[simp] theorem modOutput_talkback (t : Fin 2) : (s.modOutput x f).talkback t = s.talkback t := rfl
@[simp] theorem modOutput_station (n : Fin 32) : (s.modOutput x f).station n = s.station n := rfl
@[simp] theorem modOutput_preset (p : Fin 16) : (s.modOutput x f).preset p = s.preset p := rfl
@[simp] theorem modOutput_monitor (m : Fin 16) : (s.modOutput x f).monitor m = s.monitor m := rfl
@[simp] theorem modOutput_receiver (l : Fin 4) : (s.modOutput x f).receiver l = s.receiver l := rfl
@[simp] theorem modOutput_output (y : Fin 4) :
    (s.modOutput x f).output y = if x = y then f (s.output y) else s.output y := Table.get_modify ..
@[simp] theorem modOutput_entry (el : Element) : (s.modOutput x f).entry? el = s.entry? el := rfl
@[simp] theorem modOutput_peak (pt : Point) : (s.modOutput x f).peak pt = s.peak pt := rfl
@[simp] theorem modOutput_inReset : (s.modOutput x f).inReset = s.inReset := rfl

end

/-! ### modEngine -/

section

variable (s : State) (f : CueEngine → CueEngine)

@[simp] theorem modEngine_table : (s.modEngine f).table = s.table := rfl
@[simp] theorem modEngine_mixer : (s.modEngine f).mixer = s.mixer := rfl
@[simp] theorem modEngine_fades : (s.modEngine f).fades = s.fades := rfl
@[simp] theorem modEngine_cues : (s.modEngine f).cues = s.cues := rfl
@[simp] theorem modEngine_foldback : (s.modEngine f).foldback = s.foldback := rfl
@[simp] theorem modEngine_relay : (s.modEngine f).relay = s.relay := rfl
@[simp] theorem modEngine_monitors : (s.modEngine f).monitors = s.monitors := rfl
@[simp] theorem modEngine_links : (s.modEngine f).links = s.links := rfl
@[simp] theorem modEngine_attention : (s.modEngine f).attention = s.attention := rfl
@[simp] theorem modEngine_port : (s.modEngine f).port = s.port := rfl
@[simp] theorem modEngine_resets : (s.modEngine f).resets = s.resets := rfl
@[simp] theorem modEngine_ending : (s.modEngine f).ending = s.ending := rfl
@[simp] theorem modEngine_freeIndex : (s.modEngine f).freeIndex = s.freeIndex := rfl
@[simp] theorem modEngine_pending : (s.modEngine f).pending = s.pending := rfl
@[simp] theorem modEngine_engine : (s.modEngine f).engine = f s.engine := rfl
@[simp] theorem modEngine_channel (c : Fin 64) : (s.modEngine f).channel c = s.channel c := rfl
@[simp] theorem modEngine_role (r : Fin 64) : (s.modEngine f).role r = s.role r := rfl
@[simp] theorem modEngine_group (g : Fin 16) : (s.modEngine f).group g = s.group g := rfl
@[simp] theorem modEngine_mix (i : Fin 12) : (s.modEngine f).mix i = s.mix i := rfl
@[simp] theorem modEngine_talkback (t : Fin 2) : (s.modEngine f).talkback t = s.talkback t := rfl
@[simp] theorem modEngine_station (n : Fin 32) : (s.modEngine f).station n = s.station n := rfl
@[simp] theorem modEngine_preset (p : Fin 16) : (s.modEngine f).preset p = s.preset p := rfl
@[simp] theorem modEngine_monitor (m : Fin 16) : (s.modEngine f).monitor m = s.monitor m := rfl
@[simp] theorem modEngine_receiver (l : Fin 4) : (s.modEngine f).receiver l = s.receiver l := rfl
@[simp] theorem modEngine_output (o : Fin 4) : (s.modEngine f).output o = s.output o := rfl
@[simp] theorem modEngine_entry (el : Element) : (s.modEngine f).entry? el = s.entry? el := rfl
@[simp] theorem modEngine_peak (pt : Point) : (s.modEngine f).peak pt = s.peak pt := rfl
@[simp] theorem modEngine_inReset : (s.modEngine f).inReset = s.inReset := rfl

end

/-! ### modRelay -/

section

variable (s : State) (f : Relay → Relay)

@[simp] theorem modRelay_table : (s.modRelay f).table = s.table := rfl
@[simp] theorem modRelay_mixer : (s.modRelay f).mixer = s.mixer := rfl
@[simp] theorem modRelay_fades : (s.modRelay f).fades = s.fades := rfl
@[simp] theorem modRelay_cues : (s.modRelay f).cues = s.cues := rfl
@[simp] theorem modRelay_engine : (s.modRelay f).engine = s.engine := rfl
@[simp] theorem modRelay_foldback : (s.modRelay f).foldback = s.foldback := rfl
@[simp] theorem modRelay_monitors : (s.modRelay f).monitors = s.monitors := rfl
@[simp] theorem modRelay_links : (s.modRelay f).links = s.links := rfl
@[simp] theorem modRelay_attention : (s.modRelay f).attention = s.attention := rfl
@[simp] theorem modRelay_port : (s.modRelay f).port = s.port := rfl
@[simp] theorem modRelay_resets : (s.modRelay f).resets = s.resets := rfl
@[simp] theorem modRelay_ending : (s.modRelay f).ending = s.ending := rfl
@[simp] theorem modRelay_freeIndex : (s.modRelay f).freeIndex = s.freeIndex := rfl
@[simp] theorem modRelay_pending : (s.modRelay f).pending = s.pending := rfl
@[simp] theorem modRelay_relay : (s.modRelay f).relay = f s.relay := rfl
@[simp] theorem modRelay_channel (c : Fin 64) : (s.modRelay f).channel c = s.channel c := rfl
@[simp] theorem modRelay_role (r : Fin 64) : (s.modRelay f).role r = s.role r := rfl
@[simp] theorem modRelay_group (g : Fin 16) : (s.modRelay f).group g = s.group g := rfl
@[simp] theorem modRelay_slot (k : Fin 8) : (s.modRelay f).slot k = s.slot k := rfl
@[simp] theorem modRelay_mix (i : Fin 12) : (s.modRelay f).mix i = s.mix i := rfl
@[simp] theorem modRelay_talkback (t : Fin 2) : (s.modRelay f).talkback t = s.talkback t := rfl
@[simp] theorem modRelay_monitor (m : Fin 16) : (s.modRelay f).monitor m = s.monitor m := rfl
@[simp] theorem modRelay_receiver (l : Fin 4) : (s.modRelay f).receiver l = s.receiver l := rfl
@[simp] theorem modRelay_output (o : Fin 4) : (s.modRelay f).output o = s.output o := rfl
@[simp] theorem modRelay_entry (el : Element) : (s.modRelay f).entry? el = s.entry? el := rfl
@[simp] theorem modRelay_peak (pt : Point) : (s.modRelay f).peak pt = s.peak pt := rfl
@[simp] theorem modRelay_inReset : (s.modRelay f).inReset = s.inReset := rfl

end

/-! ### modClock -/

section

variable (s : State) (f : Clock → Clock)

@[simp] theorem modClock_table : (s.modClock f).table = s.table := rfl
@[simp] theorem modClock_mixer : (s.modClock f).mixer = s.mixer := rfl
@[simp] theorem modClock_fades : (s.modClock f).fades = s.fades := rfl
@[simp] theorem modClock_cues : (s.modClock f).cues = s.cues := rfl
@[simp] theorem modClock_engine : (s.modClock f).engine = s.engine := rfl
@[simp] theorem modClock_foldback : (s.modClock f).foldback = s.foldback := rfl
@[simp] theorem modClock_relay : (s.modClock f).relay = s.relay := rfl
@[simp] theorem modClock_monitors : (s.modClock f).monitors = s.monitors := rfl
@[simp] theorem modClock_attention : (s.modClock f).attention = s.attention := rfl
@[simp] theorem modClock_port : (s.modClock f).port = s.port := rfl
@[simp] theorem modClock_resets : (s.modClock f).resets = s.resets := rfl
@[simp] theorem modClock_ending : (s.modClock f).ending = s.ending := rfl
@[simp] theorem modClock_freeIndex : (s.modClock f).freeIndex = s.freeIndex := rfl
@[simp] theorem modClock_pending : (s.modClock f).pending = s.pending := rfl
@[simp] theorem modClock_clock : (s.modClock f).links.clock = f s.links.clock := rfl
@[simp] theorem modClock_receivers : (s.modClock f).links.receivers = s.links.receivers := rfl
@[simp] theorem modClock_outputs : (s.modClock f).links.outputs = s.links.outputs := rfl
@[simp] theorem modClock_channel (c : Fin 64) : (s.modClock f).channel c = s.channel c := rfl
@[simp] theorem modClock_role (r : Fin 64) : (s.modClock f).role r = s.role r := rfl
@[simp] theorem modClock_group (g : Fin 16) : (s.modClock f).group g = s.group g := rfl
@[simp] theorem modClock_slot (k : Fin 8) : (s.modClock f).slot k = s.slot k := rfl
@[simp] theorem modClock_mix (i : Fin 12) : (s.modClock f).mix i = s.mix i := rfl
@[simp] theorem modClock_talkback (t : Fin 2) : (s.modClock f).talkback t = s.talkback t := rfl
@[simp] theorem modClock_station (n : Fin 32) : (s.modClock f).station n = s.station n := rfl
@[simp] theorem modClock_preset (p : Fin 16) : (s.modClock f).preset p = s.preset p := rfl
@[simp] theorem modClock_monitor (m : Fin 16) : (s.modClock f).monitor m = s.monitor m := rfl
@[simp] theorem modClock_receiver (l : Fin 4) : (s.modClock f).receiver l = s.receiver l := rfl
@[simp] theorem modClock_output (o : Fin 4) : (s.modClock f).output o = s.output o := rfl
@[simp] theorem modClock_entry (el : Element) : (s.modClock f).entry? el = s.entry? el := rfl
@[simp] theorem modClock_peak (pt : Point) : (s.modClock f).peak pt = s.peak pt := rfl
@[simp] theorem modClock_inReset : (s.modClock f).inReset = s.inReset := rfl

end

/-! ### modEnding -/

section

variable (s : State) (f : Ending → Ending)

@[simp] theorem modEnding_table : (s.modEnding f).table = s.table := rfl
@[simp] theorem modEnding_mixer : (s.modEnding f).mixer = s.mixer := rfl
@[simp] theorem modEnding_fades : (s.modEnding f).fades = s.fades := rfl
@[simp] theorem modEnding_cues : (s.modEnding f).cues = s.cues := rfl
@[simp] theorem modEnding_engine : (s.modEnding f).engine = s.engine := rfl
@[simp] theorem modEnding_foldback : (s.modEnding f).foldback = s.foldback := rfl
@[simp] theorem modEnding_relay : (s.modEnding f).relay = s.relay := rfl
@[simp] theorem modEnding_monitors : (s.modEnding f).monitors = s.monitors := rfl
@[simp] theorem modEnding_attention : (s.modEnding f).attention = s.attention := rfl
@[simp] theorem modEnding_port : (s.modEnding f).port = s.port := rfl
@[simp] theorem modEnding_resets : (s.modEnding f).resets = s.resets := rfl
@[simp] theorem modEnding_ending : (s.modEnding f).ending = f s.ending := rfl
@[simp] theorem modEnding_freeIndex : (s.modEnding f).freeIndex = s.freeIndex := rfl
@[simp] theorem modEnding_pending : (s.modEnding f).pending = s.pending := rfl
@[simp] theorem modEnding_links : (s.modEnding f).links = s.links := rfl
@[simp] theorem modEnding_channel (c : Fin 64) : (s.modEnding f).channel c = s.channel c := rfl
@[simp] theorem modEnding_role (r : Fin 64) : (s.modEnding f).role r = s.role r := rfl
@[simp] theorem modEnding_group (g : Fin 16) : (s.modEnding f).group g = s.group g := rfl
@[simp] theorem modEnding_slot (k : Fin 8) : (s.modEnding f).slot k = s.slot k := rfl
@[simp] theorem modEnding_mix (i : Fin 12) : (s.modEnding f).mix i = s.mix i := rfl
@[simp] theorem modEnding_talkback (t : Fin 2) : (s.modEnding f).talkback t = s.talkback t := rfl
@[simp] theorem modEnding_station (n : Fin 32) : (s.modEnding f).station n = s.station n := rfl
@[simp] theorem modEnding_preset (p : Fin 16) : (s.modEnding f).preset p = s.preset p := rfl
@[simp] theorem modEnding_monitor (m : Fin 16) : (s.modEnding f).monitor m = s.monitor m := rfl
@[simp] theorem modEnding_receiver (l : Fin 4) : (s.modEnding f).receiver l = s.receiver l := rfl
@[simp] theorem modEnding_output (o : Fin 4) : (s.modEnding f).output o = s.output o := rfl
@[simp] theorem modEnding_entry (el : Element) : (s.modEnding f).entry? el = s.entry? el := rfl
@[simp] theorem modEnding_peak (pt : Point) : (s.modEnding f).peak pt = s.peak pt := rfl
@[simp] theorem modEnding_inReset : (s.modEnding f).inReset = s.inReset := rfl

end

/-! ### raise -/

section

variable (s : State) (c : Condition) (f : Details → Details)

@[simp] theorem raise_table : (s.raise c f).table = s.table := rfl
@[simp] theorem raise_mixer : (s.raise c f).mixer = s.mixer := rfl
@[simp] theorem raise_fades : (s.raise c f).fades = s.fades := rfl
@[simp] theorem raise_cues : (s.raise c f).cues = s.cues := rfl
@[simp] theorem raise_engine : (s.raise c f).engine = s.engine := rfl
@[simp] theorem raise_foldback : (s.raise c f).foldback = s.foldback := rfl
@[simp] theorem raise_relay : (s.raise c f).relay = s.relay := rfl
@[simp] theorem raise_monitors : (s.raise c f).monitors = s.monitors := rfl
@[simp] theorem raise_links : (s.raise c f).links = s.links := rfl
@[simp] theorem raise_port : (s.raise c f).port = s.port := rfl
@[simp] theorem raise_resets : (s.raise c f).resets = s.resets := rfl
@[simp] theorem raise_ending : (s.raise c f).ending = s.ending := rfl
@[simp] theorem raise_freeIndex : (s.raise c f).freeIndex = s.freeIndex := rfl
@[simp] theorem raise_pending : (s.raise c f).pending = s.pending := rfl
@[simp] theorem raise_flags : (s.raise c f).attention.flags = s.attention.flags ||| only (condBit c) := rfl
@[simp] theorem raise_enables : (s.raise c f).attention.enables = s.attention.enables := rfl
@[simp] theorem raise_details : (s.raise c f).attention.details = f s.attention.details := rfl
@[simp] theorem raise_channel (ch : Fin 64) : (s.raise c f).channel ch = s.channel ch := rfl
@[simp] theorem raise_role (r : Fin 64) : (s.raise c f).role r = s.role r := rfl
@[simp] theorem raise_group (g : Fin 16) : (s.raise c f).group g = s.group g := rfl
@[simp] theorem raise_slot (k : Fin 8) : (s.raise c f).slot k = s.slot k := rfl
@[simp] theorem raise_mix (i : Fin 12) : (s.raise c f).mix i = s.mix i := rfl
@[simp] theorem raise_talkback (t : Fin 2) : (s.raise c f).talkback t = s.talkback t := rfl
@[simp] theorem raise_station (n : Fin 32) : (s.raise c f).station n = s.station n := rfl
@[simp] theorem raise_preset (p : Fin 16) : (s.raise c f).preset p = s.preset p := rfl
@[simp] theorem raise_monitor (m : Fin 16) : (s.raise c f).monitor m = s.monitor m := rfl
@[simp] theorem raise_receiver (l : Fin 4) : (s.raise c f).receiver l = s.receiver l := rfl
@[simp] theorem raise_output (o : Fin 4) : (s.raise c f).output o = s.output o := rfl
@[simp] theorem raise_entry (el : Element) : (s.raise c f).entry? el = s.entry? el := rfl
@[simp] theorem raise_peak (pt : Point) : (s.raise c f).peak pt = s.peak pt := rfl
@[simp] theorem raise_inReset : (s.raise c f).inReset = s.inReset := rfl

end

/-! ### readFree -/

section

variable (s : State) 

@[simp] theorem readFree_table : (s.readFree).table = s.table := rfl
@[simp] theorem readFree_mixer : (s.readFree).mixer = s.mixer := rfl
@[simp] theorem readFree_fades : (s.readFree).fades = s.fades := rfl
@[simp] theorem readFree_cues : (s.readFree).cues = s.cues := rfl
@[simp] theorem readFree_engine : (s.readFree).engine = s.engine := rfl
@[simp] theorem readFree_foldback : (s.readFree).foldback = s.foldback := rfl
@[simp] theorem readFree_relay : (s.readFree).relay = s.relay := rfl
@[simp] theorem readFree_monitors : (s.readFree).monitors = s.monitors := rfl
@[simp] theorem readFree_links : (s.readFree).links = s.links := rfl
@[simp] theorem readFree_attention : (s.readFree).attention = s.attention := rfl
@[simp] theorem readFree_port : (s.readFree).port = s.port := rfl
@[simp] theorem readFree_resets : (s.readFree).resets = s.resets := rfl
@[simp] theorem readFree_ending : (s.readFree).ending = s.ending := rfl
@[simp] theorem readFree_pending : (s.readFree).pending = s.pending := rfl
@[simp] theorem readFree_channel (c : Fin 64) : (s.readFree).channel c = s.channel c := rfl
@[simp] theorem readFree_role (r : Fin 64) : (s.readFree).role r = s.role r := rfl
@[simp] theorem readFree_group (g : Fin 16) : (s.readFree).group g = s.group g := rfl
@[simp] theorem readFree_slot (k : Fin 8) : (s.readFree).slot k = s.slot k := rfl
@[simp] theorem readFree_mix (i : Fin 12) : (s.readFree).mix i = s.mix i := rfl
@[simp] theorem readFree_talkback (t : Fin 2) : (s.readFree).talkback t = s.talkback t := rfl
@[simp] theorem readFree_station (n : Fin 32) : (s.readFree).station n = s.station n := rfl
@[simp] theorem readFree_preset (p : Fin 16) : (s.readFree).preset p = s.preset p := rfl
@[simp] theorem readFree_monitor (m : Fin 16) : (s.readFree).monitor m = s.monitor m := rfl
@[simp] theorem readFree_receiver (l : Fin 4) : (s.readFree).receiver l = s.receiver l := rfl
@[simp] theorem readFree_output (o : Fin 4) : (s.readFree).output o = s.output o := rfl
@[simp] theorem readFree_entry (el : Element) : (s.readFree).entry? el = s.entry? el := rfl
@[simp] theorem readFree_peak (pt : Point) : (s.readFree).peak pt = s.peak pt := rfl
@[simp] theorem readFree_inReset : (s.readFree).inReset = s.inReset := rfl

end

end Sys2Proof.Machine
end

