-- ==== Sys2Proof/Laws/Fades.lean ====
section
/-! SUPPORT. What the Fade Engine's shared operations leave alone, operation by operation, and what an entry and an
element's value are after them. -/

namespace Sys2Proof.Machine

/-- A fold keeps what each of its steps keeps. -/
theorem foldl_keeps {α β : Type} {f : State → β → State} (g : State → α) (h : ∀ s b, g (f s b) = g s)
    (l : List β) (s : State) : g (l.foldl f s) = g s := by
  induction l generalizing s with
  | nil => rfl
  | cons b l ih => rw [List.foldl_cons, ih, h]

/-! ### gainReport -/

@[simp] theorem gainReport_table (o : FadeOwner) (s : State) : (gainReport o s).table = s.table := by
  cases o <;> rfl
@[simp] theorem gainReport_mixer (o : FadeOwner) (s : State) : (gainReport o s).mixer = s.mixer := by
  cases o <;> rfl
@[simp] theorem gainReport_fades (o : FadeOwner) (s : State) : (gainReport o s).fades = s.fades := by
  cases o <;> rfl
@[simp] theorem gainReport_cues (o : FadeOwner) (s : State) : (gainReport o s).cues = s.cues := by
  cases o <;> rfl
@[simp] theorem gainReport_foldback (o : FadeOwner) (s : State) : (gainReport o s).foldback = s.foldback := by
  cases o <;> rfl
@[simp] theorem gainReport_relay (o : FadeOwner) (s : State) : (gainReport o s).relay = s.relay := by
  cases o <;> rfl
@[simp] theorem gainReport_monitors (o : FadeOwner) (s : State) : (gainReport o s).monitors = s.monitors := by
  cases o <;> rfl
@[simp] theorem gainReport_links (o : FadeOwner) (s : State) : (gainReport o s).links = s.links := by
  cases o <;> rfl
@[simp] theorem gainReport_attention (o : FadeOwner) (s : State) : (gainReport o s).attention = s.attention := by
  cases o <;> rfl
@[simp] theorem gainReport_port (o : FadeOwner) (s : State) : (gainReport o s).port = s.port := by
  cases o <;> rfl
@[simp] theorem gainReport_resets (o : FadeOwner) (s : State) : (gainReport o s).resets = s.resets := by
  cases o <;> rfl
@[simp] theorem gainReport_ending (o : FadeOwner) (s : State) : (gainReport o s).ending = s.ending := by
  cases o <;> rfl
@[simp] theorem gainReport_freeIndex (o : FadeOwner) (s : State) : (gainReport o s).freeIndex = s.freeIndex := by
  cases o <;> rfl
@[simp] theorem gainReport_pending (o : FadeOwner) (s : State) : (gainReport o s).pending = s.pending := by
  cases o <;> rfl
@[simp] theorem gainReport_engine_goInput (o : FadeOwner) (s : State) :
    (gainReport o s).engine.goInput = s.engine.goInput := by
  cases o <;> rfl
@[simp] theorem gainReport_engine_holdInput (o : FadeOwner) (s : State) :
    (gainReport o s).engine.holdInput = s.engine.holdInput := by
  cases o <;> rfl
@[simp] theorem gainReport_engine_callInput (o : FadeOwner) (s : State) :
    (gainReport o s).engine.callInput = s.engine.callInput := by
  cases o <;> rfl
@[simp] theorem gainReport_engine_serial (o : FadeOwner) (s : State) :
    (gainReport o s).engine.serial = s.engine.serial := by
  cases o <;> rfl
@[simp] theorem gainReport_engine_safes (o : FadeOwner) (s : State) :
    (gainReport o s).engine.safes = s.engine.safes := by
  cases o <;> rfl
@[simp] theorem gainReport_engine_timer (o : FadeOwner) (s : State) :
    (gainReport o s).engine.timer = s.engine.timer := by
  cases o <;> rfl
@[simp] theorem gainReport_engine_lastInterval (o : FadeOwner) (s : State) :
    (gainReport o s).engine.lastInterval = s.engine.lastInterval := by
  cases o <;> rfl
@[simp] theorem gainReport_engine_follow (o : FadeOwner) (s : State) :
    (gainReport o s).engine.follow = s.engine.follow := by
  cases o <;> rfl
@[simp] theorem gainReport_engine_hold (o : FadeOwner) (s : State) :
    (gainReport o s).engine.hold = s.engine.hold := by
  cases o <;> rfl
@[simp] theorem gainReport_engine_triggers (o : FadeOwner) (s : State) :
    (gainReport o s).engine.triggers = s.engine.triggers := by
  cases o <;> rfl

/-! ### lossReport -/

@[simp] theorem lossReport_table (o : FadeOwner) (s : State) : (lossReport o s).table = s.table := by
  cases o <;> rfl
@[simp] theorem lossReport_mixer (o : FadeOwner) (s : State) : (lossReport o s).mixer = s.mixer := by
  cases o <;> rfl
@[simp] theorem lossReport_fades (o : FadeOwner) (s : State) : (lossReport o s).fades = s.fades := by
  cases o <;> rfl
@[simp] theorem lossReport_cues (o : FadeOwner) (s : State) : (lossReport o s).cues = s.cues := by
  cases o <;> rfl
@[simp] theorem lossReport_foldback (o : FadeOwner) (s : State) : (lossReport o s).foldback = s.foldback := by
  cases o <;> rfl
@[simp] theorem lossReport_relay (o : FadeOwner) (s : State) : (lossReport o s).relay = s.relay := by
  cases o <;> rfl
@[simp] theorem lossReport_monitors (o : FadeOwner) (s : State) : (lossReport o s).monitors = s.monitors := by
  cases o <;> rfl
@[simp] theorem lossReport_links (o : FadeOwner) (s : State) : (lossReport o s).links = s.links := by
  cases o <;> rfl
@[simp] theorem lossReport_attention (o : FadeOwner) (s : State) : (lossReport o s).attention = s.attention := by
  cases o <;> rfl
@[simp] theorem lossReport_port (o : FadeOwner) (s : State) : (lossReport o s).port = s.port := by
  cases o <;> rfl
@[simp] theorem lossReport_resets (o : FadeOwner) (s : State) : (lossReport o s).resets = s.resets := by
  cases o <;> rfl
@[simp] theorem lossReport_ending (o : FadeOwner) (s : State) : (lossReport o s).ending = s.ending := by
  cases o <;> rfl
@[simp] theorem lossReport_freeIndex (o : FadeOwner) (s : State) : (lossReport o s).freeIndex = s.freeIndex := by
  cases o <;> rfl
@[simp] theorem lossReport_pending (o : FadeOwner) (s : State) : (lossReport o s).pending = s.pending := by
  cases o <;> rfl
@[simp] theorem lossReport_engine_goInput (o : FadeOwner) (s : State) :
    (lossReport o s).engine.goInput = s.engine.goInput := by
  cases o <;> rfl
@[simp] theorem lossReport_engine_holdInput (o : FadeOwner) (s : State) :
    (lossReport o s).engine.holdInput = s.engine.holdInput := by
  cases o <;> rfl
@[simp] theorem lossReport_engine_callInput (o : FadeOwner) (s : State) :
    (lossReport o s).engine.callInput = s.engine.callInput := by
  cases o <;> rfl
@[simp] theorem lossReport_engine_serial (o : FadeOwner) (s : State) :
    (lossReport o s).engine.serial = s.engine.serial := by
  cases o <;> rfl
@[simp] theorem lossReport_engine_safes (o : FadeOwner) (s : State) :
    (lossReport o s).engine.safes = s.engine.safes := by
  cases o <;> rfl
@[simp] theorem lossReport_engine_timer (o : FadeOwner) (s : State) :
    (lossReport o s).engine.timer = s.engine.timer := by
  cases o <;> rfl
@[simp] theorem lossReport_engine_lastInterval (o : FadeOwner) (s : State) :
    (lossReport o s).engine.lastInterval = s.engine.lastInterval := by
  cases o <;> rfl
@[simp] theorem lossReport_engine_follow (o : FadeOwner) (s : State) :
    (lossReport o s).engine.follow = s.engine.follow := by
  cases o <;> rfl
@[simp] theorem lossReport_engine_hold (o : FadeOwner) (s : State) :
    (lossReport o s).engine.hold = s.engine.hold := by
  cases o <;> rfl
@[simp] theorem lossReport_engine_triggers (o : FadeOwner) (s : State) :
    (lossReport o s).engine.triggers = s.engine.triggers := by
  cases o <;> rfl

/-! ### settle -/

@[simp] theorem settle_table (k : Fin 8) (s : State) : (settle k s).table = s.table := by
  unfold settle; dsimp only; split <;> rfl
@[simp] theorem settle_mixer (k : Fin 8) (s : State) : (settle k s).mixer = s.mixer := by
  unfold settle; dsimp only; split <;> rfl
@[simp] theorem settle_fades (k : Fin 8) (s : State) : (settle k s).fades = s.fades := by
  unfold settle; dsimp only; split <;> rfl
@[simp] theorem settle_cues (k : Fin 8) (s : State) : (settle k s).cues = s.cues := by
  unfold settle; dsimp only; split <;> rfl
@[simp] theorem settle_foldback (k : Fin 8) (s : State) : (settle k s).foldback = s.foldback := by
  unfold settle; dsimp only; split <;> rfl
@[simp] theorem settle_relay (k : Fin 8) (s : State) : (settle k s).relay = s.relay := by
  unfold settle; dsimp only; split <;> rfl
@[simp] theorem settle_monitors (k : Fin 8) (s : State) : (settle k s).monitors = s.monitors := by
  unfold settle; dsimp only; split <;> rfl
@[simp] theorem settle_links (k : Fin 8) (s : State) : (settle k s).links = s.links := by
  unfold settle; dsimp only; split <;> rfl
@[simp] theorem settle_port (k : Fin 8) (s : State) : (settle k s).port = s.port := by
  unfold settle; dsimp only; split <;> rfl
@[simp] theorem settle_resets (k : Fin 8) (s : State) : (settle k s).resets = s.resets := by
  unfold settle; dsimp only; split <;> rfl
@[simp] theorem settle_ending (k : Fin 8) (s : State) : (settle k s).ending = s.ending := by
  unfold settle; dsimp only; split <;> rfl
@[simp] theorem settle_freeIndex (k : Fin 8) (s : State) : (settle k s).freeIndex = s.freeIndex := by
  unfold settle; dsimp only; split <;> rfl
@[simp] theorem settle_pending (k : Fin 8) (s : State) : (settle k s).pending = s.pending := by
  unfold settle; dsimp only; split <;> rfl
@[simp] theorem settle_engine_goInput (k : Fin 8) (s : State) :
    (settle k s).engine.goInput = s.engine.goInput := by
  unfold settle; dsimp only; split <;> rfl
@[simp] theorem settle_engine_holdInput (k : Fin 8) (s : State) :
    (settle k s).engine.holdInput = s.engine.holdInput := by
  unfold settle; dsimp only; split <;> rfl
@[simp] theorem settle_engine_callInput (k : Fin 8) (s : State) :
    (settle k s).engine.callInput = s.engine.callInput := by
  unfold settle; dsimp only; split <;> rfl
@[simp] theorem settle_engine_serial (k : Fin 8) (s : State) :
    (settle k s).engine.serial = s.engine.serial := by
  unfold settle; dsimp only; split <;> rfl
@[simp] theorem settle_engine_safes (k : Fin 8) (s : State) :
    (settle k s).engine.safes = s.engine.safes := by
  unfold settle; dsimp only; split <;> rfl
@[simp] theorem settle_engine_timer (k : Fin 8) (s : State) :
    (settle k s).engine.timer = s.engine.timer := by
  unfold settle; dsimp only; split <;> rfl
@[simp] theorem settle_engine_lastInterval (k : Fin 8) (s : State) :
    (settle k s).engine.lastInterval = s.engine.lastInterval := by
  unfold settle; dsimp only; split <;> rfl
@[simp] theorem settle_engine_follow (k : Fin 8) (s : State) :
    (settle k s).engine.follow = s.engine.follow := by
  unfold settle; dsimp only; split <;> rfl
@[simp] theorem settle_engine_hold (k : Fin 8) (s : State) :
    (settle k s).engine.hold = s.engine.hold := by
  unfold settle; dsimp only; split <;> rfl
@[simp] theorem settle_engine_triggers (k : Fin 8) (s : State) :
    (settle k s).engine.triggers = s.engine.triggers := by
  unfold settle; dsimp only; split <;> rfl

/-! ### settleAll -/

@[simp] theorem settleAll_table  (s : State) : (settleAll s).table = s.table := by
  unfold settleAll
  exact foldl_keeps (·.table) (fun s k => settle_table k s) _ _
@[simp] theorem settleAll_mixer  (s : State) : (settleAll s).mixer = s.mixer := by
  unfold settleAll
  exact foldl_keeps (·.mixer) (fun s k => settle_mixer k s) _ _
@[simp] theorem settleAll_fades  (s : State) : (settleAll s).fades = s.fades := by
  unfold settleAll
  exact foldl_keeps (·.fades) (fun s k => settle_fades k s) _ _
@[simp] theorem settleAll_cues  (s : State) : (settleAll s).cues = s.cues := by
  unfold settleAll
  exact foldl_keeps (·.cues) (fun s k => settle_cues k s) _ _
@[simp] theorem settleAll_foldback  (s : State) : (settleAll s).foldback = s.foldback := by
  unfold settleAll
  exact foldl_keeps (·.foldback) (fun s k => settle_foldback k s) _ _
@[simp] theorem settleAll_relay  (s : State) : (settleAll s).relay = s.relay := by
  unfold settleAll
  exact foldl_keeps (·.relay) (fun s k => settle_relay k s) _ _
@[simp] theorem settleAll_monitors  (s : State) : (settleAll s).monitors = s.monitors := by
  unfold settleAll
  exact foldl_keeps (·.monitors) (fun s k => settle_monitors k s) _ _
@[simp] theorem settleAll_links  (s : State) : (settleAll s).links = s.links := by
  unfold settleAll
  exact foldl_keeps (·.links) (fun s k => settle_links k s) _ _
@[simp] theorem settleAll_port  (s : State) : (settleAll s).port = s.port := by
  unfold settleAll
  exact foldl_keeps (·.port) (fun s k => settle_port k s) _ _
@[simp] theorem settleAll_resets  (s : State) : (settleAll s).resets = s.resets := by
  unfold settleAll
  exact foldl_keeps (·.resets) (fun s k => settle_resets k s) _ _
@[simp] theorem settleAll_ending  (s : State) : (settleAll s).ending = s.ending := by
  unfold settleAll
  exact foldl_keeps (·.ending) (fun s k => settle_ending k s) _ _
@[simp] theorem settleAll_freeIndex  (s : State) : (settleAll s).freeIndex = s.freeIndex := by
  unfold settleAll
  exact foldl_keeps (·.freeIndex) (fun s k => settle_freeIndex k s) _ _
@[simp] theorem settleAll_pending  (s : State) : (settleAll s).pending = s.pending := by
  unfold settleAll
  exact foldl_keeps (·.pending) (fun s k => settle_pending k s) _ _
@[simp] theorem settleAll_engine_goInput  (s : State) :
    (settleAll s).engine.goInput = s.engine.goInput := by
  unfold settleAll
  exact foldl_keeps (·.engine.goInput) (fun s k => settle_engine_goInput k s) _ _
@[simp] theorem settleAll_engine_holdInput  (s : State) :
    (settleAll s).engine.holdInput = s.engine.holdInput := by
  unfold settleAll
  exact foldl_keeps (·.engine.holdInput) (fun s k => settle_engine_holdInput k s) _ _
@[simp] theorem settleAll_engine_callInput  (s : State) :
    (settleAll s).engine.callInput = s.engine.callInput := by
  unfold settleAll
  exact foldl_keeps (·.engine.callInput) (fun s k => settle_engine_callInput k s) _ _
@[simp] theorem settleAll_engine_serial  (s : State) :
    (settleAll s).engine.serial = s.engine.serial := by
  unfold settleAll
  exact foldl_keeps (·.engine.serial) (fun s k => settle_engine_serial k s) _ _
@[simp] theorem settleAll_engine_safes  (s : State) :
    (settleAll s).engine.safes = s.engine.safes := by
  unfold settleAll
  exact foldl_keeps (·.engine.safes) (fun s k => settle_engine_safes k s) _ _
@[simp] theorem settleAll_engine_timer  (s : State) :
    (settleAll s).engine.timer = s.engine.timer := by
  unfold settleAll
  exact foldl_keeps (·.engine.timer) (fun s k => settle_engine_timer k s) _ _
@[simp] theorem settleAll_engine_lastInterval  (s : State) :
    (settleAll s).engine.lastInterval = s.engine.lastInterval := by
  unfold settleAll
  exact foldl_keeps (·.engine.lastInterval) (fun s k => settle_engine_lastInterval k s) _ _
@[simp] theorem settleAll_engine_follow  (s : State) :
    (settleAll s).engine.follow = s.engine.follow := by
  unfold settleAll
  exact foldl_keeps (·.engine.follow) (fun s k => settle_engine_follow k s) _ _
@[simp] theorem settleAll_engine_hold  (s : State) :
    (settleAll s).engine.hold = s.engine.hold := by
  unfold settleAll
  exact foldl_keeps (·.engine.hold) (fun s k => settle_engine_hold k s) _ _
@[simp] theorem settleAll_engine_triggers  (s : State) :
    (settleAll s).engine.triggers = s.engine.triggers := by
  unfold settleAll
  exact foldl_keeps (·.engine.triggers) (fun s k => settle_engine_triggers k s) _ _

/-! ### settleOthers -/

@[simp] theorem settleOthers_table (j : Fin 8) (s : State) : (settleOthers j s).table = s.table := by
  unfold settleOthers
  exact foldl_keeps (·.table) (fun s k => settle_table k s) _ _
@[simp] theorem settleOthers_mixer (j : Fin 8) (s : State) : (settleOthers j s).mixer = s.mixer := by
  unfold settleOthers
  exact foldl_keeps (·.mixer) (fun s k => settle_mixer k s) _ _
@[simp] theorem settleOthers_fades (j : Fin 8) (s : State) : (settleOthers j s).fades = s.fades := by
  unfold settleOthers
  exact foldl_keeps (·.fades) (fun s k => settle_fades k s) _ _
@[simp] theorem settleOthers_cues (j : Fin 8) (s : State) : (settleOthers j s).cues = s.cues := by
  unfold settleOthers
  exact foldl_keeps (·.cues) (fun s k => settle_cues k s) _ _
@[simp] theorem settleOthers_foldback (j : Fin 8) (s : State) : (settleOthers j s).foldback = s.foldback := by
  unfold settleOthers
  exact foldl_keeps (·.foldback) (fun s k => settle_foldback k s) _ _
@[simp] theorem settleOthers_relay (j : Fin 8) (s : State) : (settleOthers j s).relay = s.relay := by
  unfold settleOthers
  exact foldl_keeps (·.relay) (fun s k => settle_relay k s) _ _
@[simp] theorem settleOthers_monitors (j : Fin 8) (s : State) : (settleOthers j s).monitors = s.monitors := by
  unfold settleOthers
  exact foldl_keeps (·.monitors) (fun s k => settle_monitors k s) _ _
@[simp] theorem settleOthers_links (j : Fin 8) (s : State) : (settleOthers j s).links = s.links := by
  unfold settleOthers
  exact foldl_keeps (·.links) (fun s k => settle_links k s) _ _
@[simp] theorem settleOthers_port (j : Fin 8) (s : State) : (settleOthers j s).port = s.port := by
  unfold settleOthers
  exact foldl_keeps (·.port) (fun s k => settle_port k s) _ _
@[simp] theorem settleOthers_resets (j : Fin 8) (s : State) : (settleOthers j s).resets = s.resets := by
  unfold settleOthers
  exact foldl_keeps (·.resets) (fun s k => settle_resets k s) _ _
@[simp] theorem settleOthers_ending (j : Fin 8) (s : State) : (settleOthers j s).ending = s.ending := by
  unfold settleOthers
  exact foldl_keeps (·.ending) (fun s k => settle_ending k s) _ _
@[simp] theorem settleOthers_freeIndex (j : Fin 8) (s : State) : (settleOthers j s).freeIndex = s.freeIndex := by
  unfold settleOthers
  exact foldl_keeps (·.freeIndex) (fun s k => settle_freeIndex k s) _ _
@[simp] theorem settleOthers_pending (j : Fin 8) (s : State) : (settleOthers j s).pending = s.pending := by
  unfold settleOthers
  exact foldl_keeps (·.pending) (fun s k => settle_pending k s) _ _
@[simp] theorem settleOthers_engine_goInput (j : Fin 8) (s : State) :
    (settleOthers j s).engine.goInput = s.engine.goInput := by
  unfold settleOthers
  exact foldl_keeps (·.engine.goInput) (fun s k => settle_engine_goInput k s) _ _
@[simp] theorem settleOthers_engine_holdInput (j : Fin 8) (s : State) :
    (settleOthers j s).engine.holdInput = s.engine.holdInput := by
  unfold settleOthers
  exact foldl_keeps (·.engine.holdInput) (fun s k => settle_engine_holdInput k s) _ _
@[simp] theorem settleOthers_engine_callInput (j : Fin 8) (s : State) :
    (settleOthers j s).engine.callInput = s.engine.callInput := by
  unfold settleOthers
  exact foldl_keeps (·.engine.callInput) (fun s k => settle_engine_callInput k s) _ _
@[simp] theorem settleOthers_engine_serial (j : Fin 8) (s : State) :
    (settleOthers j s).engine.serial = s.engine.serial := by
  unfold settleOthers
  exact foldl_keeps (·.engine.serial) (fun s k => settle_engine_serial k s) _ _
@[simp] theorem settleOthers_engine_safes (j : Fin 8) (s : State) :
    (settleOthers j s).engine.safes = s.engine.safes := by
  unfold settleOthers
  exact foldl_keeps (·.engine.safes) (fun s k => settle_engine_safes k s) _ _
@[simp] theorem settleOthers_engine_timer (j : Fin 8) (s : State) :
    (settleOthers j s).engine.timer = s.engine.timer := by
  unfold settleOthers
  exact foldl_keeps (·.engine.timer) (fun s k => settle_engine_timer k s) _ _
@[simp] theorem settleOthers_engine_lastInterval (j : Fin 8) (s : State) :
    (settleOthers j s).engine.lastInterval = s.engine.lastInterval := by
  unfold settleOthers
  exact foldl_keeps (·.engine.lastInterval) (fun s k => settle_engine_lastInterval k s) _ _
@[simp] theorem settleOthers_engine_follow (j : Fin 8) (s : State) :
    (settleOthers j s).engine.follow = s.engine.follow := by
  unfold settleOthers
  exact foldl_keeps (·.engine.follow) (fun s k => settle_engine_follow k s) _ _
@[simp] theorem settleOthers_engine_hold (j : Fin 8) (s : State) :
    (settleOthers j s).engine.hold = s.engine.hold := by
  unfold settleOthers
  exact foldl_keeps (·.engine.hold) (fun s k => settle_engine_hold k s) _ _
@[simp] theorem settleOthers_engine_triggers (j : Fin 8) (s : State) :
    (settleOthers j s).engine.triggers = s.engine.triggers := by
  unfold settleOthers
  exact foldl_keeps (·.engine.triggers) (fun s k => settle_engine_triggers k s) _ _

/-! ### removeEntry -/

@[simp] theorem removeEntry_table (el : Element) (s : State) : (removeEntry el s).table = s.table := by
  unfold removeEntry; split <;> simp
@[simp] theorem removeEntry_mixer (el : Element) (s : State) : (removeEntry el s).mixer = s.mixer := by
  unfold removeEntry; split <;> simp
@[simp] theorem removeEntry_cues (el : Element) (s : State) : (removeEntry el s).cues = s.cues := by
  unfold removeEntry; split <;> simp
@[simp] theorem removeEntry_foldback (el : Element) (s : State) : (removeEntry el s).foldback = s.foldback := by
  unfold removeEntry; split <;> simp
@[simp] theorem removeEntry_relay (el : Element) (s : State) : (removeEntry el s).relay = s.relay := by
  unfold removeEntry; split <;> simp
@[simp] theorem removeEntry_monitors (el : Element) (s : State) : (removeEntry el s).monitors = s.monitors := by
  unfold removeEntry; split <;> simp
@[simp] theorem removeEntry_links (el : Element) (s : State) : (removeEntry el s).links = s.links := by
  unfold removeEntry; split <;> simp
@[simp] theorem removeEntry_attention (el : Element) (s : State) : (removeEntry el s).attention = s.attention := by
  unfold removeEntry; split <;> simp
@[simp] theorem removeEntry_port (el : Element) (s : State) : (removeEntry el s).port = s.port := by
  unfold removeEntry; split <;> simp
@[simp] theorem removeEntry_resets (el : Element) (s : State) : (removeEntry el s).resets = s.resets := by
  unfold removeEntry; split <;> simp
@[simp] theorem removeEntry_ending (el : Element) (s : State) : (removeEntry el s).ending = s.ending := by
  unfold removeEntry; split <;> simp
@[simp] theorem removeEntry_freeIndex (el : Element) (s : State) : (removeEntry el s).freeIndex = s.freeIndex := by
  unfold removeEntry; split <;> simp
@[simp] theorem removeEntry_pending (el : Element) (s : State) : (removeEntry el s).pending = s.pending := by
  unfold removeEntry; split <;> simp
@[simp] theorem removeEntry_engine_goInput (el : Element) (s : State) :
    (removeEntry el s).engine.goInput = s.engine.goInput := by
  unfold removeEntry; split <;> simp
@[simp] theorem removeEntry_engine_holdInput (el : Element) (s : State) :
    (removeEntry el s).engine.holdInput = s.engine.holdInput := by
  unfold removeEntry; split <;> simp
@[simp] theorem removeEntry_engine_callInput (el : Element) (s : State) :
    (removeEntry el s).engine.callInput = s.engine.callInput := by
  unfold removeEntry; split <;> simp
@[simp] theorem removeEntry_engine_serial (el : Element) (s : State) :
    (removeEntry el s).engine.serial = s.engine.serial := by
  unfold removeEntry; split <;> simp
@[simp] theorem removeEntry_engine_safes (el : Element) (s : State) :
    (removeEntry el s).engine.safes = s.engine.safes := by
  unfold removeEntry; split <;> simp
@[simp] theorem removeEntry_engine_timer (el : Element) (s : State) :
    (removeEntry el s).engine.timer = s.engine.timer := by
  unfold removeEntry; split <;> simp
@[simp] theorem removeEntry_engine_lastInterval (el : Element) (s : State) :
    (removeEntry el s).engine.lastInterval = s.engine.lastInterval := by
  unfold removeEntry; split <;> simp
@[simp] theorem removeEntry_engine_follow (el : Element) (s : State) :
    (removeEntry el s).engine.follow = s.engine.follow := by
  unfold removeEntry; split <;> simp
@[simp] theorem removeEntry_engine_hold (el : Element) (s : State) :
    (removeEntry el s).engine.hold = s.engine.hold := by
  unfold removeEntry; split <;> simp
@[simp] theorem removeEntry_engine_triggers (el : Element) (s : State) :
    (removeEntry el s).engine.triggers = s.engine.triggers := by
  unfold removeEntry; split <;> simp

/-! ### write -/

@[simp] theorem write_mixer (el : Element) (z : Int) (s : State) : (s.write el z).mixer = s.mixer := by
  cases el <;> rfl
@[simp] theorem write_fades (el : Element) (z : Int) (s : State) : (s.write el z).fades = s.fades := by
  cases el <;> rfl
@[simp] theorem write_cues (el : Element) (z : Int) (s : State) : (s.write el z).cues = s.cues := by
  cases el <;> rfl
@[simp] theorem write_engine (el : Element) (z : Int) (s : State) : (s.write el z).engine = s.engine := by
  cases el <;> rfl
@[simp] theorem write_monitors (el : Element) (z : Int) (s : State) : (s.write el z).monitors = s.monitors := by
  cases el <;> rfl
@[simp] theorem write_attention (el : Element) (z : Int) (s : State) : (s.write el z).attention = s.attention := by
  cases el <;> rfl
@[simp] theorem write_port (el : Element) (z : Int) (s : State) : (s.write el z).port = s.port := by
  cases el <;> rfl
@[simp] theorem write_resets (el : Element) (z : Int) (s : State) : (s.write el z).resets = s.resets := by
  cases el <;> rfl
@[simp] theorem write_ending (el : Element) (z : Int) (s : State) : (s.write el z).ending = s.ending := by
  cases el <;> rfl
@[simp] theorem write_freeIndex (el : Element) (z : Int) (s : State) : (s.write el z).freeIndex = s.freeIndex := by
  cases el <;> rfl
@[simp] theorem write_pending (el : Element) (z : Int) (s : State) : (s.write el z).pending = s.pending := by
  cases el <;> rfl
@[simp] theorem write_channels (el : Element) (z : Int) (s : State) :
    (s.write el z).table.channels = s.table.channels := by
  cases el <;> rfl
@[simp] theorem write_talkbacks (el : Element) (z : Int) (s : State) :
    (s.write el z).foldback.talkbacks = s.foldback.talkbacks := by
  cases el <;> rfl
@[simp] theorem write_clock (el : Element) (z : Int) (s : State) :
    (s.write el z).links.clock = s.links.clock := by
  cases el <;> rfl
@[simp] theorem write_outputs (el : Element) (z : Int) (s : State) :
    (s.write el z).links.outputs = s.links.outputs := by
  cases el <;> rfl
@[simp] theorem write_relay_backup (el : Element) (z : Int) (s : State) :
    (s.write el z).relay.backup = s.relay.backup := by
  cases el <;> rfl
@[simp] theorem write_relay_backupLevel (el : Element) (z : Int) (s : State) :
    (s.write el z).relay.backupLevel = s.relay.backupLevel := by
  cases el <;> rfl
@[simp] theorem write_relay_selection (el : Element) (z : Int) (s : State) :
    (s.write el z).relay.selection = s.relay.selection := by
  cases el <;> rfl
@[simp] theorem write_relay_presets (el : Element) (z : Int) (s : State) :
    (s.write el z).relay.presets = s.relay.presets := by
  cases el <;> rfl
@[simp] theorem write_relay_arrivals (el : Element) (z : Int) (s : State) :
    (s.write el z).relay.arrivals = s.relay.arrivals := by
  cases el <;> rfl
@[simp] theorem write_relay_active (el : Element) (z : Int) (s : State) :
    (s.write el z).relay.active = s.relay.active := by
  cases el <;> rfl
@[simp] theorem write_relay_queue (el : Element) (z : Int) (s : State) :
    (s.write el z).relay.queue = s.relay.queue := by
  cases el <;> rfl

/-! ### directWrite -/

@[simp] theorem directWrite_mixer (el : Element) (z : Int) (s : State) : (directWrite el z s).mixer = s.mixer := by
  simp [directWrite]
@[simp] theorem directWrite_cues (el : Element) (z : Int) (s : State) : (directWrite el z s).cues = s.cues := by
  simp [directWrite]
@[simp] theorem directWrite_monitors (el : Element) (z : Int) (s : State) : (directWrite el z s).monitors = s.monitors := by
  simp [directWrite]
@[simp] theorem directWrite_attention (el : Element) (z : Int) (s : State) : (directWrite el z s).attention = s.attention := by
  simp [directWrite]
@[simp] theorem directWrite_port (el : Element) (z : Int) (s : State) : (directWrite el z s).port = s.port := by
  simp [directWrite]
@[simp] theorem directWrite_resets (el : Element) (z : Int) (s : State) : (directWrite el z s).resets = s.resets := by
  simp [directWrite]
@[simp] theorem directWrite_ending (el : Element) (z : Int) (s : State) : (directWrite el z s).ending = s.ending := by
  simp [directWrite]
@[simp] theorem directWrite_freeIndex (el : Element) (z : Int) (s : State) : (directWrite el z s).freeIndex = s.freeIndex := by
  simp [directWrite]
@[simp] theorem directWrite_pending (el : Element) (z : Int) (s : State) : (directWrite el z s).pending = s.pending := by
  simp [directWrite]
@[simp] theorem directWrite_engine_goInput (el : Element) (z : Int) (s : State) :
    (directWrite el z s).engine.goInput = s.engine.goInput := by
  simp [directWrite]
@[simp] theorem directWrite_engine_holdInput (el : Element) (z : Int) (s : State) :
    (directWrite el z s).engine.holdInput = s.engine.holdInput := by
  simp [directWrite]
@[simp] theorem directWrite_engine_callInput (el : Element) (z : Int) (s : State) :
    (directWrite el z s).engine.callInput = s.engine.callInput := by
  simp [directWrite]
@[simp] theorem directWrite_engine_serial (el : Element) (z : Int) (s : State) :
    (directWrite el z s).engine.serial = s.engine.serial := by
  simp [directWrite]
@[simp] theorem directWrite_engine_safes (el : Element) (z : Int) (s : State) :
    (directWrite el z s).engine.safes = s.engine.safes := by
  simp [directWrite]
@[simp] theorem directWrite_engine_timer (el : Element) (z : Int) (s : State) :
    (directWrite el z s).engine.timer = s.engine.timer := by
  simp [directWrite]
@[simp] theorem directWrite_engine_lastInterval (el : Element) (z : Int) (s : State) :
    (directWrite el z s).engine.lastInterval = s.engine.lastInterval := by
  simp [directWrite]
@[simp] theorem directWrite_engine_follow (el : Element) (z : Int) (s : State) :
    (directWrite el z s).engine.follow = s.engine.follow := by
  simp [directWrite]
@[simp] theorem directWrite_engine_hold (el : Element) (z : Int) (s : State) :
    (directWrite el z s).engine.hold = s.engine.hold := by
  simp [directWrite]
@[simp] theorem directWrite_engine_triggers (el : Element) (z : Int) (s : State) :
    (directWrite el z s).engine.triggers = s.engine.triggers := by
  simp [directWrite]
@[simp] theorem directWrite_channels (el : Element) (z : Int) (s : State) :
    (directWrite el z s).table.channels = s.table.channels := by
  simp [directWrite]
@[simp] theorem directWrite_talkbacks (el : Element) (z : Int) (s : State) :
    (directWrite el z s).foldback.talkbacks = s.foldback.talkbacks := by
  simp [directWrite]
@[simp] theorem directWrite_clock (el : Element) (z : Int) (s : State) :
    (directWrite el z s).links.clock = s.links.clock := by
  simp [directWrite]
@[simp] theorem directWrite_outputs (el : Element) (z : Int) (s : State) :
    (directWrite el z s).links.outputs = s.links.outputs := by
  simp [directWrite]
@[simp] theorem directWrite_relay_backup (el : Element) (z : Int) (s : State) :
    (directWrite el z s).relay.backup = s.relay.backup := by
  simp [directWrite]
@[simp] theorem directWrite_relay_backupLevel (el : Element) (z : Int) (s : State) :
    (directWrite el z s).relay.backupLevel = s.relay.backupLevel := by
  simp [directWrite]
@[simp] theorem directWrite_relay_selection (el : Element) (z : Int) (s : State) :
    (directWrite el z s).relay.selection = s.relay.selection := by
  simp [directWrite]
@[simp] theorem directWrite_relay_presets (el : Element) (z : Int) (s : State) :
    (directWrite el z s).relay.presets = s.relay.presets := by
  simp [directWrite]
@[simp] theorem directWrite_relay_arrivals (el : Element) (z : Int) (s : State) :
    (directWrite el z s).relay.arrivals = s.relay.arrivals := by
  simp [directWrite]
@[simp] theorem directWrite_relay_active (el : Element) (z : Int) (s : State) :
    (directWrite el z s).relay.active = s.relay.active := by
  simp [directWrite]
@[simp] theorem directWrite_relay_queue (el : Element) (z : Int) (s : State) :
    (directWrite el z s).relay.queue = s.relay.queue := by
  simp [directWrite]

/-! ### raiseFadeSnap -/

@[simp] theorem raiseFadeSnap_table (n : Nat) (s : State) : (raiseFadeSnap n s).table = s.table := by
  rfl
@[simp] theorem raiseFadeSnap_mixer (n : Nat) (s : State) : (raiseFadeSnap n s).mixer = s.mixer := by
  rfl
@[simp] theorem raiseFadeSnap_fades (n : Nat) (s : State) : (raiseFadeSnap n s).fades = s.fades := by
  rfl
@[simp] theorem raiseFadeSnap_cues (n : Nat) (s : State) : (raiseFadeSnap n s).cues = s.cues := by
  rfl
@[simp] theorem raiseFadeSnap_engine (n : Nat) (s : State) : (raiseFadeSnap n s).engine = s.engine := by
  rfl
@[simp] theorem raiseFadeSnap_foldback (n : Nat) (s : State) : (raiseFadeSnap n s).foldback = s.foldback := by
  rfl
@[simp] theorem raiseFadeSnap_relay (n : Nat) (s : State) : (raiseFadeSnap n s).relay = s.relay := by
  rfl
@[simp] theorem raiseFadeSnap_monitors (n : Nat) (s : State) : (raiseFadeSnap n s).monitors = s.monitors := by
  rfl
@[simp] theorem raiseFadeSnap_links (n : Nat) (s : State) : (raiseFadeSnap n s).links = s.links := by
  rfl
@[simp] theorem raiseFadeSnap_port (n : Nat) (s : State) : (raiseFadeSnap n s).port = s.port := by
  rfl
@[simp] theorem raiseFadeSnap_resets (n : Nat) (s : State) : (raiseFadeSnap n s).resets = s.resets := by
  rfl
@[simp] theorem raiseFadeSnap_ending (n : Nat) (s : State) : (raiseFadeSnap n s).ending = s.ending := by
  rfl
@[simp] theorem raiseFadeSnap_freeIndex (n : Nat) (s : State) : (raiseFadeSnap n s).freeIndex = s.freeIndex := by
  rfl
@[simp] theorem raiseFadeSnap_pending (n : Nat) (s : State) : (raiseFadeSnap n s).pending = s.pending := by
  rfl

/-! ### snapTo -/

@[simp] theorem snapTo_mixer (el : Element) (z : Int) (s : State) : (snapTo el z s).mixer = s.mixer := by
  simp [snapTo]
@[simp] theorem snapTo_cues (el : Element) (z : Int) (s : State) : (snapTo el z s).cues = s.cues := by
  simp [snapTo]
@[simp] theorem snapTo_monitors (el : Element) (z : Int) (s : State) : (snapTo el z s).monitors = s.monitors := by
  simp [snapTo]
@[simp] theorem snapTo_port (el : Element) (z : Int) (s : State) : (snapTo el z s).port = s.port := by
  simp [snapTo]
@[simp] theorem snapTo_resets (el : Element) (z : Int) (s : State) : (snapTo el z s).resets = s.resets := by
  simp [snapTo]
@[simp] theorem snapTo_ending (el : Element) (z : Int) (s : State) : (snapTo el z s).ending = s.ending := by
  simp [snapTo]
@[simp] theorem snapTo_freeIndex (el : Element) (z : Int) (s : State) : (snapTo el z s).freeIndex = s.freeIndex := by
  simp [snapTo]
@[simp] theorem snapTo_pending (el : Element) (z : Int) (s : State) : (snapTo el z s).pending = s.pending := by
  simp [snapTo]
@[simp] theorem snapTo_engine_goInput (el : Element) (z : Int) (s : State) :
    (snapTo el z s).engine.goInput = s.engine.goInput := by
  simp [snapTo]
@[simp] theorem snapTo_engine_holdInput (el : Element) (z : Int) (s : State) :
    (snapTo el z s).engine.holdInput = s.engine.holdInput := by
  simp [snapTo]
@[simp] theorem snapTo_engine_callInput (el : Element) (z : Int) (s : State) :
    (snapTo el z s).engine.callInput = s.engine.callInput := by
  simp [snapTo]
@[simp] theorem snapTo_engine_serial (el : Element) (z : Int) (s : State) :
    (snapTo el z s).engine.serial = s.engine.serial := by
  simp [snapTo]
@[simp] theorem snapTo_engine_safes (el : Element) (z : Int) (s : State) :
    (snapTo el z s).engine.safes = s.engine.safes := by
  simp [snapTo]
@[simp] theorem snapTo_engine_timer (el : Element) (z : Int) (s : State) :
    (snapTo el z s).engine.timer = s.engine.timer := by
  simp [snapTo]
@[simp] theorem snapTo_engine_lastInterval (el : Element) (z : Int) (s : State) :
    (snapTo el z s).engine.lastInterval = s.engine.lastInterval := by
  simp [snapTo]
@[simp] theorem snapTo_engine_follow (el : Element) (z : Int) (s : State) :
    (snapTo el z s).engine.follow = s.engine.follow := by
  simp [snapTo]
@[simp] theorem snapTo_engine_hold (el : Element) (z : Int) (s : State) :
    (snapTo el z s).engine.hold = s.engine.hold := by
  simp [snapTo]
@[simp] theorem snapTo_engine_triggers (el : Element) (z : Int) (s : State) :
    (snapTo el z s).engine.triggers = s.engine.triggers := by
  simp [snapTo]
@[simp] theorem snapTo_channels (el : Element) (z : Int) (s : State) :
    (snapTo el z s).table.channels = s.table.channels := by
  simp [snapTo]
@[simp] theorem snapTo_talkbacks (el : Element) (z : Int) (s : State) :
    (snapTo el z s).foldback.talkbacks = s.foldback.talkbacks := by
  simp [snapTo]
@[simp] theorem snapTo_clock (el : Element) (z : Int) (s : State) :
    (snapTo el z s).links.clock = s.links.clock := by
  simp [snapTo]
@[simp] theorem snapTo_outputs (el : Element) (z : Int) (s : State) :
    (snapTo el z s).links.outputs = s.links.outputs := by
  simp [snapTo]
@[simp] theorem snapTo_relay_backup (el : Element) (z : Int) (s : State) :
    (snapTo el z s).relay.backup = s.relay.backup := by
  simp [snapTo]
@[simp] theorem snapTo_relay_backupLevel (el : Element) (z : Int) (s : State) :
    (snapTo el z s).relay.backupLevel = s.relay.backupLevel := by
  simp [snapTo]
@[simp] theorem snapTo_relay_selection (el : Element) (z : Int) (s : State) :
    (snapTo el z s).relay.selection = s.relay.selection := by
  simp [snapTo]
@[simp] theorem snapTo_relay_presets (el : Element) (z : Int) (s : State) :
    (snapTo el z s).relay.presets = s.relay.presets := by
  simp [snapTo]
@[simp] theorem snapTo_relay_arrivals (el : Element) (z : Int) (s : State) :
    (snapTo el z s).relay.arrivals = s.relay.arrivals := by
  simp [snapTo]
@[simp] theorem snapTo_relay_active (el : Element) (z : Int) (s : State) :
    (snapTo el z s).relay.active = s.relay.active := by
  simp [snapTo]
@[simp] theorem snapTo_relay_queue (el : Element) (z : Int) (s : State) :
    (snapTo el z s).relay.queue = s.relay.queue := by
  simp [snapTo]

/-! ### noteFresh -/

@[simp] theorem noteFresh_table (el : Element) (s : State) : (noteFresh el s).table = s.table := by
  unfold noteFresh; split <;> rfl
@[simp] theorem noteFresh_mixer (el : Element) (s : State) : (noteFresh el s).mixer = s.mixer := by
  unfold noteFresh; split <;> rfl
@[simp] theorem noteFresh_fades (el : Element) (s : State) : (noteFresh el s).fades = s.fades := by
  unfold noteFresh; split <;> rfl
@[simp] theorem noteFresh_cues (el : Element) (s : State) : (noteFresh el s).cues = s.cues := by
  unfold noteFresh; split <;> rfl
@[simp] theorem noteFresh_engine (el : Element) (s : State) : (noteFresh el s).engine = s.engine := by
  unfold noteFresh; split <;> rfl
@[simp] theorem noteFresh_foldback (el : Element) (s : State) : (noteFresh el s).foldback = s.foldback := by
  unfold noteFresh; split <;> rfl
@[simp] theorem noteFresh_relay (el : Element) (s : State) : (noteFresh el s).relay = s.relay := by
  unfold noteFresh; split <;> rfl
@[simp] theorem noteFresh_monitors (el : Element) (s : State) : (noteFresh el s).monitors = s.monitors := by
  unfold noteFresh; split <;> rfl
@[simp] theorem noteFresh_links (el : Element) (s : State) : (noteFresh el s).links = s.links := by
  unfold noteFresh; split <;> rfl
@[simp] theorem noteFresh_attention (el : Element) (s : State) : (noteFresh el s).attention = s.attention := by
  unfold noteFresh; split <;> rfl
@[simp] theorem noteFresh_port (el : Element) (s : State) : (noteFresh el s).port = s.port := by
  unfold noteFresh; split <;> rfl
@[simp] theorem noteFresh_resets (el : Element) (s : State) : (noteFresh el s).resets = s.resets := by
  unfold noteFresh; split <;> rfl
@[simp] theorem noteFresh_freeIndex (el : Element) (s : State) : (noteFresh el s).freeIndex = s.freeIndex := by
  unfold noteFresh; split <;> rfl
@[simp] theorem noteFresh_pending (el : Element) (s : State) : (noteFresh el s).pending = s.pending := by
  unfold noteFresh; split <;> rfl

/-- What is noted while the end of an interval is being taken (R47). -/
theorem noteFresh_ending (el : Element) (s : State) :
    (noteFresh el s).ending =
      if s.ending.due then { s.ending with fresh := el :: s.ending.fresh } else s.ending := by
  unfold noteFresh; split <;> rfl

/-! ### newEntry -/

@[simp] theorem newEntry_table (e : FadeEntry) (s : State) : (newEntry e s).table = s.table := by
  simp [newEntry]
@[simp] theorem newEntry_mixer (e : FadeEntry) (s : State) : (newEntry e s).mixer = s.mixer := by
  simp [newEntry]
@[simp] theorem newEntry_cues (e : FadeEntry) (s : State) : (newEntry e s).cues = s.cues := by
  simp [newEntry]
@[simp] theorem newEntry_foldback (e : FadeEntry) (s : State) : (newEntry e s).foldback = s.foldback := by
  simp [newEntry]
@[simp] theorem newEntry_relay (e : FadeEntry) (s : State) : (newEntry e s).relay = s.relay := by
  simp [newEntry]
@[simp] theorem newEntry_monitors (e : FadeEntry) (s : State) : (newEntry e s).monitors = s.monitors := by
  simp [newEntry]
@[simp] theorem newEntry_links (e : FadeEntry) (s : State) : (newEntry e s).links = s.links := by
  simp [newEntry]
@[simp] theorem newEntry_attention (e : FadeEntry) (s : State) : (newEntry e s).attention = s.attention := by
  simp [newEntry]
@[simp] theorem newEntry_port (e : FadeEntry) (s : State) : (newEntry e s).port = s.port := by
  simp [newEntry]
@[simp] theorem newEntry_resets (e : FadeEntry) (s : State) : (newEntry e s).resets = s.resets := by
  simp [newEntry]
@[simp] theorem newEntry_freeIndex (e : FadeEntry) (s : State) : (newEntry e s).freeIndex = s.freeIndex := by
  simp [newEntry]
@[simp] theorem newEntry_pending (e : FadeEntry) (s : State) : (newEntry e s).pending = s.pending := by
  simp [newEntry]
@[simp] theorem newEntry_engine_goInput (e : FadeEntry) (s : State) :
    (newEntry e s).engine.goInput = s.engine.goInput := by
  simp [newEntry]
@[simp] theorem newEntry_engine_holdInput (e : FadeEntry) (s : State) :
    (newEntry e s).engine.holdInput = s.engine.holdInput := by
  simp [newEntry]
@[simp] theorem newEntry_engine_callInput (e : FadeEntry) (s : State) :
    (newEntry e s).engine.callInput = s.engine.callInput := by
  simp [newEntry]
@[simp] theorem newEntry_engine_serial (e : FadeEntry) (s : State) :
    (newEntry e s).engine.serial = s.engine.serial := by
  simp [newEntry]
@[simp] theorem newEntry_engine_safes (e : FadeEntry) (s : State) :
    (newEntry e s).engine.safes = s.engine.safes := by
  simp [newEntry]
@[simp] theorem newEntry_engine_timer (e : FadeEntry) (s : State) :
    (newEntry e s).engine.timer = s.engine.timer := by
  simp [newEntry]
@[simp] theorem newEntry_engine_lastInterval (e : FadeEntry) (s : State) :
    (newEntry e s).engine.lastInterval = s.engine.lastInterval := by
  simp [newEntry]
@[simp] theorem newEntry_engine_follow (e : FadeEntry) (s : State) :
    (newEntry e s).engine.follow = s.engine.follow := by
  simp [newEntry]
@[simp] theorem newEntry_engine_hold (e : FadeEntry) (s : State) :
    (newEntry e s).engine.hold = s.engine.hold := by
  simp [newEntry]
@[simp] theorem newEntry_engine_triggers (e : FadeEntry) (s : State) :
    (newEntry e s).engine.triggers = s.engine.triggers := by
  simp [newEntry]

/-- A new entry is noted while an end is being taken (R47). -/
theorem newEntry_ending (e : FadeEntry) (s : State) :
    (newEntry e s).ending =
      if s.ending.due then { s.ending with fresh := e.element :: s.ending.fresh } else s.ending := by
  simp [newEntry, noteFresh_ending]

/-! ### replaceEntry -/

@[simp] theorem replaceEntry_table (old e : FadeEntry) (s : State) : (replaceEntry old e s).table = s.table := by
  simp [replaceEntry]
@[simp] theorem replaceEntry_mixer (old e : FadeEntry) (s : State) : (replaceEntry old e s).mixer = s.mixer := by
  simp [replaceEntry]
@[simp] theorem replaceEntry_cues (old e : FadeEntry) (s : State) : (replaceEntry old e s).cues = s.cues := by
  simp [replaceEntry]
@[simp] theorem replaceEntry_foldback (old e : FadeEntry) (s : State) : (replaceEntry old e s).foldback = s.foldback := by
  simp [replaceEntry]
@[simp] theorem replaceEntry_relay (old e : FadeEntry) (s : State) : (replaceEntry old e s).relay = s.relay := by
  simp [replaceEntry]
@[simp] theorem replaceEntry_monitors (old e : FadeEntry) (s : State) : (replaceEntry old e s).monitors = s.monitors := by
  simp [replaceEntry]
@[simp] theorem replaceEntry_links (old e : FadeEntry) (s : State) : (replaceEntry old e s).links = s.links := by
  simp [replaceEntry]
@[simp] theorem replaceEntry_attention (old e : FadeEntry) (s : State) : (replaceEntry old e s).attention = s.attention := by
  simp [replaceEntry]
@[simp] theorem replaceEntry_port (old e : FadeEntry) (s : State) : (replaceEntry old e s).port = s.port := by
  simp [replaceEntry]
@[simp] theorem replaceEntry_resets (old e : FadeEntry) (s : State) : (replaceEntry old e s).resets = s.resets := by
  simp [replaceEntry]
@[simp] theorem replaceEntry_freeIndex (old e : FadeEntry) (s : State) : (replaceEntry old e s).freeIndex = s.freeIndex := by
  simp [replaceEntry]
@[simp] theorem replaceEntry_pending (old e : FadeEntry) (s : State) : (replaceEntry old e s).pending = s.pending := by
  simp [replaceEntry]
@[simp] theorem replaceEntry_engine_goInput (old e : FadeEntry) (s : State) :
    (replaceEntry old e s).engine.goInput = s.engine.goInput := by
  simp [replaceEntry]
@[simp] theorem replaceEntry_engine_holdInput (old e : FadeEntry) (s : State) :
    (replaceEntry old e s).engine.holdInput = s.engine.holdInput := by
  simp [replaceEntry]
@[simp] theorem replaceEntry_engine_callInput (old e : FadeEntry) (s : State) :
    (replaceEntry old e s).engine.callInput = s.engine.callInput := by
  simp [replaceEntry]
@[simp] theorem replaceEntry_engine_serial (old e : FadeEntry) (s : State) :
    (replaceEntry old e s).engine.serial = s.engine.serial := by
  simp [replaceEntry]
@[simp] theorem replaceEntry_engine_safes (old e : FadeEntry) (s : State) :
    (replaceEntry old e s).engine.safes = s.engine.safes := by
  simp [replaceEntry]
@[simp] theorem replaceEntry_engine_timer (old e : FadeEntry) (s : State) :
    (replaceEntry old e s).engine.timer = s.engine.timer := by
  simp [replaceEntry]
@[simp] theorem replaceEntry_engine_lastInterval (old e : FadeEntry) (s : State) :
    (replaceEntry old e s).engine.lastInterval = s.engine.lastInterval := by
  simp [replaceEntry]
@[simp] theorem replaceEntry_engine_follow (old e : FadeEntry) (s : State) :
    (replaceEntry old e s).engine.follow = s.engine.follow := by
  simp [replaceEntry]
@[simp] theorem replaceEntry_engine_hold (old e : FadeEntry) (s : State) :
    (replaceEntry old e s).engine.hold = s.engine.hold := by
  simp [replaceEntry]
@[simp] theorem replaceEntry_engine_triggers (old e : FadeEntry) (s : State) :
    (replaceEntry old e s).engine.triggers = s.engine.triggers := by
  simp [replaceEntry]

/-- An entry rewritten is noted while an end is being taken (R47). -/
theorem replaceEntry_ending (old e : FadeEntry) (s : State) :
    (replaceEntry old e s).ending =
      if s.ending.due then { s.ending with fresh := e.element :: s.ending.fresh } else s.ending := by
  simp [replaceEntry, noteFresh_ending]

/-- Everything a fade request can do (R45): nothing when the element does not exist, a direct write, an entry
rewritten in place, a new entry, or a snap. -/
theorem fadeRequest_cases (el : Element) (z : Int) (d : Nat) (o : FadeOwner) (s : State) :
    (fadeRequest el z d o s).2 = s ∨ (fadeRequest el z d o s).2 = directWrite el (elemClamp el z) s ∨
    (∃ old e, (fadeRequest el z d o s).2 = replaceEntry old e s) ∨
    (∃ e, (fadeRequest el z d o s).2 = newEntry e s) ∨
    (fadeRequest el z d o s).2 = snapTo el (elemClamp el z) s := by
  unfold fadeRequest
  dsimp only
  split
  · exact .inl rfl
  · split
    · exact .inr (.inl rfl)
    · split
      · exact .inr (.inr (.inl ⟨_, _, rfl⟩))
      · split
        · exact .inr (.inr (.inr (.inl ⟨_, rfl⟩)))
        · exact .inr (.inr (.inr (.inr rfl)))

/-! ### fadeRequest -/

@[simp] theorem fadeRequest_mixer (el : Element) (z : Int) (d : Nat) (o : FadeOwner) (s : State) : ((fadeRequest el z d o s).2).mixer = s.mixer := by
  rcases fadeRequest_cases el z d o s with h | h | ⟨e, e', h⟩ | ⟨e, h⟩ | h <;> rw [h] <;> simp
@[simp] theorem fadeRequest_cues (el : Element) (z : Int) (d : Nat) (o : FadeOwner) (s : State) : ((fadeRequest el z d o s).2).cues = s.cues := by
  rcases fadeRequest_cases el z d o s with h | h | ⟨e, e', h⟩ | ⟨e, h⟩ | h <;> rw [h] <;> simp
@[simp] theorem fadeRequest_monitors (el : Element) (z : Int) (d : Nat) (o : FadeOwner) (s : State) : ((fadeRequest el z d o s).2).monitors = s.monitors := by
  rcases fadeRequest_cases el z d o s with h | h | ⟨e, e', h⟩ | ⟨e, h⟩ | h <;> rw [h] <;> simp
@[simp] theorem fadeRequest_port (el : Element) (z : Int) (d : Nat) (o : FadeOwner) (s : State) : ((fadeRequest el z d o s).2).port = s.port := by
  rcases fadeRequest_cases el z d o s with h | h | ⟨e, e', h⟩ | ⟨e, h⟩ | h <;> rw [h] <;> simp
@[simp] theorem fadeRequest_resets (el : Element) (z : Int) (d : Nat) (o : FadeOwner) (s : State) : ((fadeRequest el z d o s).2).resets = s.resets := by
  rcases fadeRequest_cases el z d o s with h | h | ⟨e, e', h⟩ | ⟨e, h⟩ | h <;> rw [h] <;> simp
@[simp] theorem fadeRequest_freeIndex (el : Element) (z : Int) (d : Nat) (o : FadeOwner) (s : State) : ((fadeRequest el z d o s).2).freeIndex = s.freeIndex := by
  rcases fadeRequest_cases el z d o s with h | h | ⟨e, e', h⟩ | ⟨e, h⟩ | h <;> rw [h] <;> simp
@[simp] theorem fadeRequest_pending (el : Element) (z : Int) (d : Nat) (o : FadeOwner) (s : State) : ((fadeRequest el z d o s).2).pending = s.pending := by
  rcases fadeRequest_cases el z d o s with h | h | ⟨e, e', h⟩ | ⟨e, h⟩ | h <;> rw [h] <;> simp
@[simp] theorem fadeRequest_engine_goInput (el : Element) (z : Int) (d : Nat) (o : FadeOwner) (s : State) :
    ((fadeRequest el z d o s).2).engine.goInput = s.engine.goInput := by
  rcases fadeRequest_cases el z d o s with h | h | ⟨e, e', h⟩ | ⟨e, h⟩ | h <;> rw [h] <;> simp
@[simp] theorem fadeRequest_engine_holdInput (el : Element) (z : Int) (d : Nat) (o : FadeOwner) (s : State) :
    ((fadeRequest el z d o s).2).engine.holdInput = s.engine.holdInput := by
  rcases fadeRequest_cases el z d o s with h | h | ⟨e, e', h⟩ | ⟨e, h⟩ | h <;> rw [h] <;> simp
@[simp] theorem fadeRequest_engine_callInput (el : Element) (z : Int) (d : Nat) (o : FadeOwner) (s : State) :
    ((fadeRequest el z d o s).2).engine.callInput = s.engine.callInput := by
  rcases fadeRequest_cases el z d o s with h | h | ⟨e, e', h⟩ | ⟨e, h⟩ | h <;> rw [h] <;> simp
@[simp] theorem fadeRequest_engine_serial (el : Element) (z : Int) (d : Nat) (o : FadeOwner) (s : State) :
    ((fadeRequest el z d o s).2).engine.serial = s.engine.serial := by
  rcases fadeRequest_cases el z d o s with h | h | ⟨e, e', h⟩ | ⟨e, h⟩ | h <;> rw [h] <;> simp
@[simp] theorem fadeRequest_engine_safes (el : Element) (z : Int) (d : Nat) (o : FadeOwner) (s : State) :
    ((fadeRequest el z d o s).2).engine.safes = s.engine.safes := by
  rcases fadeRequest_cases el z d o s with h | h | ⟨e, e', h⟩ | ⟨e, h⟩ | h <;> rw [h] <;> simp
@[simp] theorem fadeRequest_engine_timer (el : Element) (z : Int) (d : Nat) (o : FadeOwner) (s : State) :
    ((fadeRequest el z d o s).2).engine.timer = s.engine.timer := by
  rcases fadeRequest_cases el z d o s with h | h | ⟨e, e', h⟩ | ⟨e, h⟩ | h <;> rw [h] <;> simp
@[simp] theorem fadeRequest_engine_lastInterval (el : Element) (z : Int) (d : Nat) (o : FadeOwner) (s : State) :
    ((fadeRequest el z d o s).2).engine.lastInterval = s.engine.lastInterval := by
  rcases fadeRequest_cases el z d o s with h | h | ⟨e, e', h⟩ | ⟨e, h⟩ | h <;> rw [h] <;> simp
@[simp] theorem fadeRequest_engine_follow (el : Element) (z : Int) (d : Nat) (o : FadeOwner) (s : State) :
    ((fadeRequest el z d o s).2).engine.follow = s.engine.follow := by
  rcases fadeRequest_cases el z d o s with h | h | ⟨e, e', h⟩ | ⟨e, h⟩ | h <;> rw [h] <;> simp
@[simp] theorem fadeRequest_engine_hold (el : Element) (z : Int) (d : Nat) (o : FadeOwner) (s : State) :
    ((fadeRequest el z d o s).2).engine.hold = s.engine.hold := by
  rcases fadeRequest_cases el z d o s with h | h | ⟨e, e', h⟩ | ⟨e, h⟩ | h <;> rw [h] <;> simp
@[simp] theorem fadeRequest_engine_triggers (el : Element) (z : Int) (d : Nat) (o : FadeOwner) (s : State) :
    ((fadeRequest el z d o s).2).engine.triggers = s.engine.triggers := by
  rcases fadeRequest_cases el z d o s with h | h | ⟨e, e', h⟩ | ⟨e, h⟩ | h <;> rw [h] <;> simp
@[simp] theorem fadeRequest_channels (el : Element) (z : Int) (d : Nat) (o : FadeOwner) (s : State) :
    ((fadeRequest el z d o s).2).table.channels = s.table.channels := by
  rcases fadeRequest_cases el z d o s with h | h | ⟨e, e', h⟩ | ⟨e, h⟩ | h <;> rw [h] <;> simp
@[simp] theorem fadeRequest_talkbacks (el : Element) (z : Int) (d : Nat) (o : FadeOwner) (s : State) :
    ((fadeRequest el z d o s).2).foldback.talkbacks = s.foldback.talkbacks := by
  rcases fadeRequest_cases el z d o s with h | h | ⟨e, e', h⟩ | ⟨e, h⟩ | h <;> rw [h] <;> simp
@[simp] theorem fadeRequest_clock (el : Element) (z : Int) (d : Nat) (o : FadeOwner) (s : State) :
    ((fadeRequest el z d o s).2).links.clock = s.links.clock := by
  rcases fadeRequest_cases el z d o s with h | h | ⟨e, e', h⟩ | ⟨e, h⟩ | h <;> rw [h] <;> simp
@[simp] theorem fadeRequest_outputs (el : Element) (z : Int) (d : Nat) (o : FadeOwner) (s : State) :
    ((fadeRequest el z d o s).2).links.outputs = s.links.outputs := by
  rcases fadeRequest_cases el z d o s with h | h | ⟨e, e', h⟩ | ⟨e, h⟩ | h <;> rw [h] <;> simp
@[simp] theorem fadeRequest_relay_backup (el : Element) (z : Int) (d : Nat) (o : FadeOwner) (s : State) :
    ((fadeRequest el z d o s).2).relay.backup = s.relay.backup := by
  rcases fadeRequest_cases el z d o s with h | h | ⟨e, e', h⟩ | ⟨e, h⟩ | h <;> rw [h] <;> simp
@[simp] theorem fadeRequest_relay_backupLevel (el : Element) (z : Int) (d : Nat) (o : FadeOwner) (s : State) :
    ((fadeRequest el z d o s).2).relay.backupLevel = s.relay.backupLevel := by
  rcases fadeRequest_cases el z d o s with h | h | ⟨e, e', h⟩ | ⟨e, h⟩ | h <;> rw [h] <;> simp
@[simp] theorem fadeRequest_relay_selection (el : Element) (z : Int) (d : Nat) (o : FadeOwner) (s : State) :
    ((fadeRequest el z d o s).2).relay.selection = s.relay.selection := by
  rcases fadeRequest_cases el z d o s with h | h | ⟨e, e', h⟩ | ⟨e, h⟩ | h <;> rw [h] <;> simp
@[simp] theorem fadeRequest_relay_presets (el : Element) (z : Int) (d : Nat) (o : FadeOwner) (s : State) :
    ((fadeRequest el z d o s).2).relay.presets = s.relay.presets := by
  rcases fadeRequest_cases el z d o s with h | h | ⟨e, e', h⟩ | ⟨e, h⟩ | h <;> rw [h] <;> simp
@[simp] theorem fadeRequest_relay_arrivals (el : Element) (z : Int) (d : Nat) (o : FadeOwner) (s : State) :
    ((fadeRequest el z d o s).2).relay.arrivals = s.relay.arrivals := by
  rcases fadeRequest_cases el z d o s with h | h | ⟨e, e', h⟩ | ⟨e, h⟩ | h <;> rw [h] <;> simp
@[simp] theorem fadeRequest_relay_active (el : Element) (z : Int) (d : Nat) (o : FadeOwner) (s : State) :
    ((fadeRequest el z d o s).2).relay.active = s.relay.active := by
  rcases fadeRequest_cases el z d o s with h | h | ⟨e, e', h⟩ | ⟨e, h⟩ | h <;> rw [h] <;> simp
@[simp] theorem fadeRequest_relay_queue (el : Element) (z : Int) (d : Nat) (o : FadeOwner) (s : State) :
    ((fadeRequest el z d o s).2).relay.queue = s.relay.queue := by
  rcases fadeRequest_cases el z d o s with h | h | ⟨e, e', h⟩ | ⟨e, h⟩ | h <;> rw [h] <;> simp

/-- Outside the taking of an end a fade request notes nothing. -/
theorem fadeRequest_ending (el : Element) (z : Int) (d : Nat) (o : FadeOwner) (s : State) (h : s.ending.due = false) :
    ((fadeRequest el z d o s).2).ending = s.ending := by
  rcases fadeRequest_cases el z d o s with h1 | h1 | ⟨e, e', h1⟩ | ⟨e, h1⟩ | h1 <;> rw [h1] <;>
    simp [newEntry_ending, replaceEntry_ending, h]

end Sys2Proof.Machine
end

