-- ==== Sys2Proof/Laws/Cues.lean ====
section
/-! SUPPORT. What the shared operations of the Cue Engine and of calls can do, said once each. -/

namespace Sys2Proof.Machine

/-- The test for completion frees a finished slot and raises CUE_DONE, and else changes nothing (R90). -/
theorem settle_cases (k : Fin 8) (s : State) :
    (finished (s.slot k) = false ∧ settle k s = s) ∨
      (finished (s.slot k) = true ∧
        settle k s = raiseCueDone ((s.slot k).cue.getD 0) (s.slot k).skipped (s.modSlot k (fun _ => {}))) := by
  unfold settle
  cases h : finished (s.slot k) <;> simp [h]

/-- A removal takes the entry and reports its loss to its owner, and where there is none changes nothing (R49). -/
theorem removeEntry_cases (el : Element) (s : State) :
    (s.entry? el = none ∧ removeEntry el s = s) ∨
      ∃ e, s.entry? el = some e ∧
        removeEntry el s = lossReport e.owner { s with fades := s.fades.filter (fun x => x.element ≠ el) } := by
  unfold removeEntry
  cases h : s.entry? el with
  | none => exact .inl ⟨rfl, rfl⟩
  | some e => exact .inr ⟨e, rfl, rfl⟩

/-- An action is skipped silently, or acts (R86). -/
theorem execAction_cases (k : Fin 8) (forced : Bool) (a : Action) (s : State) :
    (flagSet s.engine.safes (safeFlag a.body) = true ∧ execAction k forced a s = s) ∨
      (flagSet s.engine.safes (safeFlag a.body) = false ∧ execAction k forced a s = actOn k forced a.body s) := by
  unfold execAction
  cases h : flagSet s.engine.safes (safeFlag a.body) <;> simp

/-- A GO is turned away under HOLD or at END, or fires the standby cue (R80). -/
theorem goEvent_cases (src : GoSource) (s : State) :
    (s.engine.hold = true ∧ goEvent src s = .error .held) ∨
      (s.engine.hold = false ∧ standbyCue s = none ∧ goEvent src s = .error .ended) ∨
      ∃ cue, s.engine.hold = false ∧ standbyCue s = some cue ∧ goEvent src s = .ok (fireGo src cue s) := by
  unfold goEvent
  cases h : s.engine.hold
  · cases h2 : standbyCue s with
    | none => exact .inr (.inl ⟨rfl, rfl, rfl⟩)
    | some cue => exact .inr (.inr ⟨cue, rfl, rfl, rfl⟩)
  · exact .inl ⟨rfl, rfl⟩

/-- What a call request answers and leaves (R123 to R125). -/
theorem callRequest_cases (p : Fin 16) (o : Origin) (s : State) :
    ((s.preset p).source = none ∧ callRequest p o s = (.presetEmpty, s)) ∨
      ((s.preset p).source.isSome ∧ callLives p s = true ∧ callRequest p o s = (.inUse, s)) ∨
      ((s.preset p).source.isSome ∧ callLives p s = false ∧
        ∃ reply t, callRequest p o s = (reply, t) ∧ reply ≠ .presetEmpty ∧ reply ≠ .inUse ∧ (reply = .full → t = s)) := by
  unfold callRequest
  cases h : (s.preset p).source with
  | none => simp
  | some c =>
    simp only [Option.isNone_some, Bool.false_eq_true, if_false, Option.isSome_some, reduceCtorEq, false_and,
      true_and, false_or]
    cases h2 : callLives p s
    · refine .inr ⟨rfl, ?_⟩
      simp only [Bool.false_eq_true, if_false]
      repeat' split
      all_goals exact ⟨_, _, rfl, by simp, by simp, by simp⟩
    · exact .inl ⟨rfl, by simp⟩

/-- The call that is picked is the first of the list with stations to hold, and those before it end NO_TARGET (R127). -/
theorem pickCall_some {s : State} {l q : List Call} {a : ActiveCall} {gone : List (Fin 16)}
    (h : pickCall s l = (some a, q, gone)) :
    ∃ ahead, l = ahead ++ a.call :: q ∧ gone = ahead.map (fun c => c.preset) ∧
      (∀ c ∈ ahead, resolve c.preset s = 0#32) ∧ a.stations = resolve a.call.preset s ∧ a.stations ≠ 0#32 ∧
      a.activeTime = 0 ∧ a.silenceTime = 0 := by
  induction l generalizing a q gone with
  | nil => cases h
  | cons c rest ih =>
    simp only [pickCall] at h
    split at h
    · rename_i hz
      match hp : pickCall s rest with
      | (none, q', g') => rw [hp] at h; cases h
      | (some a', q', g') =>
        rw [hp] at h
        cases h
        obtain ⟨ahead, rfl, rfl, h1, h2⟩ := ih hp
        refine ⟨c :: ahead, rfl, rfl, ?_, h2⟩
        intro d hd
        rcases List.mem_cons.1 hd with rfl | hd
        · exact hz
        · exact h1 d hd
    · rename_i hz
      cases h
      exact ⟨[], rfl, rfl, by simp, rfl, hz, rfl, rfl⟩

/-- The place of a new pending call: behind every call of its own or higher priority (R126). -/
theorem enqueue_eq (c : Call) (q : List Call) :
    enqueue c q = q.takeWhile (fun d => decide (rank c.priority ≤ rank d.priority)) ++
      c :: q.dropWhile (fun d => decide (rank c.priority ≤ rank d.priority)) := by
  induction q with
  | nil => rfl
  | cons d rest ih =>
    simp only [enqueue]
    split
    · rename_i h
      simp [h, ih]
    · rename_i h
      simp [h]

/-- One station's part of a handover (R128). -/
theorem handoverStation_cases (o n : BitVec 32) (depth : Int) (s : State) (st : Fin 32) :
    (inSet n st = true ∧ handoverStation o n depth s st =
      (fadeRequest (.duck st) depth 100 .system (s.modStation st (fun x => { x with inCall := true }))).2) ∨
      (inSet n st = false ∧ inSet o st = true ∧ handoverStation o n depth s st =
        (fadeRequest (.duck st) 0 250 .system (s.modStation st (fun x => { x with inCall := false }))).2) ∨
      (inSet n st = false ∧ inSet o st = false ∧ handoverStation o n depth s st = s) := by
  unfold handoverStation
  cases inSet n st <;> cases inSet o st <;> simp

end Sys2Proof.Machine
end

