-- ==== Sys2Proof/Laws/Elements.lean ====
section
/-! SUPPORT. What the value of an element and the entry on it are after each shared operation of the Fade Engine. -/

namespace Sys2Proof.Machine

/-! ## The value of an element -/

/-- An element's value is read from its owner's record alone. -/
theorem value_congr {s t : State} (h1 : s.table = t.table) (h2 : s.foldback = t.foldback) (h3 : s.relay = t.relay)
    (h4 : s.links = t.links) (el : Element) : s.value? el = t.value? el := by
  cases el <;> simp only [State.value?, State.group, State.role, State.mix, State.station, State.receiver, h1, h2, h3, h4]

@[simp] theorem value_gainReport (o : FadeOwner) (s : State) (el : Element) :
    (gainReport o s).value? el = s.value? el := value_congr (by simp) (by simp) (by simp) (by simp) el

@[simp] theorem value_lossReport (o : FadeOwner) (s : State) (el : Element) :
    (lossReport o s).value? el = s.value? el := value_congr (by simp) (by simp) (by simp) (by simp) el

@[simp] theorem value_settle (k : Fin 8) (s : State) (el : Element) :
    (settle k s).value? el = s.value? el := value_congr (by simp) (by simp) (by simp) (by simp) el

@[simp] theorem value_settleAll (s : State) (el : Element) :
    (settleAll s).value? el = s.value? el := value_congr (by simp) (by simp) (by simp) (by simp) el

@[simp] theorem value_settleOthers (k : Fin 8) (s : State) (el : Element) :
    (settleOthers k s).value? el = s.value? el := value_congr (by simp) (by simp) (by simp) (by simp) el

@[simp] theorem value_removeEntry (x : Element) (s : State) (el : Element) :
    (removeEntry x s).value? el = s.value? el := value_congr (by simp) (by simp) (by simp) (by simp) el

@[simp] theorem value_newEntry (e : FadeEntry) (s : State) (el : Element) :
    (newEntry e s).value? el = s.value? el := value_congr (by simp) (by simp) (by simp) (by simp) el

@[simp] theorem value_replaceEntry (old e : FadeEntry) (s : State) (el : Element) :
    (replaceEntry old e s).value? el = s.value? el := value_congr (by simp) (by simp) (by simp) (by simp) el

@[simp] theorem value_raiseFadeSnap (n : Nat) (s : State) (el : Element) :
    (raiseFadeSnap n s).value? el = s.value? el := rfl

/-- The level an entry list gives a source, when the level of source `x` is rewritten. -/
theorem find_rewritten {α β : Type} [DecidableEq β] (src : α → β) (lev : α → Int) (upd : α → α) (x y : β) (v : Int)
    (hs : ∀ a, src (upd a) = src a) (hl : ∀ a, lev (upd a) = v) (l : List α) :
    ((l.map (fun a => if src a = x then upd a else a)).find? (fun a => decide (src a = y))).map lev =
      if y = x then ((l.find? (fun a => decide (src a = x))).map lev).map (fun _ => v)
      else (l.find? (fun a => decide (src a = y))).map lev := by
  induction l with
  | nil => simp
  | cons a l ih =>
    by_cases hax : src a = x
    · by_cases hyx : y = x
      · subst hyx; simp [hax, hs, hl]
      · have : ¬ x = y := fun h => hyx h.symm
        simp [hax, hs, this, hyx] at ih ⊢
        exact ih
    · by_cases hyx : y = x
      · subst hyx; simp [hax] at ih ⊢; exact ih
      · by_cases hay : src a = y
        · simp [hay, hyx]
        · simp [hax, hay, hyx] at ih ⊢; exact ih

/-- A write gives the element its clamped value, if it exists, and no other element (R5, R40). -/
theorem value_write (el : Element) (z : Int) (s : State) (x : Element) :
    (s.write el z).value? x =
      if x = el then (s.value? el).map (fun _ => elemClamp el z) else s.value? x := by
  cases el with
  | send f src =>
    cases x with
    | send g src' =>
      simp only [State.write, State.value?, modMix_mix]
      by_cases hfg : f = g
      · subst hfg
        simp only [if_true]
        rw [find_rewritten (fun e : MixEntry => e.source) (fun e => e.level)
          (fun e => { e with level := elemClamp (.send f src) z }) src src' (elemClamp (.send f src) z) (fun _ => rfl) (fun _ => rfl)]
        by_cases h : src' = src <;> simp [h]
      · simp [hfg, Ne.symm hfg]
    | master g =>
      simp only [State.write, State.value?, modMix_mix]
      by_cases hfg : f = g <;> simp [hfg]
    | tbDuck g =>
      simp only [State.write, State.value?, modMix_mix]
      by_cases hfg : f = g <;> simp [hfg]
    | _ => simp [State.write, State.value?]
  | relaySend src =>
    cases x with
    | relaySend src' =>
      simp only [State.write, State.value?, modRelay_relay]
      rw [find_rewritten (fun e : RelayEntry => e.source) (fun e => e.level)
        (fun e => { e with level := elemClamp (.relaySend src) z }) src src' (elemClamp (.relaySend src) z) (fun _ => rfl) (fun _ => rfl)]
      by_cases h : src' = src <;> simp [h]
    | _ => simp [State.write, State.value?, State.station]
  | group g => cases x <;> simp [State.write, State.value?, eq_comm]; split <;> simp_all
  | role g => cases x <;> simp [State.write, State.value?, eq_comm] <;> split <;> simp_all
  | master g => cases x <;> simp [State.write, State.value?, eq_comm] <;> split <;> simp_all
  | station g => cases x <;> simp [State.write, State.value?, eq_comm] <;> split <;> simp_all
  | duck g => cases x <;> simp [State.write, State.value?, eq_comm] <;> split <;> simp_all
  | tbDuck g => cases x <;> simp [State.write, State.value?, eq_comm] <;> split <;> simp_all
  | xout g => cases x <;> simp [State.write, State.value?, eq_comm] <;> split <;> simp_all
  | xin g => cases x <;> simp [State.write, State.value?, eq_comm] <;> split <;> simp_all
  | link g => cases x <;> simp [State.write, State.value?, eq_comm]; split <;> simp_all

/-- A direct write does the same, whatever entry stood on the element (R48). -/
theorem value_directWrite (el : Element) (z : Int) (s : State) (x : Element) :
    (directWrite el z s).value? x =
      if x = el then (s.value? el).map (fun _ => elemClamp el z) else s.value? x := by
  simp [directWrite, value_write]

/-! ## The entry on an element -/

/-- Entries are found in the table alone. -/
theorem entry_congr {s t : State} (h : s.fades = t.fades) (el : Element) : s.entry? el = t.entry? el := by
  simp only [State.entry?, h]

@[simp] theorem entry_gainReport (o : FadeOwner) (s : State) (el : Element) :
    (gainReport o s).entry? el = s.entry? el := entry_congr (by simp) el

@[simp] theorem entry_lossReport (o : FadeOwner) (s : State) (el : Element) :
    (lossReport o s).entry? el = s.entry? el := entry_congr (by simp) el

@[simp] theorem entry_noteFresh (x : Element) (s : State) (el : Element) :
    (noteFresh x s).entry? el = s.entry? el := entry_congr (by simp) el

@[simp] theorem entry_settle (k : Fin 8) (s : State) (el : Element) :
    (settle k s).entry? el = s.entry? el := entry_congr (by simp) el

@[simp] theorem entry_settleAll (s : State) (el : Element) :
    (settleAll s).entry? el = s.entry? el := entry_congr (by simp) el

@[simp] theorem entry_settleOthers (k : Fin 8) (s : State) (el : Element) :
    (settleOthers k s).entry? el = s.entry? el := entry_congr (by simp) el

@[simp] theorem entry_write (x : Element) (z : Int) (s : State) (el : Element) :
    (s.write x z).entry? el = s.entry? el := entry_congr (by simp) el

@[simp] theorem entry_raiseFadeSnap (n : Nat) (s : State) (el : Element) :
    (raiseFadeSnap n s).entry? el = s.entry? el := rfl

/-- The entry on an element is the one found by its address. -/
theorem entry_element {s : State} {el : Element} {e : FadeEntry} (h : s.entry? el = some e) : e.element = el := by
  simpa using List.find?_some h

/-- The first of a list that addresses `x`, when those that address `el` are taken out. -/
theorem find_filtered (el x : Element) (l : List FadeEntry) :
    (l.filter (fun e => decide (e.element ≠ el))).find? (fun e => decide (e.element = x)) =
      if x = el then none else l.find? (fun e => decide (e.element = x)) := by
  by_cases h : x = el
  · subst h; simp [List.find?_eq_none]
  · rw [if_neg h, List.find?_filter]
    congr 1
    funext e
    by_cases h2 : e.element = x
    · simp [h2, h]
    · simp [h2]

/-- A removal takes the entry on its element away and no other (R49). -/
theorem entry_removeEntry (el : Element) (s : State) (x : Element) :
    (removeEntry el s).entry? x = if x = el then none else s.entry? x := by
  unfold removeEntry
  split
  · rename_i h
    by_cases hx : x = el
    · subst hx; simp [h]
    · simp [hx]
  · rw [entry_lossReport]
    exact find_filtered el x s.fades

/-- A direct write leaves no entry on its element, and every other entry (R48). -/
theorem entry_directWrite (el : Element) (z : Int) (s : State) (x : Element) :
    (directWrite el z s).entry? x = if x = el then none else s.entry? x := by
  simp [directWrite, entry_removeEntry]

/-- A new entry is the one on its element, where there was none, and no other changes (R46). -/
theorem entry_newEntry (e : FadeEntry) (s : State) (h : s.entry? e.element = none) (x : Element) :
    (newEntry e s).entry? x = if x = e.element then some e else s.entry? x := by
  unfold newEntry
  rw [entry_noteFresh, entry_gainReport]
  simp only [State.entry?, List.find?_append]
  by_cases hx : x = e.element
  · subst hx
    simp only [State.entry?] at h
    simp [h]
  · simp [hx, Ne.symm hx]

/-- The entry a list gives an element, when the entries on `e`'s element are rewritten to `e`. -/
theorem find_replaced (e : FadeEntry) (x : Element) (l : List FadeEntry) :
    (l.map (fun a => if a.element = e.element then e else a)).find? (fun a => decide (a.element = x)) =
      if x = e.element then (l.find? (fun a => decide (a.element = x))).map (fun _ => e)
      else l.find? (fun a => decide (a.element = x)) := by
  induction l with
  | nil => simp
  | cons a l ih =>
    by_cases hx : x = e.element
    · subst hx
      by_cases ha : a.element = e.element
      · simp [ha]
      · simp [ha] at ih ⊢
        exact ih
    · by_cases ha : a.element = e.element
      · have h2 : ¬ e.element = x := fun h => hx h.symm
        simp [ha, h2, hx] at ih ⊢
        exact ih
      · by_cases hax : a.element = x
        · simp [hax, hx]
        · simp [ha, hax, hx] at ih ⊢
          exact ih

/-- An entry rewritten in place is the one on its element, and no other changes (R47). -/
theorem entry_replaceEntry (old e : FadeEntry) (s : State) (h : (s.entry? e.element).isSome) (x : Element) :
    (replaceEntry old e s).entry? x = if x = e.element then some e else s.entry? x := by
  unfold replaceEntry
  rw [entry_noteFresh, entry_lossReport, entry_gainReport]
  refine (find_replaced e x s.fades).trans ?_
  by_cases hx : x = e.element
  · subst hx
    obtain ⟨a, ha⟩ := Option.isSome_iff_exists.mp h
    simp only [State.entry?] at ha
    simp [ha]
  · simp [hx, State.entry?]

end Sys2Proof.Machine
end

