-- ==== Sys2Proof/Laws/Requests.lean ====
section
/-! SUPPORT. What the shared operations of requests and events answer: the control port's gate, the index and set checks,
and the gate of events. -/

namespace Sys2Proof.Machine

/-! ## Numbers and sets -/

theorem idx_num {n : Nat} (i : Fin n) : idx n (num i) = some i := by
  unfold idx num
  simp [show i.val + 1 ≤ n from i.isLt]

theorem optIdx_num {n : Nat} (i : Fin n) : optIdx n (num i) = some (some i) := by
  unfold optIdx
  rw [idx_num]
  simp [num]

@[simp] theorem index_num {n : Nat} (i : Fin n) : index n (num i) = .ok i := by
  unfold index
  rw [idx_num]
  rfl

@[simp] theorem indexOpt_num {n : Nat} (i : Fin n) : indexOpt n (num i) = .ok (some i) := by
  unfold indexOpt
  rw [optIdx_num]
  rfl

@[simp] theorem indexOpt_zero {n : Nat} : indexOpt n 0 = .ok none := rfl

@[simp] theorem maskOf_toNat {n : Nat} (m : BitVec n) : maskOf n m.toNat = .ok m := by
  unfold maskOf
  simp [m.isLt, need]

/-- What the range check of an index lets through (R163, R164). -/
theorem index_ok {n k : Nat} {i : Fin n} : index n k = .ok i ↔ k = num i := by
  constructor
  · intro h
    unfold index idx at h
    split at h
    · simp only [need, Except.ok.injEq] at h
      subst h
      simp only [num]
      omega
    · cases h
  · rintro rfl
    exact index_num i

/-- A set is refused exactly when a bit beyond its count stands in it (R164). -/
theorem maskOf_ok {n k : Nat} {m : BitVec n} : maskOf n k = .ok m ↔ k = m.toNat := by
  constructor
  · intro h
    unfold maskOf at h
    split at h
    · simp only [need, Except.ok.injEq] at h
      subst h
      simp only [BitVec.toNat_ofNat]
      exact (Nat.mod_eq_of_lt ‹_›).symm
    · cases h
  · rintro rfl
    exact maskOf_toNat m

@[simp] theorem require_ok {b : Bool} {st : Status} : require b st = .ok () ↔ b = true := by
  cases b <;> simp [require]

/-! ## The gates -/

/-- An end of which no part is taken stays as it is. -/
@[simp] theorem wholeEnd_of {s : State} (h : s.ending.begun = false) : wholeEnd s = s := by
  simp [wholeEnd, h]

/-- An end that has begun is taken whole, and every other state stands (R172). -/
theorem wholeEnd_cases (s : State) :
    (s.ending.begun = false ∧ wholeEnd s = s) ∨
      (s.ending.begun = true ∧ wholeEnd s = intervalEnd none none none s) := by
  unfold wholeEnd
  cases s.ending.begun <;> simp

/-- Nothing is left of an end that is taken whole. -/
@[simp] theorem intervalEnd_ending (g h c : Option Line) (s : State) : (intervalEnd g h c s).ending = {} := rfl

@[simp] theorem wholeEnd_begun (s : State) : (wholeEnd s).ending.begun = false := by
  rcases wholeEnd_cases s with ⟨h, e⟩ | ⟨_, e⟩
  · rw [e, h]
  · rw [e, intervalEnd_ending]

/-- What has met an end whole meets it no second time. -/
@[simp] theorem wholeEnd_idem (s : State) : wholeEnd (wholeEnd s) = wholeEnd s := wholeEnd_of (wholeEnd_begun s)

/-- The control port answers a request it accepts (R161). -/
theorem request_ok {code : Nat} {me : Instr} {body : State → Answer} {s : State} (h : accepts s) :
    request code me body s = respond code s (body s) := by
  obtain ⟨h1, h2, h3⟩ := h
  unfold request
  rw [h1, wholeEnd_of h3]
  simp only [Bool.false_eq_true, if_false]
  split
  · rename_i h3
    rw [h3] at h2
    simp [isExecuting] at h2
  · rfl
  · rfl

/-- A request that is being executed is answered as it is where no response stands (R161). -/
theorem request_executing {code k : Nat} {me : Instr} {body : State → Answer} {s : State}
    (hr : s.inReset = false) (h : s.port.response = .executing k me) :
    request code me body s = request code me body (usedUp s) := by
  have hu : (usedUp s).inReset = false := hr
  simp only [request, hr, hu, h, Bool.false_eq_true, if_false, if_true]
  rfl

/-- All a request's command can do: it is answered on the state that has any end that has begun whole, the response used up where
it is being executed, or it changes nothing, in a reset procedure or while another request is executing (R161, R162, R170,
R172). -/
theorem request_cases (code : Nat) (me : Instr) (body : State → Answer) (s : State) :
    request code me body s = respond code (wholeEnd s) (body (wholeEnd s)) ∨
      ((∃ k, s.port.response = .executing k me) ∧
        request code me body s = respond code (wholeEnd (usedUp s)) (body (wholeEnd (usedUp s)))) ∨
      (request code me body s = s ∧
        (s.inReset = true ∨ ∃ k other, s.port.response = .executing k other ∧ other ≠ me)) := by
  unfold request
  split
  · exact .inr (.inr ⟨rfl, .inl ‹_›⟩)
  · split
    · rename_i k other h
      by_cases e : other = me
      · subst e
        exact .inr (.inl ⟨⟨k, h⟩, by simp only [if_true]⟩)
      · simp only [e, if_false]
        exact .inr (.inr ⟨trivial, .inr ⟨k, other, h, e⟩⟩)
    · exact .inl rfl
    · exact .inl rfl

/-- What an answer makes of the state: a refusal leaves all but the response (R163). -/
theorem respond_cases (code : Nat) (s : State) (a : Answer) :
    (∃ st, a = .error st ∧ respond code s a = refusedWith st code s) ∨
      ∃ fields t, a = .ok (fields, t) ∧ respond code s a = answered code fields t := by
  cases a with
  | error st => exact .inl ⟨st, rfl, rfl⟩
  | ok x => exact .inr ⟨x.1, x.2, rfl, rfl⟩

/-- All the gate of events can do (R170). -/
theorem outsideReset_cases (f : State → State) (s : State) :
    (s.inReset = true ∧ outsideReset f s = .next s) ∨ (s.inReset = false ∧ outsideReset f s = .next (f s)) := by
  unfold outsideReset
  cases s.inReset <;> simp

theorem outsideReset_ok {f : State → State} {s : State} (h : s.inReset = false) : outsideReset f s = .next (f s) := by
  simp [outsideReset, h]

/-- An event that finds no end begun acts on the state as it stands. -/
theorem event_ok {f : State → State} {s : State} (h : s.inReset = false) (hb : s.ending.begun = false) :
    event f s = .next (f s) := by
  simp [event, outsideReset_ok h, hb]

/-- A part of an end that is due acts. -/
theorem endPart_ok {f : State → State} {s : State} (h : s.inReset = false) (hd : s.ending.due = true)
    (hp : paused s = false) : endPart f s = .next (f s) := by
  simp [endPart, outsideReset_ok h, inEnd, endOpen, hd, hp]

/-- What is left of an end when no command has taken a part of it. -/
@[simp] theorem finishOpen_of {s : State} (h : s.ending.block = none) : finishOpen s = s := by
  simp [finishOpen, h]

/-- The block that has begun its part takes the rest of it, and where none has nothing changes (R82, R133). -/
theorem finishOpen_cases (s : State) :
    (s.ending.block = none ∧ finishOpen s = s) ∨
      ∃ b, s.ending.block = some b ∧
        finishOpen s = (finishBlock b (takePeaks s)).modEnding (fun x => { x with block := none }) := by
  unfold finishOpen
  cases h : s.ending.block with
  | none => exact .inl ⟨rfl, rfl⟩
  | some b => exact .inr ⟨b, rfl, rfl⟩

/-- No block's part is half taken. -/
@[simp] theorem finishOpen_block (s : State) : (finishOpen s).ending.block = none := by
  rcases finishOpen_cases s with ⟨h, e⟩ | ⟨b, _, e⟩ <;> rw [e]
  · exact h
  · rfl

/-- A part of a block finds every other block's part whole, or not begun. -/
theorem meetBlock_cases (b : EndBlock) (s : State) :
    (s.ending.block = some b ∧ meetBlock b s = s) ∨ (s.ending.block ≠ some b ∧ meetBlock b s = finishOpen s) := by
  unfold meetBlock
  by_cases h : s.ending.block = some b <;> simp [h]

@[simp] theorem meetBlock_of {b : EndBlock} {s : State} (h : s.ending.block = none ∨ s.ending.block = some b) :
    meetBlock b s = s := by
  rcases h with h | h <;> simp [meetBlock, h]

theorem blockPart_ok {b : EndBlock} {f : State → State} {s : State} (h : takesParts b s) :
    blockPart b f s = .next (f s) := by
  obtain ⟨h1, h2, h3, h4⟩ := h
  simp [blockPart, endPart_ok h1 h2 h3, meetBlock_of h4]

theorem lineEdge_ok {l : Sampled} {f : State → State} {s : State} (h : takesEdges s) : lineEdge l f s = .next (f s) := by
  obtain ⟨h1, h2, h3⟩ := h
  simp [lineEdge, outsideReset_ok h1, h2, h3]

/-- An edge of an end that is due is the sample of its line there, or comes after the end (R82). -/
theorem edgeInEnd_cases (l : Sampled) (f : State → State) (s : State) :
    (sampleRank l ≤ sampleRank (meetBlock .cue s).ending.sampled ∧
      edgeInEnd l f s = f (intervalEnd none none none (meetBlock .cue s))) ∨
    (sampleRank (meetBlock .cue s).ending.sampled < sampleRank l ∧
      edgeInEnd l f s = (f (linesBefore l (cueCounts (beginBlock .cue (meetBlock .cue s))))).modEnding
        (fun x => { x with sampled := l })) := by
  by_cases h : sampleRank l ≤ sampleRank (meetBlock .cue s).ending.sampled
  · exact .inl ⟨h, by simp [edgeInEnd, h]⟩
  · exact .inr ⟨by omega, by simp [edgeInEnd, h]⟩

end Sys2Proof.Machine
end

