-- ==== Sys2Proof/Tests/Slice0.lean ====
section
/-! SUPPORT. Tests: ill-formed commands that the checks refuse, frames and small steps worked by hand from the spec, and for
each statement with hypotheses a state and operands that meet them. -/

namespace Sys2Proof.Tests

open Sys2Proof.Machine

set_option Elab.async false

/-! ## Small states -/

/-- The state a command leaves, for tests of one step. -/
def after (c : Instr) (s : State) : State :=
  match exec c s with
  | .next t => t
  | .fault _ => s
  | .refused _ => s

/-- The status and fields of the response that stands. -/
def answer (s : State) : Option (Status × List Field) :=
  match s.port.response with
  | .ready r => some (r.status, r.fields)
  | .empty => none
  | .executing _ _ => none

/-- The end of an interval is due, and no part of it is taken. -/
def atEnd (s : State) : State := { s with ending := { due := true } }

/-- The same, fades of these elements having started since. -/
def atEndWith (fresh : List Element) (s : State) : State := { s with ending := { due := true, fresh := fresh } }

/-- WCK is the source of the frame clock and absent: the clock pauses. -/
def stopped (s : State) : State := s.modClock (fun x => { x with role := .slave, source := .wck, wckAge := 3 })

/-- A command waits in the queue. -/
def queued (c : Instr) (s : State) : State := { s with pending := [c] }

/-- Role 1 is ACTIVE on channel 1, with group 1 and station 1. -/
def cast : State :=
  (State.reset.modRole 0 (fun x =>
    { x with active := true, channel := some 0, group := some 0, station := some 0, level := -40 })).modChannel 0
      (fun x => { x with binding := .current 0 })

/-- Role 2 is ACTIVE on channel 2, channel 3 being its releasing channel under the last step of XOUT 2. -/
def crossing : State :=
  { ((cast.modRole 1 (fun x => { x with active := true, channel := some 1, releasing := some 2 })).modChannel 1
      (fun x => { x with binding := .current 1 })).modChannel 2 (fun x => { x with binding := .releasing 1 }) with
    fades := [⟨.xout 1, .system, 0, -400, 5, 4⟩] }

/-- A cue of one action. -/
def smallCue (n : Nat) (delay : Nat) : Cue := ⟨n, [], none, [⟨delay, .trigger 9⟩]⟩

/-- Cues 5 and 10, with cue 5 in standby. -/
def listed : State := { State.reset with cues := ⟨[smallCue 5 1, smallCue 10 1], some 5⟩ }

/-- Cue 5 runs in slot 1: one action falls due next, one waits, and one fade is owned. -/
def running : State :=
  { (listed.modSlot 0 (fun _ =>
      ⟨true, some 5, 1#32, some .port, 3, [⟨⟨4, .trigger 9⟩, 1⟩, ⟨⟨9, .trigger 8⟩, 6⟩], 1, 0⟩)) with
    cues := ⟨[smallCue 5 1, smallCue 10 1], some 10⟩
    fades := [⟨.group 0, .cue 0, -400, 0, 100, 9⟩] }

/-- Preset 1 is ready, to ALL. -/
def presetReady : State := State.reset.modPreset 0 (fun x => { x with source := some 3 })

/-- A call on preset 1, from the line, holds station 1 alone. -/
def calling : State :=
  (presetReady.modRelay (fun x =>
    { x with
      arrivals := 1#32
      active := some ⟨⟨0, .line, 1#32, .standard⟩, 1#32, 0, 0⟩ })).modStation 0 (fun x => { x with inCall := true })

/-- Presets 2 and 3 are ready too, preset 3 URGENT. -/
def callingMore : State :=
  (calling.modPreset 1 (fun x => { x with source := some 4 })).modPreset 2
    (fun x => { x with source := some 5, priority := .urgent })

/-- The call on preset 2 waits behind it. -/
def waiting : State := callingMore.modRelay (fun x => { x with queue := [⟨1, .port, 2#32, .standard⟩] })

/-- Mix 1 has one entry, of role 1, under a fade. -/
def mixed : State :=
  { cast.modMix 0 (fun x => { x with entries := [⟨.role 0, -10⟩], listener := some 0, protect := 96 }) with
    fades := [⟨.send 0 (.role 0), .host, -10, 0, 100, 9⟩] }

/-- The relay carries channel 4. -/
def relayed : State := State.reset.modRelay (fun x => { x with entries := [⟨.channel 3, 0⟩] })

/-- Link 1 is enabled and receives a frame. -/
def linked : State := State.reset.modReceiver 0 (fun x => { x with enable := true, state := .waitSync, receiving := true })

/-- Monitor 1 watches channel 1, which is silent. -/
def watching : State := State.reset.modMonitor 0 (fun x => { x with enabled := true, state := .watching, hold := 1 })

/-- An element for each number below 128. -/
def element (i : Nat) : Element :=
  if h : i < 64 then .role ⟨i, h⟩ else .xin ⟨i % 64, Nat.mod_lt _ (by decide)⟩

/-- A full fade table. -/
def full : State :=
  { State.reset with fades := (List.range 128).map (fun i => ⟨element i, .host, 0, -40, 100, 0⟩) }

/-- The queue of 7.10. -/
def inQueue (p : Fin 16) (pr : Priority) (n : Nat) : Call := ⟨p, .port, BitVec.ofNat 32 n, pr⟩

/-- 7.10 before its first event, with preset 11 and preset 16 ready. -/
def displacing : State :=
  ((State.reset.modPreset 10 (fun x => { x with source := some 0 })).modPreset 15 (fun x =>
    { x with source := some 0, priority := .urgent })).modRelay (fun x =>
    { x with
      arrivals := 47#32
      active := some ⟨inQueue 1 .standard 39, 1#32, 0, 0⟩
      queue := [inQueue 4 .standard 41, inQueue 5 .standard 43, inQueue 2 .routine 40, inQueue 7 .routine 42,
        inQueue 9 .routine 44, inQueue 11 .routine 45, inQueue 12 .routine 46, inQueue 13 .routine 47] })

/-- The same with preset 11 ROUTINE, so that it displaces no call. -/
def crammed : State := displacing.modPreset 10 (fun x => { x with priority := .routine })

/-- A procedure of this cause runs. -/
def resetting (c : Cause) (ended : Bool) (strap : Option Bool) : State :=
  { State.reset with resets := { procedure := some ⟨c, ended, strap⟩ } }

/-- A request is being executed. -/
def executing : State := { State.reset with port := { response := .executing 1 .poll } }

theorem accepts_of {s : State} (h : (!s.inReset && !isExecuting s.port.response && !s.ending.begun) = true) :
    accepts s := by
  unfold accepts
  simpa [and_assoc] using h

theorem takesEdges_of {s : State} (h : (!s.inReset && !paused s && !s.ending.due) = true) : takesEdges s := by
  unfold takesEdges
  simpa [and_assoc] using h

theorem test_accepts : ∀ s ∈ [State.reset, cast, crossing, listed, running, presetReady, calling, callingMore, waiting,
    mixed, relayed, linked, watching, full], accepts s := by
  intro s h
  have all : ∀ s ∈ [State.reset, cast, crossing, listed, running, presetReady, calling, callingMore, waiting, mixed,
      relayed, linked, watching, full],
      (!s.inReset && !isExecuting s.port.response && !s.ending.begun) = true := by decide +kernel
  exact accepts_of (all s h)

theorem test_accepts_reset : accepts State.reset := accepts_of rfl

/-- A check of every element that exists against its range. -/
def levelsIn (s : State) : Bool :=
  let fits (el : Element) (v : Int) : Bool := decide (elemLo el ≤ v) && decide (v ≤ elemHi el)
  (List.finRange 16).all (fun g => fits (.group g) (s.group g).level) &&
    (List.finRange 64).all (fun r => fits (.role r) (s.role r).level && fits (.xout r) (s.role r).xout &&
      fits (.xin r) (s.role r).xin) &&
    (List.finRange 12).all (fun f => fits (.master f) (s.mix f).master && fits (.tbDuck f) (s.mix f).duck &&
      (s.mix f).entries.all (fun e => decide (-400 ≤ e.level) && decide (e.level ≤ 40))) &&
    s.relay.entries.all (fun e => decide (-400 ≤ e.level) && decide (e.level ≤ 40)) &&
    (List.finRange 32).all (fun n => fits (.station n) (s.station n).volume && fits (.duck n) (s.station n).duck) &&
    (List.finRange 4).all (fun n => fits (.link n) (s.receiver n).ramp)

theorem levelLaw_of {s : State} (h : levelsIn s = true) : levelLaw s := by
  simp only [levelsIn, Bool.and_eq_true, List.all_eq_true, List.mem_finRange, true_implies, decide_eq_true_eq] at h
  obtain ⟨⟨⟨⟨⟨hg, hr⟩, hm⟩, he⟩, hs⟩, hl⟩ := h
  intro el v hv
  cases el with
  | group g => cases hv; exact hg g
  | role r => cases hv; exact (hr r).1.1
  | master f => cases hv; exact (hm f).1.1
  | send f src =>
    simp only [State.value?, Option.map_eq_some_iff] at hv
    obtain ⟨e, hf, rfl⟩ := hv
    exact (hm f).2 e (List.mem_of_find?_eq_some hf)
  | relaySend src =>
    simp only [State.value?, Option.map_eq_some_iff] at hv
    obtain ⟨e, hf, rfl⟩ := hv
    exact he e (List.mem_of_find?_eq_some hf)
  | station n => cases hv; exact (hs n).1
  | duck n => cases hv; exact (hs n).2
  | tbDuck f => cases hv; exact (hm f).1.2
  | xout r => cases hv; exact (hr r).1.2
  | xin r => cases hv; exact (hr r).2
  | link n => cases hv; exact hl n

/-- A check that actions and fades keep to the kinds of their class. -/
def classesIn (s : State) : Bool :=
  let kept (b : ActionBody) : Bool := match b with | .level el _ _ => elemOpen el | _ => true
  s.fades.all (fun e => decide (e.owner = .system) || elemOpen e.element) &&
    s.cues.cues.all (fun c => c.actions.all (fun a => kept a.body)) &&
    (List.finRange 8).all (fun k => (s.slot k).actions.all (fun p => kept p.action.body))

theorem classLaw_of {s : State} (h : classesIn s = true) : classLaw s := by
  simp only [classesIn, Bool.and_eq_true, List.all_eq_true, List.mem_finRange, true_implies, Bool.or_eq_true,
    decide_eq_true_eq] at h
  obtain ⟨⟨hf, hc⟩, hs⟩ := h
  refine ⟨fun e he ho => (hf e he).resolve_left ho, fun c hcm a ha => ?_, fun k p hp => ?_⟩
  · have := hc c hcm a ha
    revert this
    cases a.body <;> simp [bodyOpen]
  · have := hs k p hp
    revert this
    cases p.action.body <;> simp [bodyOpen]

/-! ## The laws hold in states that are not the reset state, and a step leaves them there -/

theorem test_step_fade : fadeLaw (queued (.fadeComplete (.role 3)) (atEnd full)) ∧
    full.fades.length = 128 ∧ ∃ t, step (queued (.fadeComplete (.role 3)) (atEnd full)) = .next t :=
  ⟨by unfold fadeLaw; decide +kernel, by decide +kernel, _, rfl⟩

theorem test_step_cue : cueLaw (queued (.cueDelete 5 5) listed) ∧ ∃ t, step (queued (.cueDelete 5 5) listed) = .next t := by
  refine ⟨⟨by decide +kernel, by decide +kernel, ?_⟩, _, rfl⟩
  intro n h
  cases h
  decide +kernel

theorem test_step_binding : bindingLaw (queued (.fadeComplete (.xout 1)) (atEnd crossing)) ∧
    ∃ t, step (queued (.fadeComplete (.xout 1)) (atEnd crossing)) = .next t :=
  ⟨by unfold bindingLaw; decide +kernel, _, rfl⟩

theorem test_step_ranges :
    let s := queued (.controlIntervalEnd none none none) (atEnd mixed)
    protectLaw s ∧ levelLaw s ∧ fadeLaw s ∧ classLaw s ∧ boundsLaw s ∧
    (mixed.mix 0).protect = 96 ∧ ∃ t, step s = .next t := by
  refine ⟨by unfold protectLaw; decide +kernel, levelLaw_of (by decide +kernel), by unfold fadeLaw; decide +kernel,
    classLaw_of (by decide +kernel), ?_, by decide +kernel, _, rfl⟩
  intro e h
  cases List.mem_singleton.mp h
  exact ⟨by decide, by decide, by decide, ⟨-10, by decide +kernel⟩, by rintro r (h | h | h) <;> cases h⟩

theorem test_step_call : callLaw (queued (.callEnd 1) waiting) ∧
    (∃ t, step (queued (.callEnd 1) waiting) = .next t) ∧ queueLaw (queued (.callStart 11) displacing) ∧
    arrivalLaw (queued (.callStart 11) displacing) ∧ agesFit (queued (.callStart 11) displacing) ∧
    ∃ t, step (queued (.callStart 11) displacing) = .next t := by
  refine ⟨⟨by decide +kernel, by decide +kernel, ?_⟩, ⟨_, rfl⟩, by unfold queueLaw; decide +kernel,
    by unfold arrivalLaw; decide +kernel, by unfold agesFit; decide +kernel, _, rfl⟩
  have only : ∀ n : Fin 32, ((queued (.callEnd 1) waiting).station n).inCall = true → n = 0 := by decide +kernel
  intro n h
  rw [only n h]
  exact ⟨_, rfl, by decide +kernel⟩

/-- One call is pending. -/
def lone : State := State.reset.modRelay (fun x => { x with arrivals := 5#32, queue := [inQueue 1 .standard 5] })

/-- A call that joins ahead of a call of its own priority is no move of the queue (R126). -/
theorem test_queueMoves_refusesSwap : ¬ queueMoves lone (lone.modRelay (fun x =>
    { x with arrivals := 6#32, queue := [inQueue 2 .standard 6, inQueue 1 .standard 5] })) := by
  have most : arrivalsMost lone = 2 := by decide +kernel
  rintro (⟨h, -⟩ | ⟨n, hn, -, l, hl, hs, -, hk, hp⟩)
  · cases h
  · rw [most] at hn
    change [inQueue 2 .standard 6, inQueue 1 .standard 5] = l.map (fun x => x.2) at hl
    obtain ⟨x, l, rfl, hx, hl⟩ := List.map_eq_cons_iff.mp hl.symm
    obtain ⟨y, l, rfl, hy, hl⟩ := List.map_eq_cons_iff.mp hl
    obtain rfl := List.map_eq_nil_iff.mp hl
    have y0 : y.1 = 0 := hk y (by simp) (by rw [hy]; exact List.mem_singleton.mpr rfl)
      (by rw [hy]; exact Nat.lt_of_le_of_lt (Nat.add_le_add_left hn _) (by decide +kernel))
    have x0 : x.1 = 0 := by
      have first := (List.pairwise_cons.mp hp).1 y (by simp)
      rw [hx, hy, y0] at first
      exact (first.2 rfl).elim (fun h => absurd h (Nat.not_lt_zero _)) And.left
    have := hs.length_le
    simp [x0, y0, lone, State.modRelay] at this

theorem test_step_entry : entryLaw (queued (.mixRead 1) mixed) ∧ triggerLaw (queued (.mixRead 1) mixed) ∧
    ∃ t, step (queued (.mixRead 1) mixed) = .next t :=
  ⟨⟨by decide +kernel, by decide +kernel, by decide +kernel⟩, by unfold triggerLaw; decide +kernel, _, rfl⟩

theorem test_step_owned : fadeLaw (queued .go running) ∧ classLaw (queued .go running) ∧ ownedLaw (queued .go running) ∧
    ∃ t, step (queued .go running) = .next t :=
  ⟨by unfold fadeLaw; decide +kernel, classLaw_of (by decide +kernel), by unfold ownedLaw; decide +kernel, _, rfl⟩

/-! ## Hypotheses that are met: the queue, the port and the attention conditions -/

theorem test_met_StepRunsFront : (queued .go listed).pending = [.go] ∧ State.reset.pending = [] ∧
    isExecuting State.reset.port.response = false ∧ executing.pending = [] ∧
    executing.port.response = .executing 1 .poll := by decide +kernel

theorem takesNoRest_of {c : Instr} {s : State} (h1 : s.ending.due = false) (h2 : s.ending.begun = false)
    (h3 : s.ending.block = none) : takesNoRest c s :=
  ⟨fun _ => h2, fun _ => h1, fun _ _ => .inl h3, fun _ _ => h1⟩

theorem test_met_StandbyMovesOnlyOn : movesStandby .poll = false ∧ (∃ t, exec .poll listed = .next t) ∧
    takesNoRest .poll listed ∧ movesStandby (.frame true) = false ∧ takesNoRest (.frame true) listed ∧
    (∃ t, exec (.frame true) listed = .next t) ∧ movesStandby (.holdNPress .press) = false ∧
    takesNoRest (.holdNPress .press) listed ∧ ∃ t, exec (.holdNPress .press) listed = .next t :=
  ⟨rfl, ⟨_, rfl⟩, takesNoRest_of rfl rfl rfl, rfl, takesNoRest_of rfl rfl rfl, ⟨_, rfl⟩,
    rfl, takesNoRest_of rfl rfl rfl, _, rfl⟩

theorem test_met_HoldChangesOnlyOn : changesHold .clearShow = false ∧ (∃ t, exec .clearShow listed = .next t) ∧
    takesNoRest .clearShow listed ∧ changesHold (.frame false) = false ∧ takesNoRest (.frame false) listed ∧
    ∃ t, exec (.frame false) listed = .next t :=
  ⟨rfl, ⟨_, rfl⟩, takesNoRest_of rfl rfl rfl, rfl, takesNoRest_of rfl rfl rfl, _, rfl⟩

theorem test_met_CommandsThatMeetNothing : (resetting .pin false none).inReset = true ∧ actsInReset .go = false ∧
    requestCode .go = some 25 ∧ executing.port.response = .executing 1 .poll ∧ Instr.poll ≠ .go := by decide +kernel

theorem test_met_RefusedRequestChangesNothing : requestCode .go = some 25 ∧ accepts State.reset ∧
    answer (after .go State.reset) = some (.endOfList, []) ∧ requestCode .poll = some 1 ∧ executing.inReset = false ∧
    executing.port.response = .executing 1 .poll :=
  ⟨rfl, test_accepts_reset, by decide +kernel⟩

/-- R161: a request that TRANSACTION has put in EXECUTING runs to its answer. -/
theorem test_request_executing :
    let s := { State.reset with port := { State.reset.port with response := .executing 25 .go } }
    answer (after .go s) = some (.endOfList, []) ∧ after .poll s = s := by decide +kernel

theorem test_met_PayloadsReadBack : 255 < 256 ^ 1 ∧ 16777215 < 256 ^ 3 ∧ (-32768 : Int) ≤ -400 ∧ (48 : Int) ≤ 32767 ∧
    labelFits [] = true ∧ labelFits [32, 255] = true := by decide +kernel

theorem test_met_MalformedFramesRefused :
    classifyFrame [1, 0, 0] 1 = .bad 1 ∧ classifyFrame [1, 0] 0 = .bad 1 ∧ classifyFrame [0, 0, 0] 0 = .bad 0 ∧
    classifyFrame [61, 0, 0] 0 = .bad 61 ∧ classifyFrame [255, 0, 0] 0 = .bad 255 ∧
    classifyFrame ([1, 0, 253] ++ List.replicate 253 0) 0 = .bad 1 ∧ classifyFrame [1, 0, 1] 0 = .bad 1 ∧
    classifyFrame [60, 0, 0] 0 = .request 60 .pollAlias ∧ classifyFrame [3, 9] 7 = .portReset := by decide +kernel

theorem test_met_TransactionsRun : State.reset.inReset = false ∧ State.reset.port.transaction = .closed ∧
    State.reset.port.response = .empty ∧ (after .poll State.reset).port.response = .ready ⟨.ok, 1, []⟩ ∧
    executing.port.response = .executing 1 .poll ∧
    (after .transactionBegin State.reset).port.transaction = .opened false ∧
    (after .transactionBegin executing).port.transaction = .opened true := by decide +kernel

theorem test_met_ClearShowClears : accepts calling ∧ calling.relay.active.isSome ∧ accepts State.reset ∧
    State.reset.relay.active = none ∧ State.reset.relay.queue = [] :=
  ⟨accepts_of (by decide +kernel), by decide +kernel, test_accepts_reset, rfl, rfl⟩

theorem test_met_AttentionLine : (resetting .pin false none).inReset = true ∧ State.reset.inReset = false ∧
    attnLow State.reset = true ∧
    (resetting .pin true (some true)).resets.procedure = some ⟨.pin, true, some true⟩ ∧
    presentCause (resetting .pin true (some true)).resets = none := by decide +kernel

theorem test_met_PortRequestsAnswer : accepts State.reset ∧ answer (after .pollAlias State.reset) = some (.ok, []) :=
  ⟨test_accepts_reset, by decide +kernel⟩

theorem test_met_AttentionRequests : accepts State.reset ∧ attnLow (after (.attentionClear 1) State.reset) = false ∧
    answer (after (.attentionEnable 65535) State.reset) = some (.ok, [.set 2 65535, .set 2 1]) :=
  ⟨test_accepts_reset, by decide +kernel⟩

/-! ## Resets -/

theorem test_met_ProceduresRun : State.reset.resets.procedure = none ∧
    (resetting .supply false none).resets.procedure = some ⟨.supply, false, none⟩ ∧
    causeRank .supply ≤ causeRank .supply ∧ causeRank .supply ≤ causeRank .power ∧
    causeRank .pin < causeRank .supply ∧ Cause.pin ≠ .supply := by decide +kernel

theorem test_met_ResetProcedureEnds :
    (resetting .pin true (some true)).resets.procedure = some ⟨.pin, true, some true⟩ ∧
    (resetting .power true none).resets.procedure = some ⟨.power, true, none⟩ ∧
    (resetting .supply false none).resets.procedure = some ⟨.supply, false, none⟩ := by decide +kernel

/-- R169: SUPPLY arrived during the procedure of POWER and is still present at its end. -/
theorem test_reset_waitingCause :
    let s := { resetting .power true (some false) with
      resets := { procedure := some ⟨.power, true, some false⟩, supply := true } }
    (after .resetProcedureEnd s).resets.procedure = some ⟨.supply, false, none⟩ := by decide +kernel

/-! ## Frames, interval ends, fades -/

theorem test_met_FrameComputes : linked.inReset = false ∧ linked.ending.due = false ∧
    (linked.receiver 0).state ≠ .locked ∧
    (let r := (linked.modReceiver 0 (fun x => { x with state := .locked, missed := 3 })).receiver 0
     r.state = .locked ∧ r.newest = none ∧ r.missed < 4 ∧ linkSpent r = false) ∧
    (let r := (linked.modReceiver 0 (fun x => { x with state := .locked, missed := 4 })).receiver 0
     r.state = .locked ∧ r.newest = none ∧ 4 ≤ r.missed ∧ linkSpent r = true) ∧
    (let r := (linked.modReceiver 0 (fun x =>
      { x with state := .locked, newest := some (Table.replicate 16 7) })).receiver 0
     r.state = .locked ∧ r.newest = some (Table.replicate 16 7)) ∧
    (atEnd linked).inReset = false ∧ (atEnd linked).ending.due = true ∧ paused (atEnd linked) = false ∧
    paused (stopped (atEnd linked)) = true ∧ (stopped (atEnd linked)).ending.due = true := by
  decide +kernel

theorem test_met_FrameArithmetic : 0 < threshold (-399) ∧ threshold (-399) ≤ 86 ∧ 86 < threshold (-398) ∧
    threshold 0 ≤ 8388608 ∧ (-399 : Int) ≤ -399 ∧ (atEnd State.reset).inReset = false ∧
    (atEnd State.reset).ending.due = true ∧ paused (atEnd State.reset) = false ∧
    (atEnd State.reset).ending.measured = false ∧ (∀ x ∈ [(⟨7, -400⟩ : Term)], x.level = -400) := by decide +kernel

theorem test_met_HoldFreezesCues :
    let s := atEnd (running.modEngine (fun x => { x with hold := true }))
    s.engine.hold = true ∧ s.ending.counted = false ∧ s.inReset = false ∧
    s.entry? (.group 0) = some ⟨.group 0, .cue 0, -400, 0, 100, 9⟩ ∧ elemOpen (.group 0) = true := by decide +kernel

/-- Slot 1 of `running`, with its fade one step from its end. -/
def lastFade : State :=
  atEnd { running.modSlot 0 (fun x => { x with owned := 2 }) with
    fades := [⟨.group 0, .cue 0, -400, 0, 100, 99⟩, ⟨.group 1, .cue 0, -400, 0, 100, 9⟩] }

/-- R52 and R98: a CUE fade completes, HOLD comes, and the rest of the end counts; the end after it does not. -/
theorem test_hold_afterFadeComplete :
    let s := after (.controlIntervalEnd none none none) (after .hold (after (.fadeComplete (.group 0)) lastFade))
    s.engine.hold = true ∧ (s.slot 0).elapsed = 4 ∧ s.entry? (.group 1) = some ⟨.group 1, .cue 0, -400, 0, 100, 10⟩ ∧
    ((after (.controlIntervalEnd none none none) (atEnd s)).slot 0).elapsed = 4 ∧
    (after (.controlIntervalEnd none none none) (atEnd s)).entry? (.group 1) =
      some ⟨.group 1, .cue 0, -400, 0, 100, 10⟩ := by decide +kernel

/-- R98: a HOLD request that comes first stops the whole end. -/
theorem test_hold_first :
    let s := after (.controlIntervalEnd none none none) (after (.fadeComplete (.group 0)) (after .hold lastFade))
    (s.slot 0).elapsed = 3 ∧ s.entry? (.group 0) = some ⟨.group 0, .cue 0, -400, 0, 100, 99⟩ := by decide +kernel

theorem test_met_IntervalEndPeaksAndLimiters : mixed.inReset = false ∧ mixed.ending.due = false ∧
    (let s := atEnd mixed
     s.inReset = false ∧ s.ending.due = true ∧ paused s = false ∧ s.ending.measured = false ∧
     s.ending.counted = false ∧ s.engine.hold = false ∧ s.engine.follow = none ∧
     (sampleInput s.engine.goInput).2 = none) ∧
    (stopped (atEnd mixed)).inReset = false ∧ paused (stopped (atEnd mixed)) = true ∧
    (let s := { mixed with ending := { due := true, measured := true, called := true, counted := true } }
     s.ending.due = true ∧ s.ending.measured = true ∧ s.ending.counted = true ∧ s.inReset = false) ∧
    (mixed.mix 0).ceiling = -24 ∧ peakCode 4204263 = -24 ∧ peakCode 4204262 = -25 := by decide +kernel

/-- Two cues run, each with one action due, and the follow compare is due at the same end. -/
def twoDue : State :=
  let slot (n : Nat) : Slot := ⟨true, some n, BitVec.ofNat 32 n, some .port, 3, [⟨⟨4, .trigger n⟩, 1⟩], 0, 0⟩
  { ((listed.modSlot 0 (fun _ => slot 1)).modSlot 1 (fun _ => slot 2)).modEngine (fun x =>
      { x with follow := some 4, timer := 3, serial := 2#32 }) with ending := { due := true } }

theorem test_met_findsWhole :
    let s := after (.actionDue 0) twoDue
    findsWhole .clearShow = true ∧ isEdge .callNPress = true ∧ endBlock .callTimeout = some .relay ∧
    s.ending.block = some .cue ∧ s.ending.sampled = .none ∧ s.inReset = false ∧
    isExecuting s.port.response = false ∧
    s.ending.due = true ∧ s.ending.begun = true ∧ paused s = false ∧ s.ending.counted = false ∧
    s.engine.hold = false := by decide +kernel

/-- R82 and R172: CLEAR_SHOW after ACTION_DUE of slot 1 finds slot 2's action taken and the follow fired, and no end is left. -/
theorem test_clearShow_endWhole :
    let t := after .clearShow (after (.actionDue 0) twoDue)
    t.attention.details.done = some (2, 0) ∧ t.attention.details.fired = some 5 ∧ t.engine.serial = 3#32 ∧
    t.engine.timer = 0 ∧ t.engine.triggers = [] ∧ t.cues = {} ∧
    after (.controlIntervalEnd none none none) t = t := by decide +kernel

/-- R82: so does CALL_TIMEOUT find all three stages, and there is no call. -/
theorem test_blockPart_cueWhole :
    let t := after .callTimeout (after (.actionDue 0) twoDue)
    t.engine.triggers = [1, 2] ∧ t.attention.details.fired = some 5 ∧ t.ending.counted = true ∧ t.ending.sampled = .all ∧
    t.ending.block = none ∧ t.ending.due = true ∧ t.engine.goInput.primed = true := by decide +kernel

/-- R99: so does RUNNING_READ of slot 2, which is FREE; and LEVEL_SET leaves no end. -/
theorem test_reads_endWhole :
    let s := after (.actionDue 0) twoDue
    (after (.runningRead 2) s).engine.triggers = [1, 2] ∧ ((after (.runningRead 2) s).slot 1).running = false ∧
    (after (.levelSet [⟨⟨0, 1, 0, 0⟩, -30, 0⟩]) s).attention.details.fired = some 5 := by decide +kernel

/-- R148: the 48th frame makes the end due, the count starts again, and no end comes before it. -/
theorem test_frame_48th :
    let s := State.reset.modClock (fun x => { x with frameCount := 47 })
    (after (.frame true) s).ending.due = true ∧ (after (.frame true) s).links.clock.frameCount = 0 ∧
    (after (.frame true) State.reset).ending.due = false ∧
    after (.controlIntervalEnd none none none) State.reset = State.reset := by decide +kernel

theorem test_met_MonitorStepTable :
    (atEnd watching).inReset = false ∧ (atEnd watching).ending.due = true ∧ paused (atEnd watching) = false ∧
    (State.reset.monitor 0).state = .off ∧
    (watching.monitor 0).state = .watching ∧ monitorTrue (watching.monitor 0) watching = true ∧
    (watching.monitor 0).hold = 1 ∧
    monitorTrue { watching.monitor 0 with condition := .above } watching = false ∧
    monitorTrue { watching.monitor 0 with state := .counting, hold := 2 } watching = true ∧
    monitorTrue { watching.monitor 0 with hold := 2 } watching = true ∧ 1 < 2 ∧
    monitorTrue { watching.monitor 0 with state := .tripped } watching = true := by decide +kernel

theorem test_met_FadeRequestCases :
    State.reset.value? (.group 0) = some (-400) ∧ elemClamp (.group 0) (-500) = -400 ∧
    elemClamp (.group 0) 99 = 40 ∧ State.reset.fades.length < 128 ∧ (full.entry? (.role 3)).isSome ∧
    full.entry? (.group 0) = none ∧ 128 ≤ full.fades.length := by decide +kernel

theorem test_met_LevelSetFades : accepts cast ∧
    ([Element.role 0, .group 0].Nodup ∧ ∀ e ∈ [Element.role 0, .group 0], elemOpen e = true ∧ cast.available e = true) ∧
    ((List.finRange 16).map Element.group).Nodup ∧ ((List.finRange 16).map Element.group).length = 16 :=
  ⟨accepts_of (by decide +kernel), by decide +kernel⟩

/-- The fade of group 1 has one step to go. -/
def lastStepLeft : State := { running with fades := [⟨.group 0, .cue 0, -400, 0, 100, 99⟩] }

theorem test_met_FadeCompleteWritesTarget : fadeLaw (atEnd lastStepLeft) ∧
    (let s := atEnd lastStepLeft
     s.inReset = false ∧ s.ending.due = true ∧ paused s = false ∧ s.ending.block = none ∧ s.ending.stepped = false ∧
     Element.group 0 ∉ s.ending.fresh ∧
     s.entry? (.group 0) = some ⟨.group 0, .cue 0, -400, 0, 100, 99⟩ ∧
     frozen s ⟨.group 0, .cue 0, -400, 0, 100, 99⟩ = false ∧ 100 ≤ 99 + 1 ∧ (s.value? (.group 0)).isSome) ∧
    (∀ r, Element.group 0 ≠ .xout r) ∧ elemLo (.group 0) ≤ 0 ∧ 0 ≤ elemHi (.group 0) ∧
    (let s := { lastStepLeft.modEngine (fun x => { x with hold := true }) with
        ending := { due := true, begun := true, block := some .cue, counted := true } }
     frozen s ⟨.group 0, .cue 0, -400, 0, 100, 99⟩ = true ∧ s.ending.counted = true) ∧
    fadeLaw (atEndWith [.group 0] lastStepLeft) ∧ Element.group 0 ∈ (atEndWith [.group 0] lastStepLeft).ending.fresh :=
  ⟨by unfold fadeLaw; decide +kernel, by decide +kernel, by simp, by decide +kernel, by decide +kernel,
    by decide +kernel, by unfold fadeLaw; decide +kernel, by decide +kernel⟩

theorem test_met_CrossfadeEnds : fadeLaw (atEnd crossing) ∧
    (let s := atEnd crossing
     s.inReset = false ∧ s.ending.due = true ∧ paused s = false ∧ s.ending.block = none ∧ s.ending.stepped = false ∧
     Element.xout 1 ∉ s.ending.fresh ∧
     s.entry? (.xout 1) = some ⟨.xout 1, .system, 0, -400, 5, 4⟩ ∧
     frozen s ⟨.xout 1, .system, 0, -400, 5, 4⟩ = false ∧ 5 ≤ 4 + 1 ∧ (s.role 1).releasing = some 2) :=
  ⟨by unfold fadeLaw; decide +kernel, by decide +kernel⟩

/-- The ramp of link 1 has taken this many of its 20 steps. -/
def ramping (n : Nat) : State := atEnd { linked with fades := [⟨.link 0, .system, -400, 0, 20, n⟩] }

/-- Slot 1 has this action due next and another that waits. -/
def dueIn (s : State) (b : ActionBody) : State :=
  s.modSlot 0 (fun _ => ⟨true, some 5, 1#32, some .port, 3, [⟨⟨4, b⟩, 1⟩, ⟨⟨9, .trigger 8⟩, 6⟩], 0, 0⟩)

theorem test_met_FadeStepInterpolates : fadeLaw running ∧
    (running.entry? (.group 0) = some ⟨.group 0, .cue 0, -400, 0, 100, 9⟩ ∧
     frozen running ⟨.group 0, .cue 0, -400, 0, 100, 9⟩ = false ∧ 9 + 1 < 100 ∧ (running.value? (.group 0)).isSome ∧
     Element.group 0 ∉ running.ending.fresh) ∧
    ∀ n ∈ [5, 19], fadeLaw (ramping n) ∧ classLaw (ramping n) ∧ (ramping n).inReset = false ∧
      (ramping n).ending.due = true ∧ paused (ramping n) = false ∧
      (ramping n).entry? (.link 0) = some ⟨.link 0, .system, -400, 0, 20, n⟩ ∧
      frozen (ramping n) ⟨.link 0, .system, -400, 0, 20, n⟩ = false ∧ ((ramping n).value? (.link 0)).isSome ∧
      Element.link 0 ∉ (ramping n).ending.fresh ∧ (5 + 1 < 20 ∧ 20 ≤ 19 + 1) ∧
      Element.link 0 ∈ (atEndWith [.link 0] (ramping n)).ending.fresh := by
  refine ⟨by unfold fadeLaw; decide +kernel, by decide +kernel, ?_⟩
  intro n h
  simp only [List.mem_cons, List.not_mem_nil, or_false] at h
  rcases h with rfl | rfl <;>
    exact ⟨by unfold fadeLaw; decide +kernel, classLaw_of (by decide +kernel), by decide +kernel⟩

/-- R47: a fade that a LEVEL action starts at an end takes no step at that end, and its first at the next. -/
theorem test_level_firstStep :
    let s := after (.controlIntervalEnd none none none)
      (after (.actionDue 0) (atEnd (dueIn cast (.level (.group 1) 40 100))))
    s.entry? (.group 1) = some ⟨.group 1, .cue 0, -400, 40, 100, 0⟩ ∧
    (after (.controlIntervalEnd none none none) (atEnd s)).entry? (.group 1) =
      some ⟨.group 1, .cue 0, -400, 40, 100, 1⟩ := by decide +kernel

/-! ## Cues -/

theorem test_cueLaw_listed : cueLaw listed :=
  ⟨by decide +kernel, by decide +kernel, by intro n h; cases h; decide +kernel⟩

/-- The cues 1 to 512. -/
def fullList : State := { State.reset with cues := ⟨(List.range 512).map (fun i => smallCue (i + 1) 1), none⟩ }

theorem test_cueLaw_fullList : cueLaw fullList := by
  refine ⟨by simp [fullList, Config.cuePlaces], ?_, by intro n h; cases h⟩
  simp only [fullList, List.map_map, List.pairwise_map]
  exact List.pairwise_lt_range.imp (by intro a b h; simpa [smallCue] using h)

/-- CUE_STORE of this number with one action. -/
def rawCue (n : Nat) : RawCue := ⟨n, [], 0, 0, [⟨1, .trigger 9⟩]⟩

theorem test_met_CueStoreStores : accepts listed ∧ cueLaw listed ∧ cueIndexOk (rawCue 10) = true ∧
    cueOf (rawCue 10) = some (smallCue 10 1) ∧ (findCue 10 listed).isSome ∧
    cueOf (rawCue 9999) = some (smallCue 9999 1) ∧ findCue 9999 listed = none ∧ listed.cues.cues.length < 512 ∧
    accepts fullList ∧ cueLaw fullList ∧ findCue 9999 fullList = none ∧ 512 ≤ fullList.cues.cues.length :=
  ⟨accepts_of (by decide +kernel), test_cueLaw_listed, by decide +kernel, by decide +kernel, by decide +kernel,
    by decide +kernel, by decide +kernel, by decide +kernel, accepts_of (by decide +kernel),
    test_cueLaw_fullList, by decide +kernel, by decide +kernel⟩

theorem test_met_CueDeleteDeletes : accepts listed ∧ cueLaw listed ∧
    (∃ c ∈ listed.cues.cues, 5 ≤ c.number ∧ c.number ≤ 5) ∧ listed.cues.standby = some 5 ∧
    (∃ c ∈ listed.cues.cues, 6 ≤ c.number ∧ c.number ≤ 9999) ∧
    (after (.cueDelete 5 5) listed).cues.standby = some 10 ∧ (after (.cueDelete 5 9999) listed).cues.standby = none :=
  ⟨accepts_of (by decide +kernel), test_cueLaw_listed, by decide +kernel⟩

/-- The follow compare is one interval before its time. -/
def following (s : State) : State := (atEnd s).modEngine (fun x => { x with follow := some 4, timer := 3 })

theorem test_met_StandbySetMoves : accepts listed ∧ (findCue 5 listed).isSome ∧ findCue 1 listed = none ∧
    findCue 9999 listed = none ∧ 9999 < 10000 ∧ accepts (following listed) ∧ (findCue 10 (following listed)).isSome ∧
    (following listed).engine.hold = false ∧ (following listed).engine.follow = some 4 ∧
    (following listed).ending.due = true ∧ paused (following listed) = false ∧ (following listed).ending.block = none ∧
    (following listed).ending.counted = false ∧ (following listed).engine.timer < 16777215 ∧
    max 4 1 ≤ (following listed).engine.timer + 1 :=
  ⟨accepts_of (by decide +kernel), by decide +kernel, by decide +kernel, by decide +kernel, by decide,
    accepts_of (by decide +kernel), by decide +kernel⟩

theorem test_met_GoFires : accepts listed ∧ takesEdges listed ∧
    (standbyCue listed = some (smallCue 5 1) ∧ listed.engine.hold = false ∧
      edgeActs listed.engine.goInput .press = true) ∧
    (let s := following listed
     s.inReset = false ∧ s.engine.hold = false ∧ s.ending.due = true ∧ paused s = false ∧ s.ending.block = none ∧
     s.ending.counted = false ∧
     s.engine.timer < 16777215 ∧ max 4 1 ≤ s.engine.timer + 1 ∧ s.engine.follow = some 4 ∧
     standbyCue s = some (smallCue 5 1)) :=
  ⟨accepts_of (by decide +kernel), takesEdges_of (by decide +kernel), by decide +kernel, by decide +kernel⟩

/-- R82: the HOLD_N edge of an end comes after its stages 1 and 2, and before its GO_N edge, which is HELD. -/
theorem test_edges_ofTheEnd :
    let t := after (.goNPress .press) (after (.holdNPress .press) twoDue)
    t.engine.triggers = [1, 2] ∧ t.attention.details.fired = some 5 ∧ t.engine.hold = true ∧
    t.attention.details.ignored = some .held ∧ t.cues.standby = some 10 ∧ t.ending.sampled = .go := by decide +kernel

/-- Every slot runs, slot 1 the oldest, with these actions pending and a fade of GROUP 1. -/
def crowded (actions : List PendingAction) : State :=
  { listed with
    engine := { listed.engine with
      serial := 8#32
      slots := Table.ofFn (fun k => ⟨true, some (k.val + 100), BitVec.ofNat 32 (k.val + 1), some .port, 3,
        if k = 0 then actions else [⟨⟨9, .trigger 8⟩, 6⟩], if k = 0 then 1 else 0, 0⟩) }
    fades := [⟨.group 0, .cue 0, -400, 0, 100, 9⟩] }

/-- Two TRIGGER actions pending. -/
def twoTriggers : State := crowded [⟨⟨9, .trigger 200⟩, 6⟩, ⟨⟨9, .trigger 201⟩, 6⟩]

/-- A ROUTE action pending that the flag of role 1 covers. -/
def covered : State := (crowded [⟨⟨9, .route 0 1#8⟩, 6⟩]).modEngine (fun x => { x with safes := only 16 })

/-- A LEVEL action pending. -/
def oneLevel : State := crowded [⟨⟨9, .level (.group 2) 99 500⟩, 6⟩]

theorem test_met_GoForces :
    (∀ s ∈ [twoTriggers, covered, oneLevel], accepts s ∧ fadeLaw s ∧ classLaw s ∧
      standbyCue s = some (smallCue 5 1) ∧ s.engine.hold = false ∧ (∀ j, (s.slot j).running = true) ∧
      (∀ j, j ≠ 0 → finished (s.slot j) = false) ∧
      ∀ j, j ≠ 0 → (s.engine.serial - (s.slot j).serial).toNat < (s.engine.serial - (s.slot 0).serial).toNat) ∧
    ((smallCue 5 1).actions ≠ [] ∧ ∀ a ∈ (smallCue 5 1).actions, 1 ≤ a.delay) ∧
    (∀ p ∈ (covered.slot 0).actions, flagSet covered.engine.safes (safeFlag p.action.body) = true) ∧
    ((twoTriggers.slot 0).actions.map (fun p => p.action.body) = [200, 201].map .trigger ∧
      twoTriggers.engine.triggers.length + 2 ≤ 16) ∧
    (oneLevel.slot 0).actions = [⟨⟨9, .level (.group 2) 99 500⟩, 6⟩] ∧
    flagSet oneLevel.engine.safes (elemFlag (.group 2)) = false ∧ oneLevel.available (.group 2) = true ∧
    oneLevel.entry? (.group 2) = none := by
  refine ⟨?_, by decide +kernel⟩
  intro s h
  simp only [List.mem_cons, List.not_mem_nil, or_false] at h
  rcases h with rfl | rfl | rfl <;>
    exact ⟨accepts_of (by decide +kernel), by unfold fadeLaw; decide +kernel, classLaw_of (by decide +kernel),
      by decide +kernel⟩

/-- R83 and R84: the pending triggers are appended, the owned fade jumps to its target, and slot 1 takes cue 5. -/
theorem test_go_forces : (after .go twoTriggers).engine.triggers = [200, 201] ∧
    ((after .go twoTriggers).group 0).level = 0 ∧ ((after .go twoTriggers).slot 0).cue = some 5 ∧
    answer (after .go twoTriggers) = some (.ok, [.two 5, .byte 1, .four 9, .two 10, .two 100, .byte 0]) := by
  decide +kernel

/-- Cue 5, in standby, has these actions of delay 0. -/
def atOnce (s : State) (l : List ActionBody) : State := { s with cues := ⟨[⟨5, [], none, l.map (⟨0, ·⟩)⟩], some 5⟩ }

theorem test_met_GoStartsSlot : accepts listed ∧ standbyCue listed = some (smallCue 5 1) ∧
    freeSlot listed = some 0 ∧ (smallCue 5 1).actions ≠ [] ∧ (∀ a ∈ (smallCue 5 1).actions, 1 ≤ a.delay) ∧
    ∀ s ∈ [atOnce cast [.trigger 7, .trigger 8], atOnce cast [], atOnce cast [.member 0 none], atOnce cast [.route 0 1#8],
        atOnce cast [.member 1 none], atOnce cast [.level (.group 2) 99 500], atOnce cast [.level (.group 2) 99 0],
        atOnce full [.level (.group 2) 99 500], atOnce presetReady [.call 0]],
      (!s.inReset && !isExecuting s.port.response && !s.ending.begun) = true ∧ s.engine.hold = false ∧
      (standbyCue s).isSome ∧ freeSlot s = some 0 ∧ s.engine.triggers.length + 2 ≤ 16 ∧
      (∀ j, j ≠ 0 → finished (s.slot j) = false) ∧ (∀ j, j ≠ 0 → (s.slot j).running = false) ∧
      s.engine.safes = 0#125 :=
  ⟨accepts_of (by decide +kernel), by decide +kernel⟩

theorem test_met_GoStartsSlot_operands : (cast.role 0).active = true ∧ cannotAct cast (.member 1 none) ∧
    cast.available (.group 2) = true ∧ cast.value? (.group 2) = some (-400) ∧ cast.entry? (.group 2) = none ∧
    full.entry? (.group 2) = none ∧ 128 ≤ full.fades.length ∧ (presetReady.preset 0).source.isSome ∧
    presetReady.relay.active = none ∧ presetReady.relay.queue = [] ∧ resolve 0 presetReady ≠ 0#32 ∧
    flagSet (only 16) (safeFlag (.route 0 1#8)) = true := by
  refine ⟨by decide +kernel, ?_, by decide +kernel⟩
  show (cast.role 1).active = false
  decide +kernel

/-- R81: a cue of two TRIGGER actions of delay 0 completes within its GO, CUE_DONE after CUE_FIRED. -/
theorem test_go_completes :
    let t := after .go (atOnce cast [.trigger 7, .trigger 8])
    answer t = some (.ok, [.two 5, .byte 1, .four 1, .two 0, .two 0, .byte 1]) ∧ t.engine.triggers = [7, 8] ∧
    (t.slot 0).running = false ∧ t.attention.details.fired = some 5 ∧ t.attention.details.done = some (5, 0) := by
  decide +kernel

/-- R81: a fade of delay 0 keeps the cue running. -/
theorem test_go_fades :
    let t := after .go (atOnce cast [.level (.group 2) 99 500])
    answer t = some (.ok, [.two 5, .byte 1, .four 1, .two 0, .two 0, .byte 0]) ∧
    t.entry? (.group 2) = some ⟨.group 2, .cue 0, -400, 40, 500, 0⟩ ∧ (t.slot 0).owned = 1 := by decide +kernel

theorem test_met_GoTurnedAway : accepts (listed.modEngine (fun x => { x with hold := true })) ∧
    takesEdges (listed.modEngine (fun x => { x with hold := true })) ∧ accepts State.reset ∧ takesEdges State.reset ∧
    (State.reset.engine.hold = false ∧ State.reset.cues.standby = none ∧
      edgeActs State.reset.engine.goInput .press = true) ∧
    (let s := following State.reset
     s.inReset = false ∧ s.ending.due = true ∧ paused s = false ∧ s.ending.block = none ∧ s.ending.counted = false ∧
     s.engine.hold = false ∧
     s.engine.follow = some 4 ∧ max 4 1 ≤ s.engine.timer + 1 ∧ s.engine.timer < 16777215 ∧ s.cues.standby = none ∧
     (after .followGo s).attention.details.ignored = some .ended ∧ (after .followGo s).engine.follow = none) :=
  ⟨accepts_of (by decide +kernel), takesEdges_of (by decide +kernel), test_accepts_reset,
    takesEdges_of (by decide +kernel), by decide +kernel⟩

theorem test_met_HoldAndResume : accepts listed ∧ listed.engine.hold = false ∧
    takesEdges listed ∧ accepts (listed.modEngine (fun x => { x with hold := true })) ∧
    takesEdges (listed.modEngine (fun x => { x with hold := true })) ∧ edgeActs listed.engine.holdInput .press = true :=
  ⟨accepts_of (by decide +kernel), by decide +kernel, takesEdges_of (by decide +kernel),
    accepts_of (by decide +kernel), takesEdges_of (by decide +kernel), by decide +kernel⟩

theorem test_met_SafeSetWrites : accepts running ∧ fadeLaw running ∧
    (after (.safeSet 1 1) running).fades = [] ∧ ((after (.safeSet 1 1) running).slot 0).owned = 0 :=
  ⟨accepts_of (by decide +kernel), by unfold fadeLaw; decide +kernel, by decide +kernel⟩

/-- All three lines have an edge to accept at the next sample. -/
def edges : State :=
  let i : ShowInput := { line := .low, accepted := .high, primed := true, count := 3 }
  listed.modEngine (fun x => { x with
    goInput := i, holdInput := i, callInput := { i with line := .high, accepted := .low, edge := .both } })

theorem test_met_InputSetWrites : accepts State.reset ∧ takesEdges edges ∧
    (inputAny { go := some ⟨0, 2, 16⟩ } = true ∧ optOk settingOk (some ⟨0, 2, 16⟩) = true ∧
      settingOk ⟨1, 0, 4⟩ = true) ∧
    (let i := State.reset.engine.goInput
     i.primed = false ∧ edgeActs i .release = false) ∧
    (let i := { State.reset.engine.goInput with primed := true, accepted := .low }
     i.line ≠ i.accepted ∧ i.count + 1 < i.length ∧ { i with count := 3 }.length ≤ 3 + 1 ∧
     { i with line := .low }.line = i.accepted) ∧
    ((sampleInput edges.engine.holdInput).2 = some .press ∧ (sampleInput edges.engine.goInput).2 = some .press ∧
      (sampleInput edges.engine.callInput).2 = some .release) ∧
    (stopped edges).inReset = false ∧ paused (stopped edges) = true ∧
    ∀ e, edgeActs { State.reset.engine.callInput with enable := false } e = false :=
  ⟨test_accepts_reset, takesEdges_of (by decide +kernel), by decide +kernel, by decide +kernel, by decide +kernel,
    by decide +kernel, by decide +kernel, by decide +kernel, fun _ => rfl⟩

/-- R82: HOLD_N acts before GO_N of the same end, which HOLD turns away. -/
theorem test_edges_holdFirst : (sampleInputs edges).engine.hold = true ∧
    (sampleInputs edges).attention.details.ignored = some .held ∧ (sampleInputs edges).cues.standby = some 5 := by
  decide +kernel

/-- R76 and R82: before a GO_N edge of the end that is due HOLD_N is sampled, whose edge makes it HELD; a HOLD_N edge that comes
after GO_N has been sampled comes after that end. -/
theorem test_goEdge_afterHold :
    let t := after (.goNPress .press) (atEnd edges)
    t.engine.hold = true ∧ t.attention.details.ignored = some .held ∧ t.cues.standby = some 5 ∧ t.ending.sampled = .go ∧
    (after (.holdNPress .press) (after (.goNPress .press) (atEnd listed))).cues.standby = some 10 ∧
    (after (.holdNPress .press) (after (.goNPress .press) (atEnd listed))).ending = {} ∧
    (after (.controlIntervalEnd none (some .low) none) t).engine.holdInput.count = 0 := by decide +kernel

/-- What every clause on ACTION_DUE asks of slot 1 and the action due. -/
def dueHolds (b : ActionBody) (s : State) : Bool :=
  decide (s.inReset = false ∧ s.ending.due = true ∧ paused s = false ∧ s.ending.block = none ∧ s.ending.counted = false ∧
    s.engine.hold = false ∧ (s.slot 0).running = true ∧
    (s.slot 0).actions = [⟨⟨4, b⟩, 1⟩, ⟨⟨9, .trigger 8⟩, 6⟩] ∧
    (∀ j, j ≠ 0 → finished (s.slot j) = false) ∧ (∀ j, j ≠ 0 → (s.slot j).running = false))

/-- The same, the action being covered by no flag. -/
def dueOpen (b : ActionBody) (s : State) : Bool := dueHolds b s && !flagSet s.engine.safes (safeFlag b)

/-- R79 and R85: ACTION_DUE of slot 2 finds the action of slot 1, the older, executed. -/
theorem test_actionDue_olderFirst :
    let t := after (.actionDue 1) twoDue
    t.engine.triggers = [1, 2] ∧ (t.slot 0).running = false ∧ t.ending.counted = false ∧
    (let s := twoDue
     s.inReset = false ∧ s.ending.due = true ∧ paused s = false ∧ s.ending.block = none ∧ s.ending.counted = false ∧
       s.engine.hold = false ∧ (falling 0 s).length = 1 ∧ (falling 1 s).length = 1 ∧ slotAge s 1 < slotAge s 0 ∧
       ∀ i, i ≠ 0 → i ≠ 1 → (s.slot i).running = false) := by decide +kernel

theorem test_met_ActionDueExecutes :
    (let b : ActionBody := .route 0 1#8
     let s := (atEnd (dueIn cast b)).modEngine (fun x => { x with safes := only 16 })
     dueHolds b s = true ∧ flagSet s.engine.safes (safeFlag b) = true) ∧
    (∀ b ∈ [ActionBody.member 0 none, .route 0 1#8, .trigger 255, .member 1 none, .route 1 1#8, .level (.role 1) 0 0,
        .level (.group 2) 99 500, .level (.group 2) 99 0, .call 0], dueOpen b (atEnd (dueIn cast b)) = true) ∧
    (cast.role 0).active = true ∧ (cast.role 1).active = false ∧ cast.available (.role 1) = false ∧
    (cast.preset 0).source = none ∧ cast.available (.group 2) = true ∧ cast.value? (.group 2) = some (-400) ∧
    elemClamp (.group 2) 99 ≠ -400 ∧ cast.fades.length < 128 ∧ cast.engine.triggers.length < 16 ∧
    (let s := (atEnd (dueIn cast (.trigger 255))).modEngine (fun x => { x with triggers := List.replicate 16 9 })
     dueOpen (.trigger 255) s = true ∧ 16 ≤ s.engine.triggers.length) ∧
    (let s := atEnd (dueIn full (.level (.group 2) 99 500))
     dueOpen (.level (.group 2) 99 500) s = true ∧ s.entry? (.group 2) = none ∧ 128 ≤ s.fades.length) ∧
    (let s := atEnd (dueIn calling (.call 0))
     dueOpen (.call 0) s = true ∧ callLives 0 s = true) ∧
    (let s := atEnd (dueIn crammed (.call 10))
     dueOpen (.call 10) s = true ∧ (s.preset 10).source.isSome ∧ callLives 10 s = false ∧ s.relay.active.isSome ∧
       (s.preset 10).priority ≠ .urgent ∧ 8 ≤ s.relay.queue.length ∧
       ∀ d ∈ s.relay.queue, rank (s.preset 10).priority ≤ rank d.priority) ∧
    (let s := atEnd (dueIn presetReady (.call 0))
     dueOpen (.call 0) s = true ∧ (s.preset 0).source.isSome ∧ s.relay.active = none ∧ s.relay.queue = [] ∧
       resolve 0 s ≠ 0#32) := by decide +kernel

/-- Slot 1 has this action due next, behind one that waits. -/
def dueBehind (s : State) (b : ActionBody) : State :=
  atEnd (s.modSlot 0 (fun _ => ⟨true, some 5, 1#32, some .port, 3, [⟨⟨9, .trigger 8⟩, 2⟩, ⟨⟨4, b⟩, 1⟩], 0, 0⟩))

/-- R85: the action due behind a waiting one executes, and the waiting one stays. -/
theorem test_actionDue_behind :
    let s := dueBehind cast (.level (.group 2) 99 500)
    (s.slot 0).actions = [⟨⟨9, .trigger 8⟩, 2⟩] ++ ⟨⟨4, .level (.group 2) 99 500⟩, 1⟩ :: [] ∧
    (∀ j, (s.slot j).running = true → j = 0) ∧
    ((after (.actionDue 0) s).slot 0).actions = [⟨⟨9, .trigger 8⟩, 2⟩] ∧
    (after (.actionDue 0) s).entry? (.group 2) = some ⟨.group 2, .cue 0, -400, 40, 500, 0⟩ := by decide +kernel

/-- R46, R85 and R90: a LEVEL that is its slot's last action takes the last fade of slot 2, which completes; slot 1 runs on. -/
theorem test_actionDue_overtakes :
    let s := { atEnd (cast.modSlot 1 (fun _ => ⟨true, some 7, 2#32, some .port, 3, [], 1, 0⟩)) with
      fades := [⟨.group 2, .cue 1, -400, 0, 100, 9⟩] }
    let s := s.modSlot 0 (fun _ => ⟨true, some 5, 1#32, some .port, 3, [⟨⟨4, .level (.group 2) 99 500⟩, 1⟩], 0, 0⟩)
    let t := after (.actionDue 0) s
    (∀ j, j ≠ 0 → finished (s.slot j) = false) ∧ (t.slot 1).running = false ∧
    t.attention.details.done = some (7, 0) ∧ (t.slot 0).owned = 1 ∧ (t.slot 0).actions = [] := by decide +kernel

/-- No call lives, and preset 1 names no station. -/
def noTarget : State := presetReady.modPreset 0 (fun x => { x with target := .stations 0#32 })

theorem test_met_callActs : (∀ s ∈ [presetReady, noTarget, callingMore, displacing], classesIn s = true) ∧
    (noTarget.preset 0).source.isSome ∧ noTarget.relay.active = none ∧ noTarget.relay.queue = [] ∧
    resolve 0 noTarget = 0#32 ∧
    (∀ x ∈ [(presetReady, 0), (noTarget, 0), (callingMore, 1), (callingMore, 2), (displacing, 10)],
      dueOpen (.call x.2) (atEnd (dueIn x.1 (.call x.2))) = true ∧ classesIn (dueIn x.1 (.call x.2)) = true) ∧
    displacedBy (newCall 10 .cue displacing) (inQueue 13 .routine 47) displacing :=
  ⟨by decide +kernel, by decide +kernel, by decide +kernel, by decide +kernel, by decide +kernel, by decide +kernel,
    by unfold displacedBy; decide +kernel⟩

/-- R90: the last action of a slot that owns no fade completes the cue. -/
theorem test_actionDue_completes :
    let s := (atEnd cast).modSlot 0 (fun _ => ⟨true, some 5, 1#32, some .port, 3, [⟨⟨4, .trigger 9⟩, 1⟩], 0, 2⟩)
    let t := after (.actionDue 0) s
    (t.slot 0).running = false ∧ t.engine.triggers = [9] ∧ t.attention.details.done = some (5, 2) := by decide +kernel

/-! ## Reads and the Role Table -/

theorem test_met_TableReadsAnswer : accepts listed ∧ findCue 5 listed = some (smallCue 5 1) ∧
    listed.available (.group 0) = true ∧ mixed.available (.send 0 (.role 0)) = true ∧
    answer (after (.roleFind 999 7) listed) = some (.ok, [.byte 0]) ∧
    answer (after (.cueList 9999 64) listed) = some (.ok, [.two 2, .two 5, .byte 0, .byte 0]) ∧
    answer (after (.cueList 1 1) listed) = some (.ok, [.two 2, .two 5, .byte 1, .two 5, .byte 1]) :=
  ⟨accepts_of (by decide +kernel), by decide +kernel⟩

theorem test_met_UnitReadsAnswer : accepts linked ∧ 1 ≤ [Point.relay].length ∧
    answer (after (.meterRead [pointAddr .relay]) linked) = some (.ok, [.byte 1, .level (-400)]) ∧
    (List.replicate 64 Point.relay).length ≤ 64 :=
  ⟨accepts_of (by decide +kernel), by decide +kernel⟩

theorem test_met_RoleSetAndChannelSet : accepts cast ∧ (cast.role 0).active = true ∧ (cast.role 63).active = false ∧
    [126, 32].length ≤ 12 ∧ coverOf 2 = some .swing ∧
    channelValuesOk { mute := some 1, group := some 16, buses := some 255 } = true ∧
    opt (indexOpt 16) (some 16) = .ok (some (some 15)) ∧ opt (maskOf 8) (some 255) = .ok (some 255#8) ∧
    (1#64 : BitVec 64) ≠ 0#64 ∧ inSet (1#64) 0 = true ∧ inSet (1#64) 63 = false :=
  ⟨accepts_of (by decide +kernel), by decide +kernel, by decide +kernel, by decide, rfl, by decide +kernel, rfl, rfl,
    by decide, by decide +kernel, by decide +kernel⟩

theorem test_met_RoleModifyAndGroupSet : accepts cast ∧
    roleValuesOk { level := some (-999), cover := some 0, performer := some 999, station := some 0 } = true ∧
    opt (indexOpt 32) (some 0) = .ok (some none) ∧ (∀ r, inSet (1#64) r = true → (cast.role r).active = true) ∧
    optOk (labelOk 12) (some (List.replicate 12 126)) = true :=
  ⟨accepts_of (by decide +kernel), by decide +kernel, rfl, by decide +kernel, by decide +kernel⟩

theorem test_met_RoleRetireVacates : accepts cast ∧ (cast.role 0).active = true ∧ (cast.role 1).active = false :=
  ⟨accepts_of (by decide +kernel), by decide +kernel⟩

/-- Role 6 is ACTIVE with no channel. -/
def uncast : State := crossing.modRole 5 (fun x => { x with active := true })

/-- The fade table is full, and role 1 stands on channel 1. -/
def castFull : State := { full with table := cast.table }

theorem test_met_RoleRebindMoves : accepts crossing ∧ accepts castFull ∧ accepts uncast ∧
    (let r := crossing.role 0
     r.active = true ∧ r.channel = some 0 ∧ r.releasing = none ∧ r.xout = 0 ∧ crossing.entry? (.xout 0) = none ∧
     crossing.entry? (.xin 0) = none ∧ crossing.fades.length + 2 ≤ 128) ∧
    (let b (c : Fin 64) := (crossing.channel c).binding
     b 0 = .current 0 ∧ b 1 = .current 1 ∧ b 2 = .releasing 1 ∧ b 63 = .none) ∧
    (let r := crossing.role 1
     r.active = true ∧ r.releasing = some 2 ∧ r.channel ≠ some 63 ∧ r.channel ≠ none) ∧
    (let r := castFull.role 0
     r.active = true ∧ r.releasing = none ∧ r.channel = some 0 ∧ 128 < castFull.fades.length + 1 ∧
     (castFull.channel 63).binding = .none) ∧
    (uncast.role 5).active = true ∧ (uncast.role 5).channel = none ∧ (uncast.role 5).releasing = none := by
  refine ⟨accepts_of ?_, accepts_of ?_, accepts_of ?_, ?_⟩ <;> decide +kernel

/-- R18 and R20: a rebind of role 2 to none completes its crossfade first and fades XOUT 2 alone. -/
theorem test_rebind_toNone :
    let t := after (.roleRebind 2 0 300) crossing
    answer t = some (.ok, [.byte 1, .byte 1]) ∧ (t.channel 2).binding = .none ∧ (t.channel 1).binding = .releasing 1 ∧
    (t.role 1).channel = none ∧ t.fades = [⟨.xout 1, .system, 0, -400, 300, 0⟩] := by decide +kernel

/-! ## The units -/

/-- R107: 25 sources are FULL in a mix with no entry, since no check of R105 stops a long list before it. -/
theorem test_mixEntrySet_full :
    let items (n : Fin 64) := (List.finRange n.val).map (fun i => EntryItem.mk ⟨2, i.val + 1⟩ 0)
    (after (.mixEntrySet 1 (items 25)) State.reset).port.response = .ready ⟨.full, 33, []⟩ ∧
    (after (.relayEntrySet (items 9)) State.reset).port.response = .ready ⟨.full, 41, []⟩ ∧
    ((after (.mixEntrySet 1 (items 24)) State.reset).mix 0).entries.length = 24 ∧
    (let sources := (List.finRange 24).map (fun i => (Source.channel (Fin.castLE (by decide) i), (0 : Int)))
     (mixed.mix 0).entries.length + newSources 0 sources mixed = 25 ∧ (sources.map (fun i => i.1)).Nodup) ∧
    (let sources := (List.finRange 9).map (fun i => (RelaySource.channel (Fin.castLE (by decide) i), (0 : Int)))
     relayed.relay.entries.length + newRelaySources sources relayed = 9 ∧
       (sources.map (fun i => i.1)).Nodup) := by decide +kernel

theorem test_met_MixEdits : accepts mixed ∧ mixValuesOk { listener := some 1, ceiling := some 9 } = true ∧
    opt (indexOpt 64) (some 1) = .ok (some (some 0)) ∧ listenerOk (some (some 0)) mixed = true ∧
    newSources 0 [(.role 0, 9), (.channel 63, 9)] mixed = 1 ∧ hasEntry 0 (.role 0) mixed = true ∧
    hasEntry 0 (.channel 63) mixed = false ∧ ([Source.role 0, .channel 63].Nodup) :=
  ⟨accepts_of (by decide +kernel), by decide +kernel, rfl, by decide +kernel⟩

/-- Talkback 1 is OFF with a source and mix 1 as its target. -/
def talkReady : State := State.reset.modTalkback 0 (fun x => { x with source := some 59, targets := 1#12, depth := 48 })

/-- Talkback 1 is ON. -/
def talking : State := after (.talkbackOn 1) talkReady

theorem test_met_TalkbackDucks : accepts State.reset ∧ (State.reset.talkback 0).source = none ∧ accepts talkReady ∧
    (∀ j, 0 ≤ (talkReady.talkback j).depth ∧ (talkReady.talkback j).depth ≤ 400) ∧
    (talkReady.talkback 0).source.isSome ∧ (talkReady.talkback 0).on = false ∧ accepts talking ∧
    (∀ j, 0 ≤ (talking.talkback j).depth ∧ (talking.talkback j).depth ≤ 400) ∧ (talking.talkback 0).on = true ∧
    talkbackAny { targets := some 4095 } = true ∧ opt (maskOf 12) (some 4095) = .ok (some 4095#12) ∧
    requiredDepth 0 talking = 48 ∧ requiredDepth 0 talkReady = 0 ∧
    (talkbackAny { source := some 0 } = true ∧ opt (indexOpt 64) (some 0) = .ok (some none) ∧
      answer (after (.talkbackSet 1 { source := some 0 }) talking) = some (.inUse, [])) :=
  ⟨test_accepts_reset, rfl, accepts_of (by decide +kernel), by decide +kernel, by decide +kernel, by decide +kernel,
    accepts_of (by decide +kernel), by decide +kernel, by decide +kernel, by decide +kernel, rfl, by decide +kernel,
    by decide +kernel, by decide +kernel⟩

theorem test_met_RelayEntryEdits : accepts relayed ∧ hasRelayEntry (.channel 3) relayed = true ∧
    hasRelayEntry (.programme 7) relayed = false ∧
    newRelaySources [(.channel 3, 0), (.programme 7, 0)] relayed = 1 ∧ [RelaySource.channel 3, .programme 7].Nodup :=
  ⟨accepts_of (by decide +kernel), by decide +kernel⟩

/-- The relay stands on BACKUP. -/
def backedUp : State := relayed.modRelay (fun x => { x with backup := some 57, selection := .backup })

theorem test_met_RelayRecordsWritten : accepts backedUp ∧ backedUp.relay.selection = .backup ∧
    backedUp.relay.backup.isSome ∧ accepts relayed ∧ relayed.relay.backup = none ∧
    opt (indexOpt 64) (some 0) = .ok (some none) ∧ (1#32 : BitVec 32) ≠ 0#32 ∧
    stationValuesOk { volume := some 5, calls := some 1 } = true ∧ indexOpt 64 64 = .ok (some 63) ∧
    targetOf (.stations 1) = some (.stations 1#32) ∧ targetIndexOk (.stations (2 ^ 32 - 1)) = true ∧
    priorityOf 3 = some .urgent ∧ callLives 0 calling = true ∧ callLives 0 relayed = false :=
  ⟨accepts_of (by decide +kernel), by decide +kernel, by decide +kernel, accepts_of (by decide +kernel),
    by decide +kernel, rfl, by decide, by decide +kernel, rfl, by decide +kernel, by decide +kernel, rfl,
    by decide +kernel, by decide +kernel⟩

theorem test_met_CallsActivate : accepts State.reset ∧ (State.reset.preset 15).source = none ∧ accepts calling ∧
    (calling.preset 0).source.isSome ∧ callLives 0 calling = true ∧ accepts presetReady ∧
    (presetReady.preset 0).source.isSome ∧ presetReady.relay.active = none ∧ presetReady.relay.queue = [] ∧
    resolve 0 presetReady = 0xFFFFFFFF#32 ∧ takesEdges presetReady ∧
    edgeActs presetReady.engine.callInput .press = true ∧
    (let s := presetReady.modPreset 0 (fun x => { x with target := .roles 1#64 })
     (s.preset 0).source.isSome ∧ s.relay.active = none ∧ s.relay.queue = [] ∧ resolve 0 s = 0#32) :=
  ⟨test_accepts_reset, rfl, accepts_of (by decide +kernel), by decide +kernel, by decide +kernel,
    accepts_of (by decide +kernel), by decide +kernel, by decide +kernel, by decide +kernel, by decide +kernel,
    takesEdges_of (by decide +kernel), by decide +kernel⟩

theorem test_met_CallsQueueAndPreempt : accepts callingMore ∧ accepts displacing ∧ accepts crammed ∧
    (callingMore.preset 1).source.isSome ∧
    callLives 1 callingMore = false ∧ callingMore.relay.active = some ⟨⟨0, .line, 1#32, .standard⟩, 1#32, 0, 0⟩ ∧
    (callingMore.preset 1).priority = .standard ∧ callingMore.relay.queue.length < 8 ∧
    (callingMore.preset 2).source.isSome ∧ callLives 2 callingMore = false ∧
    (callingMore.preset 2).priority = .urgent ∧ rank .standard < 3 ∧ resolve 2 callingMore ≠ 0#32 ∧
    (∀ s ∈ [displacing, crammed], (s.preset 10).source.isSome ∧ callLives 10 s = false ∧
      s.relay.active = some ⟨inQueue 1 .standard 39, 1#32, 0, 0⟩ ∧ (s.preset 10).priority ≠ .urgent ∧
      8 ≤ s.relay.queue.length) ∧
    inQueue 13 .routine 47 ∈ displacing.relay.queue ∧ (displacing.preset 10).priority = .standard ∧
    (∀ e ∈ displacing.relay.queue, e ≠ inQueue 13 .routine 47 → rank .routine < rank e.priority ∨
      rank .routine = rank e.priority ∧
        (displacing.relay.arrivals - 47#32).toNat < (displacing.relay.arrivals - e.serial).toNat) ∧
    (∀ d ∈ crammed.relay.queue, rank (crammed.preset 10).priority ≤ rank d.priority) ∧
    answer (after (.callStart 11) crammed) = some (.full, []) :=
  ⟨accepts_of (by decide +kernel), accepts_of (by decide +kernel), accepts_of (by decide +kernel), by decide +kernel⟩

/-- The active call stands one interval before its maximum length. -/
def atLength : State :=
  calling.modRelay (fun x => { x with active := some ⟨⟨0, .line, 1#32, .standard⟩, 1#32, 59999, 0⟩ })

/-- The active call stands one interval before its silence limit. -/
def atSilence : State :=
  (calling.modPreset 0 (fun x => { x with silence := 500 })).modRelay (fun x =>
    { x with active := some ⟨⟨0, .line, 1#32, .standard⟩, 1#32, 700, 499⟩ })

/-- The LINE call waits, for roles that have no station. -/
def lineWaits : State :=
  (callingMore.modPreset 0 (fun x => { x with target := .roles 1#64 })).modRelay (fun x =>
    { x with active := some ⟨⟨1, .port, 1#32, .standard⟩, 1#32, 0, 0⟩, queue := [⟨0, .line, 2#32, .standard⟩] })

theorem test_met_CallsEnd : accepts waiting ∧ callLives 15 waiting = false ∧
    waiting.relay.active = some ⟨⟨0, .line, 1#32, .standard⟩, 1#32, 0, 0⟩ ∧ resolve 1 waiting ≠ 0#32 ∧
    callActive 1 waiting = false ∧ callPending 1 waiting = true ∧ calling.relay.queue = [] ∧
    (takesEdges calling ∧ edgeActs calling.engine.callInput .release = true) ∧
    callLives 0 State.reset = false ∧
    (∀ s ∈ [atEnd atLength, atEnd atSilence], s.inReset = false ∧ s.ending.due = true ∧ paused s = false ∧
      s.ending.block = none ∧ s.ending.called = false) ∧
    (atLength.preset 0).maxLength ≤ 59999 + 1 ∧ 700 + 1 < (atSilence.preset 0).maxLength ∧
    (atSilence.preset 0).silence ≤ 499 + 1 ∧ (atSilence.preset 0).source = some 3 ∧
    atSilence.mixer.peaks.get (pointIndex (.channel 3)) ≤ -240 ∧
    (takePeaks (atEnd atSilence)).mixer.peaks.get (pointIndex (.channel 3)) ≤ -240 ∧
    lineWaits.relay.active = some ⟨⟨1, .port, 1#32, .standard⟩, 1#32, 0, 0⟩ ∧
    lineWaits.relay.queue = [⟨0, .line, 2#32, .standard⟩] ∧ resolve 0 lineWaits = 0#32 ∧
    edgeActs lineWaits.engine.callInput .release = true ∧
    (after (.callEnd 2) lineWaits).attention.details.call = some (0, .noTarget) :=
  ⟨accepts_of (by decide +kernel), by decide +kernel, by decide +kernel, by decide +kernel, by decide +kernel,
    by decide +kernel, by decide +kernel, ⟨takesEdges_of (by decide +kernel), by decide +kernel⟩, by decide +kernel⟩

/-- R82 and R133: after ACTION_DUE the other cue's CALL of the same preset comes before the TIMEOUT, and is skipped too. -/
theorem test_cueEnd_beforeTimeout :
    let slot : Slot := ⟨true, some 5, 1#32, some .port, 3, [⟨⟨4, .call 0⟩, 1⟩], 0, 0⟩
    let s := ((atEnd atLength).modSlot 0 (fun _ => slot)).modSlot 1 (fun _ => slot)
    let t := after (.controlIntervalEnd none none none) (after (.actionDue 0) s)
    t.attention.details.skips = 2 ∧ t.attention.details.call = some (0, .timeout) ∧ t.relay.active = none := by
  decide +kernel

theorem test_met_MonitorSetAndTrip : accepts watching ∧ pointIndexOk ⟨0, 64⟩ = true ∧
    pointOf ⟨0, 64⟩ = some (.channel 63) ∧ windowOf 3 = some .outside ∧ tripActionOf 2 = some .muteChannel ∧
    clampCode (-400) 0 (-999) ≤ clampCode (-400) 0 7 ∧
    (let s := atEnd watching
     s.inReset = false ∧ s.ending.due = true ∧ paused s = false ∧ s.ending.block = none ∧ inSet s.ending.monitors 0 = false ∧
     s.ending.measured = false ∧ monitorTrue (s.monitor 0) (takePeaks s) = true) ∧
    armed (watching.monitor 0) = true ∧ (watching.monitor 0).hold ≤ (watching.monitor 0).count + 1 :=
  ⟨accepts_of (by decide +kernel), by decide +kernel⟩

/-! ## Links -/

/-- LINK_SET of input 1 off, input 2 on and output 4 on. -/
def someLinks : LinkFields :=
  { inputs := (Table.replicate 4 none).set 0 (some 0) |>.set 1 (some 1)
    outputs := (Table.replicate 4 none).set 3 (some 1) }

theorem test_met_LinksSet : accepts linked ∧ linkValuesOk someLinks = true ∧ someLinks.inputs.get 0 = some 0 ∧
    (linked.receiver 0).enable = true ∧ ((ramping 5).entry? (.link 0)).isSome ∧
    (after (.linkSet someLinks) (ramping 5)).entry? (.link 0) = none ∧ someLinks.inputs.get 1 = some 1 ∧
    someLinks.inputs.get 2 = none ∧
    (State.reset.receiver 0).enable = false ∧
    [((3 : Fin 4), (15 : Fin 16), SlotSource.trigger), (0, 0, .relay)].length ≤ 64 ∧
    ([((3 : Fin 4), (15 : Fin 16)), (0, 0)].Nodup) ∧
    ((List.finRange 4).flatMap (fun n => (List.finRange 16).map (fun k => (n, k)))).Nodup :=
  ⟨accepts_of (by decide +kernel), by decide +kernel⟩

/-- Link 1 is locked and has bridged four frames. -/
def bridged : State := linked.modReceiver 0 (fun x => { x with state := .locked, missed := 4 })

theorem test_met_LinksReceive : linked.inReset = false ∧ linked.ending.begun = false ∧ bridged.inReset = false ∧
    bridged.ending.begun = false ∧ paused bridged = false ∧
    (linked.receiver 0).enable = true ∧
    (linked.receiver 0).receiving = true ∧ (linked.receiver 0).state = .waitSync ∧ (linked.receiver 0).ramp ≠ 0 ∧
    linked.entry? (.link 0) = none ∧ linked.fades.length < 128 ∧ (bridged.receiver 0).state = .locked ∧
    (bridged.receiver 0).newest = none ∧ (bridged.receiver 0).missed = 4 := by decide +kernel

/-- A SLAVE on its internal source, WCK present, with a return waiting. -/
def slaved : State :=
  State.reset.modClock (fun x => { x with role := .slave, wckAge := 2, returnWaiting := true })

/-- A SLAVE on WCK. -/
def onWck : State := State.reset.modClock (fun x => { x with role := .slave, source := .wck, wckAge := 0 })

/-- R147 and R150: the third frame period without an edge makes WCK absent and abandons the return; an edge takes it. -/
theorem test_frame_wck :
    (after (.frame false) slaved).attention.flags.getLsbD 3 = true ∧
    (after (.frame false) slaved).links.clock.returnWaiting = false ∧
    answer (after .clockReturn (after (.frame false) slaved)) = some (.invalid, []) ∧
    (after (.frame true) slaved).links.clock.source = .wck := by decide +kernel

/-- Output 1 waits to be enabled with a trigger slot. -/
def outputWaits : State :=
  State.reset.modOutput 3 (fun x =>
    { x with waitingEnable := some true, waitingSlots := x.waitingSlots.set 15 (some .trigger) })

theorem test_met_OutputFramesAndClock :
    ((after (.outputLinkFrame 3) outputWaits).output 3).enable = true ∧
    ((after (.outputLinkFrame 3) outputWaits).output 3).slots.get 15 = .trigger ∧
    ((after (.outputLinkFrame 0) State.reset).output 0).enable = false ∧
    accepts State.reset ∧ State.reset.links.clock.role = .master ∧ accepts slaved ∧
    slaved.links.clock.role = .slave ∧ slaved.links.clock.source = .internal ∧
    slaved.links.clock.returnWaiting = true ∧ accepts onWck ∧ onWck.links.clock.source = .wck ∧
    onWck.links.clock.monitor = true ∧ onWck.inReset = false ∧ slaved.links.clock.wckAge < 3 ∧
    State.reset.resets.procedure = none ∧
    (outputWaits.ending.begun = false ∧ onWck.ending.begun = false ∧ (stopped State.reset).ending.begun = false ∧
      slaved.ending.begun = false ∧ paused State.reset = false ∧ paused outputWaits = false ∧ outputWaits.inReset = false ∧
      paused (stopped State.reset) = true ∧ (stopped State.reset).inReset = false ∧
      (resetting .pin false none).inReset = true ∧
      (onWck.modClock (fun x => { x with monitor := false })).links.clock.monitor = false ∧
      linkClocks State.reset = .running ∧ linkClocks (stopped State.reset) = .stopped) :=
  ⟨by decide +kernel, by decide +kernel, by decide +kernel, test_accepts_reset, rfl, accepts_of (by decide +kernel), rfl, rfl,
    rfl, accepts_of (by decide +kernel), rfl, rfl, rfl, by decide +kernel, rfl, by decide +kernel⟩

/-! ## Ill-formed commands: one for each check -/

theorem test_fits_refuses : fits 1 256 = false ∧ fits 2 65536 = false ∧ fits 3 16777216 = false ∧
    fits 4 4294967296 = false ∧ fits 8 (2 ^ 64) = false ∧ fits 16 (2 ^ 128) = false ∧ levelFits 32768 = false ∧
    levelFits (-32769) = false ∧ labelFits [256] = false ∧ labelFits (List.replicate 256 65) = false ∧
    listFits (fits 1) [0, 256] = false ∧ optFits (fits 1) (some 256) = false := by decide +kernel

theorem test_fields_refuse :
    ElemAddr.fits ⟨256, 0, 0, 0⟩ = false ∧ ElemAddr.fits ⟨0, 256, 0, 0⟩ = false ∧ ElemAddr.fits ⟨0, 0, 256, 0⟩ = false ∧
    ElemAddr.fits ⟨0, 0, 0, 256⟩ = false ∧ SrcAddr.fits ⟨256, 0⟩ = false ∧ SrcAddr.fits ⟨0, 256⟩ = false ∧
    PointAddr.fits ⟨256, 0⟩ = false ∧ PointAddr.fits ⟨0, 256⟩ = false ∧
    RoleFields.fits { label := some [256] } = false ∧ RoleFields.fits { performer := some 65536 } = false ∧
    RoleFields.fits { cover := some 256 } = false ∧ RoleFields.fits { group := some 256 } = false ∧
    RoleFields.fits { level := some 40000 } = false ∧ RoleFields.fits { buses := some 256 } = false ∧
    RoleFields.fits { station := some 256 } = false ∧
    ChannelFields.fits { trim := some 40000 } = false ∧ ChannelFields.fits { polarity := some 256 } = false ∧
    ChannelFields.fits { mute := some 256 } = false ∧ ChannelFields.fits { buses := some 256 } = false ∧
    ChannelFields.fits { level := some 40000 } = false ∧ ChannelFields.fits { group := some 256 } = false ∧
    GroupFields.fits { level := some 40000 } = false ∧ GroupFields.fits { label := some [256] } = false ∧
    LevelItem.fits ⟨⟨256, 0, 0, 0⟩, 0, 0⟩ = false ∧ LevelItem.fits ⟨⟨0, 0, 0, 0⟩, 40000, 0⟩ = false ∧
    LevelItem.fits ⟨⟨0, 0, 0, 0⟩, 0, 16777216⟩ = false := by decide +kernel

theorem test_forms_refuse :
    FadeForm.fits (.element ⟨256, 0, 0, 0⟩) = false ∧ FadeForm.fits (.owner 256) = false ∧
    FadeForm.fits (.unknown 2) = false ∧ FadeForm.fits (.unknown 256) = false ∧
    RawBody.fits (.level ⟨256, 0, 0, 0⟩ 0 0) = false ∧ RawBody.fits (.level ⟨0, 0, 0, 0⟩ 40000 0) = false ∧
    RawBody.fits (.level ⟨0, 0, 0, 0⟩ 0 16777216) = false ∧ RawBody.fits (.member 256 0) = false ∧
    RawBody.fits (.member 0 256) = false ∧ RawBody.fits (.route 256 0) = false ∧ RawBody.fits (.route 0 256) = false ∧
    RawBody.fits (.call 256) = false ∧ RawBody.fits (.trigger 256) = false ∧ RawBody.fits (.unknown 4) = false ∧
    RawBody.fits (.unknown 256) = false ∧ RawAction.fits ⟨16777216, .call 0⟩ = false ∧
    RawAction.fits ⟨0, .call 256⟩ = false ∧ RawCue.fits ⟨65536, [], 0, 0, []⟩ = false ∧
    RawCue.fits ⟨0, [256], 0, 0, []⟩ = false ∧ RawCue.fits ⟨0, [], 256, 0, []⟩ = false ∧
    RawCue.fits ⟨0, [], 0, 16777216, []⟩ = false ∧ RawCue.fits ⟨0, [], 0, 0, [⟨0, .call 256⟩]⟩ = false ∧
    InputSetting.fits ⟨256, 0, 0⟩ = false ∧ InputSetting.fits ⟨0, 256, 0⟩ = false ∧
    InputSetting.fits ⟨0, 0, 256⟩ = false ∧ InputFields.fits { go := some ⟨256, 0, 0⟩ } = false ∧
    InputFields.fits { hold := some ⟨256, 0, 0⟩ } = false ∧ InputFields.fits { call := some ⟨256, 0, 0⟩ } = false ∧
    RemoveForm.fits (.one ⟨256, 0⟩) = false ∧ RemoveForm.fits (.unknown 1) = false ∧
    RemoveForm.fits (.unknown 256) = false ∧ RawTarget.fits (.stations (2 ^ 32)) = false ∧
    RawTarget.fits (.roles (2 ^ 64)) = false ∧ RawTarget.fits (.unknown 2) = false ∧
    RawTarget.fits (.unknown 256) = false := by decide +kernel

theorem test_records_refuse :
    MixFields.fits { label := some [256] } = false ∧ MixFields.fits { listener := some 256 } = false ∧
    MixFields.fits { master := some 40000 } = false ∧ MixFields.fits { ceiling := some 40000 } = false ∧
    EntryItem.fits ⟨⟨256, 0⟩, 0⟩ = false ∧ EntryItem.fits ⟨⟨0, 0⟩, 40000⟩ = false ∧
    TalkbackFields.fits { source := some 256 } = false ∧ TalkbackFields.fits { targets := some 65536 } = false ∧
    TalkbackFields.fits { level := some 40000 } = false ∧ TalkbackFields.fits { depth := some 40000 } = false ∧
    RelayFields.fits { channel := some 256 } = false ∧ RelayFields.fits { level := some 40000 } = false ∧
    StationFields.fits { label := some [256] } = false ∧ StationFields.fits { volume := some 40000 } = false ∧
    StationFields.fits { programme := some 256 } = false ∧ StationFields.fits { calls := some 256 } = false ∧
    RawPreset.fits ⟨256, .all, 1, 0, 0, 0, 0⟩ = false ∧ RawPreset.fits ⟨0, .unknown 0, 1, 0, 0, 0, 0⟩ = false ∧
    RawPreset.fits ⟨0, .all, 256, 0, 0, 0, 0⟩ = false ∧ RawPreset.fits ⟨0, .all, 1, 40000, 0, 0, 0⟩ = false ∧
    RawPreset.fits ⟨0, .all, 1, 0, 40000, 0, 0⟩ = false ∧ RawPreset.fits ⟨0, .all, 1, 0, 0, 16777216, 0⟩ = false ∧
    RawPreset.fits ⟨0, .all, 1, 0, 0, 0, 16777216⟩ = false ∧
    RawMonitor.fits ⟨256, ⟨0, 0⟩, 0, 0, 0, 0, 0⟩ = false ∧ RawMonitor.fits ⟨0, ⟨256, 0⟩, 0, 0, 0, 0, 0⟩ = false ∧
    RawMonitor.fits ⟨0, ⟨0, 0⟩, 40000, 0, 0, 0, 0⟩ = false ∧ RawMonitor.fits ⟨0, ⟨0, 0⟩, 0, 40000, 0, 0, 0⟩ = false ∧
    RawMonitor.fits ⟨0, ⟨0, 0⟩, 0, 0, 256, 0, 0⟩ = false ∧ RawMonitor.fits ⟨0, ⟨0, 0⟩, 0, 0, 0, 16777216, 0⟩ = false ∧
    RawMonitor.fits ⟨0, ⟨0, 0⟩, 0, 0, 0, 0, 256⟩ = false ∧
    LinkFields.fits { inputs := Table.replicate 4 (some 256) } = false ∧
    LinkFields.fits { outputs := Table.replicate 4 (some 256) } = false ∧
    LinkFields.fits { monitor := some 256 } = false ∧ SlotItem.fits ⟨256, 0, 0⟩ = false ∧
    SlotItem.fits ⟨0, 256, 0⟩ = false ∧ SlotItem.fits ⟨0, 0, 256⟩ = false := by decide +kernel

theorem test_commands_refuse :
    ([.attentionClear 65536, .attentionEnable 65536, .roleRead 256, .channelRead 256, .groupRead 256,
      .roleFind 65536 0, .roleFind 0 256, .roleSet 256 [] 0 0, .roleSet 0 [256] 0 0, .roleSet 0 [] 65536 0,
      .roleSet 0 [] 0 256, .roleModify (2 ^ 64) {}, .roleModify 1 { cover := some 256 }, .channelSet (2 ^ 64) {},
      .channelSet 1 { mute := some 256 }, .groupSet 256 {}, .groupSet 1 { label := some [256] }, .roleRetire 256,
      .roleRebind 256 0 0, .roleRebind 0 256 0, .roleRebind 0 0 16777216, .levelSet [⟨⟨256, 0, 0, 0⟩, 0, 0⟩],
      .fadeRead (.owner 256), .cueStore ⟨65536, [], 0, 0, []⟩, .cueDelete 65536 0, .cueDelete 0 65536, .cueRead 65536,
      .cueList 65536 0, .cueList 0 256, .standbySet 65536, .safeSet (2 ^ 128) 0, .safeSet 0 (2 ^ 128),
      .inputSet { go := some ⟨256, 0, 0⟩ }, .runningRead 256] : List Instr).all (fun c => !c.wellFormed) = true ∧
    ([.mixSet 256 {}, .mixSet 1 { listener := some 256 }, .mixEntrySet 256 [], .mixEntrySet 1 [⟨⟨256, 0⟩, 0⟩],
      .mixEntryRemove 256 .all, .mixEntryRemove 1 (.unknown 1), .mixRead 256, .mixFind 256, .talkbackSet 256 {},
      .talkbackSet 1 { targets := some 65536 }, .talkbackOn 256, .talkbackOff 256, .relayEntrySet [⟨⟨256, 0⟩, 0⟩],
      .relayEntryRemove (.unknown 1), .relaySet { channel := some 256 }, .relaySelect 256, .stationSet (2 ^ 32) {},
      .stationSet 1 { calls := some 256 }, .stationRead 256, .presetSet 256 ⟨0, .all, 1, 0, 0, 0, 0⟩,
      .presetSet 1 ⟨256, .all, 1, 0, 0, 0, 0⟩, .presetRead 256, .callStart 256, .callEnd 256,
      .monitorSet 256 ⟨0, ⟨0, 0⟩, 0, 0, 0, 0, 0⟩, .monitorSet 1 ⟨256, ⟨0, 0⟩, 0, 0, 0, 0, 0⟩, .monitorRead 256,
      .meterRead [⟨256, 0⟩], .linkSet { monitor := some 256 }, .slotMapSet [⟨256, 0, 0⟩], .linkRead 256] :
      List Instr).all (fun c => !c.wellFormed) = true := by decide +kernel

theorem test_wellFormed_accepts :
    ([.roleSet 255 [255] 65535 255, .cueStore ⟨65535, [65], 255, 16777215, [⟨16777215, .level ⟨255, 255, 255, 255⟩ (-32768)
      16777215⟩]⟩, .safeSet (2 ^ 128 - 1) 0, .presetSet 255 ⟨255, .roles (2 ^ 64 - 1), 255, 32767, 0, 0, 0⟩,
      .transaction [] 7, .frame true] : List Instr).all (fun c => c.wellFormed) = true := by decide +kernel

/-! ## Frames written out byte by byte from R164 -/

theorem test_frame_go : classifyFrame [25, 0, 0] 0 = .request 25 .go := by decide +kernel

/-- ROLE_MODIFY of roles 1 and 64: cover UNDERSTUDY (bit 2) and level −3.00 dB, code −12 (bit 4). -/
theorem test_frame_roleModify : classifyFrame [13, 0, 12, 0x80, 0, 0, 0, 0, 0, 0, 0x01, 0x14, 1, 0xFF, 0xF4] 0 =
    .request 13 (.roleModify 0x8000000000000001 { cover := some 1, level := some (-12) }) := by decide +kernel

/-- ROLE_REBIND of role 3 to channel 22 over 400 ms (1.10). -/
theorem test_frame_roleRebind : classifyFrame [17, 0, 5, 3, 22, 0, 1, 0x90] 0 = .request 17 (.roleRebind 3 22 400) := by
  decide +kernel

/-- LEVEL_SET of STATION 5 to code −80 over 400 ms (3.9). -/
theorem test_frame_levelSet : classifyFrame [18, 0, 10, 1, 5, 5, 0, 0, 0xFF, 0xB0, 0, 1, 0x90] 0 =
    .request 18 (.levelSet [⟨⟨5, 5, 0, 0⟩, -80, 400⟩]) := by decide +kernel

/-- CUE_STORE of cue 2.5 (25), label A, FOLLOW after 4 ms, with ROUTE and CALL actions. -/
theorem test_frame_cueStore :
    classifyFrame [20, 0, 20, 0, 25, 1, 65, 1, 0, 0, 4, 2, 2, 0, 0, 1, 3, 255, 3, 0, 0, 0, 6] 0 =
      .request 20 (.cueStore ⟨25, [65], 1, 4, [⟨1, .route 3 255⟩, ⟨0, .call 6⟩]⟩) := by decide +kernel

/-- MIX_ENTRY_REMOVE of the entry ROLE 3 of mix 2, and of all. -/
theorem test_frame_mixEntryRemove :
    classifyFrame [34, 0, 4, 2, 0, 1, 3] 0 = .request 34 (.mixEntryRemove 2 (.one ⟨1, 3⟩)) ∧
    classifyFrame [34, 0, 2, 2, 1] 0 = .request 34 (.mixEntryRemove 2 .all) := by decide +kernel

/-- PRESET_SET of preset 4: channel 62, ALL, URGENT, gain +8, depth 80, 60,000 ms, no silence limit. -/
theorem test_frame_presetSet :
    classifyFrame [48, 0, 14, 4, 62, 2, 3, 0, 8, 0, 80, 0, 0xEA, 0x60, 0, 0, 0] 0 =
      .request 48 (.presetSet 4 ⟨62, .all, 3, 8, 80, 60000, 0⟩) := by decide +kernel

/-- MONITOR_SET of monitor 3 (8.8). -/
theorem test_frame_monitorSet :
    classifyFrame [53, 0, 13, 3, 1, 0, 21, 0xFE, 0xD4, 0, 0, 1, 0, 7, 0xD0, 0] 0 =
      .request 53 (.monitorSet 3 ⟨1, ⟨0, 21⟩, -300, 0, 1, 2000, 0⟩) := by decide +kernel

/-- LINK_SET of IN1 on, OUT4 off and the clock monitor on. -/
theorem test_frame_linkSet : classifyFrame [56, 0, 5, 0x01, 0x81, 1, 0, 1] 0 =
    .request 56 (.linkSet
      { inputs := (Table.replicate 4 none).set 0 (some 1), outputs := (Table.replicate 4 none).set 3 (some 0),
        monitor := some 1 }) := by decide +kernel

/-- A transaction begun while GO executes shifts out a NOT_READY header with code 25 (10.4). -/
theorem test_notReady_header : responseBytes (shownResponse (.executing 25 .go)) = [1, 25, 0, 0] := by decide +kernel

/-! ## Figures worked in the spec -/

/-- 2.7, 2.8, 2.9. -/
theorem test_gain : gain (-24) = 2102132 ∧ gain 0 = 4194304 ∧ gain (-120) = 132636 ∧ gain 8 = 5280316 ∧
    gain 48 = 16697825 ∧ gain (-400) = 0 := by decide +kernel

/-- 2.7: bus P1. -/
theorem test_mixDown_P1 : mixDown [⟨1000000, -24⟩, ⟨-500000, 0⟩] = 1187 ∧ mixDown [⟨1000000, -400⟩, ⟨-500000, 0⟩] = -500000 := by
  decide +kernel

/-- 2.8: stations S5 and S9. -/
theorem test_mixDown_stations : mixDown [⟨2000000, -120⟩, ⟨-300000, 8⟩] = -314432 ∧
    mixDown [⟨2000000, -400⟩, ⟨-300000, 8⟩] = -377678 := by decide +kernel

/-- 2.9: bus P4. -/
theorem test_mixDown_saturates : mixDown [⟨8000000, 48⟩, ⟨8000000, 48⟩] = 8388607 ∧
    mixDown [⟨8000000, 48⟩, ⟨-8000000, 48⟩] = 0 ∧ mixDown [⟨-8000000, 48⟩, ⟨-8000000, 48⟩] = -8388608 := by
  decide +kernel

/-- 2.8: the terms of F3, S9 and S12. -/
theorem test_effective : effective false [8, 0, 4, 0, -8] [12, 24] = -32 ∧
    effective false [0, -100, -16, -8] [12, 24] = -160 ∧ effective true [0, 0, 0, -8] [12, 24] = -400 ∧
    effective false [80, 0, 40, -8] [12, 24] = 48 ∧ effective false [20, 0, 12] [12] = 20 ∧
    effective false [-360] [80] = -400 ∧ effective false [-400] [80] = -400 := by decide +kernel

/-- 2.10. -/
theorem test_peakCode : peakCode 0 = -400 ∧ peakCode 85 = -400 ∧ peakCode 86 = -399 ∧ peakCode 8388 = -241 ∧
    peakCode 8389 = -240 ∧ peakCode 8633 = -240 ∧ peakCode 8634 = -239 ∧ peakCode 1048576 = -73 ∧
    peakCode 4204262 = -25 ∧ peakCode 4204263 = -24 := by decide +kernel

/-- 0.5.1: channel 40 is slot 8 of IN3. -/
theorem test_linkOf : linkOf 39 = 2 ∧ slotOf 39 = 7 := by decide +kernel

/-- 3.9 and 1.10. -/
theorem test_interp : interp (.group 2) (-40) 8 600 1500 = -21 ∧ interp (.role 4) (-400) (-20) 600 2000 = -118 ∧
    interp (.group 2) (-21) (-400) 200 800 = -55 ∧ interp (.group 2) (-21) (-400) 799 800 = -159 ∧
    interp (.xin 2) (-400) 0 1 400 = -160 ∧ interp (.xout 2) 0 (-400) 100 400 = -40 ∧
    interp (.tbDuck 3) 48 24 100 200 = 36 := by decide +kernel

/-- 6.6. -/
theorem test_limiterStep : limiterStep (-24) (-30) 0 = 0 ∧ limiterStep (-24) (-24) 8 = 12 ∧
    limiterStep (-24) (-25) 12 = 12 ∧ limiterStep (-24) (-48) 12 = 12 ∧ limiterStep (-24) (-49) 12 = 11 ∧
    limiterStep (-24) 0 96 = 96 ∧ limiterStep (-24) (-400) 0 = 0 := by decide +kernel

/-- Mix 2 stands at its ceiling over the interval and mix 1 is limited already: mix 2 alone joins the set (R114). -/
theorem test_limiter_raised :
    let s := atEnd { mixed with mixer := { mixed.mixer with largest := mixed.mixer.largest.set (pointIndex (.mix 1)) 4204263 } }
    let t := after (.controlIntervalEnd none none none) s
    (s.mix 1).protect = 0 ∧ (t.mix 1).protect = 4 ∧ s.attention.details.limiter = 0#12 ∧
    t.attention.details.limiter = 2#12 ∧ t.attention.flags.getLsbD 13 = true := by decide +kernel

/-- 1.12: a rebind of 300 ms finds one place free of the two it needs. -/
theorem test_rebind_fullTable :
    let s := { full with fades := full.fades.tail }
    let t := after (.roleRebind 1 10 300) { s with table := cast.table }
    answer t = some (.ok, [.byte 0, .byte 0]) ∧ (t.role 0).channel = some 9 ∧ (t.channel 0).binding = .none ∧
    t.fades.length = 127 - 1 ∧ t.attention.details.snaps = 2 := by decide +kernel

/-- 7.10: CALL_START 11. -/
theorem test_callStart_displaces :
    let t := after (.callStart 11) displacing
    answer t = some (.ok, [.four 48, .byte 1, .byte 3, .byte 14]) ∧
    t.relay.queue.map (fun c => num c.preset) = [5, 6, 11, 3, 8, 10, 12, 13] ∧
    t.attention.details.call = some (13, .displaced) := by decide +kernel

/-- 7.10: CALL_START 16. -/
theorem test_callStart_preempts :
    let t := after (.callStart 16) (after (.callStart 11) displacing)
    answer t = some (.ok, [.four 49, .byte 0, .byte 2]) ∧
    t.relay.queue.map (fun c => num c.preset) = [5, 6, 11, 3, 8, 10, 12, 13] ∧
    t.attention.details.call = some (1, .preempted) := by decide +kernel

/-- 4.8.1: CUE_DELETE 2.5 to 2.5 with cue 2.5 in standby. -/
theorem test_cueDelete_standby :
    let s := { State.reset with cues := ⟨[10, 20, 25, 30, 50].map (smallCue · 1), some 25⟩ }
    answer (after (.cueDelete 25 25) s) = some (.ok, [.two 1, .two 4, .two 30]) ∧
    answer (after (.cueDelete 31 49) s) = some (.notFound, []) ∧
    answer (after (.cueStore (rawCue 0)) s) = some (.badIndex, []) ∧
    answer (after (.cueStore (rawCue 26)) s) = some (.ok, [.byte 0, .two 6, .two 25]) := by decide +kernel

/-- 6.5: TALKBACK_ON asks for a duck of 48 over 50 ms. -/
theorem test_talkbackOn_ducks :
    talking.entry? (.tbDuck 0) = some ⟨.tbDuck 0, .system, 0, 48, 50, 0⟩ ∧ talking.entry? (.tbDuck 1) = none := by
  decide +kernel

/-- 3.9: the host writes the one fade of a cue with nothing pending, and the cue is done. -/
theorem test_levelSet_completesCue :
    let s := running.modSlot 0 (fun x => { x with actions := [] })
    let t := after (.levelSet [⟨⟨0, 1, 0, 0⟩, -30, 0⟩]) s
    (t.group 0).level = -30 ∧ t.fades = [] ∧ (t.slot 0).running = false ∧
    t.attention.details.done = some (5, 0) := by decide +kernel

/-- R158: a trigger slot takes the oldest code in its auxiliary byte. -/
theorem test_triggerSlot :
    let t := after (.outputLinkFrame 3) (outputWaits.modEngine (fun x => { x with triggers := [17, 200] }))
    (t.output 3).sent.get 15 = some 17#32 ∧ (t.output 3).sent.get 0 = none ∧ t.engine.triggers = [200] := by
  decide +kernel

/-- R165: a slot word carries its sample in bits 31 to 8. -/
theorem test_wordSample : wordSample 0x80000001#32 = -8388608 ∧ wordSample 0x7FFFFFFF#32 = 8388607 ∧
    slotWord (-1) 0 = 0xFFFFFF00#32 := by decide +kernel

end Sys2Proof.Tests
end

section
/-! STANDBY_SET and the follow compare (R72, R95): what the request answers, and which cue the compare fires. -/

namespace Sys2Proof.Machine

/-! ## What the follow compare and its GO read -/

/-- The records that decide whether the follow compare fires, and which cue (R71, R80, R94, R95). -/
structure FollowView where
  cues : CueList
  timer : Nat
  follow : Option Nat
  hold : Bool

/-- These records in a state. -/
def followView (s : State) : FollowView := ⟨s.cues, s.engine.timer, s.engine.follow, s.engine.hold⟩

theorem followView_eq_iff {s t : State} :
    followView s = followView t ↔
      s.cues = t.cues ∧ s.engine.timer = t.engine.timer ∧ s.engine.follow = t.engine.follow ∧
        s.engine.hold = t.engine.hold := by
  simp [followView]

/-- The standby cue is found in these records. -/
theorem standbyCue_of_followView {s t : State} (h : followView s = followView t) : standbyCue s = standbyCue t := by
  obtain ⟨hcues, -⟩ := followView_eq_iff.1 h
  simp only [standbyCue, findCue, hcues]

/-! ### No call changes them -/

@[simp] theorem followView_fadeRequest (el : Element) (z : Int) (d : Nat) (o : FadeOwner) (s : State) :
    followView (fadeRequest el z d o s).2 = followView s := by
  simp [followView]

@[simp] theorem followView_raise (s : State) (c : Condition) (f : Details → Details) :
    followView (s.raise c f) = followView s := rfl

@[simp] theorem followView_raiseCallChange (p : Fin 16) (why : EndReason) (s : State) :
    followView (raiseCallChange p why s) = followView s := rfl

@[simp] theorem followView_modRelay (s : State) (f : Relay → Relay) : followView (s.modRelay f) = followView s := rfl

@[simp] theorem followView_countArrival (s : State) : followView (countArrival s) = followView s := rfl

theorem followView_handoverStation (o n : BitVec 32) (depth : Int) (s : State) (st : Fin 32) :
    followView (handoverStation o n depth s st) = followView s := by
  rcases handoverStation_cases o n depth s st with ⟨-, h⟩ | ⟨-, -, h⟩ | ⟨-, -, h⟩ <;> rw [h]
  · exact followView_fadeRequest ..
  · exact followView_fadeRequest ..

@[simp] theorem followView_handover (o n : BitVec 32) (depth : Int) (s : State) :
    followView (handover o n depth s) = followView s :=
  foldl_keeps followView (followView_handoverStation o n depth) _ s

@[simp] theorem followView_advance (o : BitVec 32) (calls : List Call) (s : State) :
    followView (advance o calls s) = followView s := by
  unfold advance
  simp only [followView_handover, followView_modRelay]
  exact foldl_keeps followView (fun s p => followView_raiseCallChange p .noTarget s) _ s

theorem followView_joinQueue {c : Call} {s t : State} {other : Option (Fin 16)}
    (h : joinQueue c s = some (t, other)) : followView t = followView s := by
  unfold joinQueue at h
  split at h
  · cases h; rfl
  · split at h
    · cases h
    · split at h <;> cases h
      rfl

@[simp] theorem followView_callRequest (p : Fin 16) (o : Origin) (s : State) :
    followView (callRequest p o s).2 = followView s := by
  unfold callRequest
  split
  · rfl
  split
  · rfl
  dsimp only
  split
  · simp
  split
  · simp
  split
  · rfl
  · rename_i hjoin
    simp [followView_joinQueue hjoin]

/-! ### No action of a cue changes them, so stage 1 of an interval end does not (R85 to R90) -/

@[simp] theorem followView_modSlot (s : State) (k : Fin 8) (f : Slot → Slot) :
    followView (s.modSlot k f) = followView s := rfl

@[simp] theorem followView_skipAction (k : Fin 8) (s : State) : followView (skipAction k s) = followView s := rfl

@[simp] theorem followView_settle (k : Fin 8) (s : State) : followView (settle k s) = followView s := by
  simp [followView]

@[simp] theorem followView_settleOthers (k : Fin 8) (s : State) : followView (settleOthers k s) = followView s := by
  simp [followView]

theorem followView_pushTrigger (code : Nat) (s : State) : followView (pushTrigger code s) = followView s := by
  unfold pushTrigger
  split <;> rfl

theorem followView_actOn (k : Fin 8) (forced : Bool) (b : ActionBody) (s : State) :
    followView (actOn k forced b s) = followView s := by
  cases b with
  | level el target time => simp only [actOn]; split <;> simp
  | member r g => simp only [actOn]; split <;> rfl
  | route r buses => simp only [actOn]; split <;> rfl
  | call p => simp only [actOn]; split <;> simp
  | trigger code => exact followView_pushTrigger code s

@[simp] theorem followView_execAction (k : Fin 8) (forced : Bool) (a : Action) (s : State) :
    followView (execAction k forced a s) = followView s := by
  rcases execAction_cases k forced a s with ⟨-, h⟩ | ⟨-, h⟩ <;> rw [h]
  exact followView_actOn ..

@[simp] theorem followView_runDue (k : Fin 8) (s : State) : followView (runDue k s) = followView s :=
  foldl_keeps followView (fun s p => by simp [dropDue]) _ s

theorem followView_slotEnd (s : State) (k : Fin 8) : followView (slotEnd s k) = followView s := by
  unfold slotEnd
  split
  · simp [countSlot]
  · rfl

@[simp] theorem followView_countSlots (s : State) : followView (countSlots s) = followView s := by
  unfold countSlots
  split
  · rfl
  · exact foldl_keeps followView followView_slotEnd _ s

/-! ## The cue that a GO and the follow compare fire -/

/-- A completion raises CUE_DONE, which leaves the detail of CUE_FIRED (R90, R166). -/
@[simp] theorem settle_fired (k : Fin 8) (s : State) :
    (settle k s).attention.details.fired = s.attention.details.fired := by
  rcases settle_cases k s with ⟨-, h⟩ | ⟨-, h⟩ <;> rw [h]
  rfl

/-- A fired GO reports its cue, whatever its actions do (R81). -/
theorem fireGo_fired (src : GoSource) (cue : Cue) (s : State) :
    (fireGo src cue s).2.attention.details.fired = some cue.number := by
  simp only [fireGo, settle_fired]
  rfl

theorem goUnasked_fired {cue : Cue} {s : State} (src : GoSource) (hold : s.engine.hold = false)
    (standby : standbyCue s = some cue) : (goUnasked src s).attention.details.fired = some cue.number := by
  have fires : goEvent src s = .ok (fireGo src cue s) := by simp [goEvent, hold, standby]
  simp only [goUnasked, fires, fireGo_fired]

theorem followReached_some {time timer : Nat} (h : max time 1 ≤ timer) : followReached (some time) timer = true := by
  simpa [followReached] using h

/-- Stage 2 fires the standby cue where the timer reaches the armed time (R94, R95). -/
theorem countTimer_fired {time : Nat} {cue : Cue} {s : State} (hold : s.engine.hold = false)
    (armed : s.engine.follow = some time) (reached : max time 1 ≤ s.engine.timer + 1)
    (below : s.engine.timer < Config.timerTop) (standby : standbyCue s = some cue) :
    (countTimer s).attention.details.fired = some cue.number := by
  have counts : min (s.engine.timer + 1) Config.timerTop = s.engine.timer + 1 := Nat.min_eq_left below
  simp only [countTimer, hold, modEngine_engine, armed, counts, followReached_some reached, if_true, Bool.false_eq_true,
    if_false]
  exact goUnasked_fired .follow hold standby

theorem takeCounts_fired {time : Nat} {cue : Cue} {s : State} (hold : s.engine.hold = false)
    (armed : s.engine.follow = some time) (reached : max time 1 ≤ s.engine.timer + 1)
    (below : s.engine.timer < Config.timerTop) (standby : standbyCue s = some cue) :
    (takeCounts s).attention.details.fired = some cue.number := by
  have view := followView_countSlots s
  obtain ⟨-, htimer, hfollow, hhold⟩ := followView_eq_iff.1 view
  exact countTimer_fired (hhold.trans hold) (hfollow.trans armed) (by rwa [htimer]) (by rwa [htimer])
    ((standbyCue_of_followView view).trans standby)

theorem exec_followGo (s : State) : exec .followGo s = blockPart .cue followGo s := rfl

/-- FOLLOW_GO fires the standby cue where the armed time is reached at the end that is due (R82, R95). -/
theorem exec_followGo_fired {time : Nat} {cue : Cue} {s : State} (parts : takesParts .cue s)
    (counted : s.ending.counted = false) (hold : s.engine.hold = false) (armed : s.engine.follow = some time)
    (reached : max time 1 ≤ s.engine.timer + 1) (below : s.engine.timer < Config.timerTop)
    (standby : standbyCue s = some cue) :
    ∃ u, exec .followGo s = .next u ∧ u.attention.details.fired = some cue.number := by
  refine ⟨followGo s, (exec_followGo s).trans (blockPart_ok parts), ?_⟩
  simp only [followGo, hold, counted, armed, followReached_some reached, Bool.not_false, Bool.and_self, if_true]
  exact takeCounts_fired (s := beginBlock .cue s) hold armed reached below standby

/-! ## STANDBY_SET -/

theorem standbySet_zero (s : State) : standbySet 0 s = .ok ([.two 0], setStandby none s) := rfl

theorem standbySet_above {n : Nat} {s : State} (h : 9999 < n) : standbySet n s = .error .badIndex := by
  have zero : n ≠ 0 := by omega
  have range : cueNumberOk n = false := by simp [cueNumberOk, h]
  simp only [standbySet, zero, range, if_false]
  rfl

/-- In range, membership of the list decides (R72). -/
theorem standbySet_inRange {n : Nat} {s : State} (h1 : 1 ≤ n) (h2 : n ≤ 9999) :
    standbySet n s =
      if (findCue n s).isSome then .ok ([.two n], setStandby (some n) s) else .error .notFound := by
  have zero : n ≠ 0 := by omega
  have range : cueNumberOk n = true := by simp [cueNumberOk, h1, h2]
  simp only [standbySet, zero, range, if_false]
  cases (findCue n s).isSome <;> rfl

theorem exec_standbySet {n : Nat} {s : State} (h : accepts s) :
    exec (.standbySet n) s = .next (respond 24 s (standbySet n s)) := by
  have arm : exec (.standbySet n) s = execStandbySet n s := rfl
  rw [arm, execStandbySet, request_ok h]

theorem exec_standbySet_listed {n : Nat} {s : State} (h : accepts s) (h1 : 1 ≤ n) (h2 : n ≤ 9999)
    (listed : (findCue n s).isSome) :
    exec (.standbySet n) s = .next (answered 24 [.two n] (setStandby (some n) s)) := by
  rw [exec_standbySet h, standbySet_inRange h1 h2, if_pos listed]
  rfl

theorem findCue_number {n : Nat} {cue : Cue} {s : State} (h : findCue n s = some cue) : cue.number = n := by
  simpa using List.find?_some h

/-- The standby cue of a state that STANDBY_SET has left (R70, R72). -/
theorem standbyCue_setStandby (n code : Nat) (fields : List Field) (s : State) :
    standbyCue (answered code fields (setStandby (some n) s)) = findCue n s := rfl

/-- Settles O36. The four answers are the cases of `standbySet`. An armed follow finds all but standby and the response as
they were; its end counts the slots first, whose actions leave the list, standby and the compare alone
(`followView_countSlots`), and then fires the cue placed in standby. -/
theorem standbySetMoves : Obligations.StandbySetMoves := by
  intro n s hs
  refine ⟨?_, exec_standbySet_listed hs, fun above => ?_, fun h1 h2 unlisted => ?_, ?_⟩
  · rw [exec_standbySet hs, standbySet_zero]
    rfl
  · rw [exec_standbySet hs, standbySet_above above]
    rfl
  · rw [exec_standbySet hs, standbySet_inRange h1 h2, unlisted]
    rfl
  · intro time h1 h2 listed hold armed parts counted reached below
    obtain ⟨cue, found⟩ := Option.isSome_iff_exists.1 listed
    obtain ⟨u, hu, fired⟩ := exec_followGo_fired (s := answered 24 [.two n] (setStandby (some n) s)) parts counted hold
      armed reached below ((standbyCue_setStandby n 24 [.two n] s).trans found)
    exact ⟨_, u, exec_standbySet_listed hs h1 h2 listed, hu, by rw [fired, findCue_number found]⟩

end Sys2Proof.Machine
end

section
/-! ATTN_N (R168): when the line is low, and its level where a reset procedure ends. -/

namespace Sys2Proof.Machine

/-! ## The line and the mask of pending, enabled conditions -/

theorem attnLow_of_inReset {s : State} (h : s.inReset = true) : attnLow s = false := by
  simp [attnLow, h]

theorem attnLow_iff_mask {s : State} (h : s.inReset = false) :
    attnLow s = true ↔ s.attention.flags &&& s.attention.enables ≠ 0#16 := by
  simp [attnLow, h]

/-- A mask is not 0 exactly when it has a member. -/
theorem ne_zero_iff_exists_getLsbD {n : Nat} (m : BitVec n) : m ≠ 0#n ↔ ∃ i : Fin n, m.getLsbD i.val = true := by
  constructor
  · intro hm
    by_contra empty
    refine hm (BitVec.eq_of_getLsbD_eq fun i hi => ?_)
    simpa using fun hbit => empty ⟨⟨i, hi⟩, hbit⟩
  · rintro ⟨i, hbit⟩ rfl
    simp at hbit

/-- Every bit of the masks is a condition's (R166). -/
theorem condBit_surjective : Function.Surjective condBit := by
  have listed : ∀ i : Fin 16, ∃ c ∈ conditions, condBit c = i := by decide
  intro i
  obtain ⟨c, -, bit⟩ := listed i
  exact ⟨c, bit⟩

/-- Outside a reset procedure a pending and enabled condition, and nothing else, holds the line low (R168). -/
theorem attnLow_iff_condition {s : State} (h : s.inReset = false) :
    attnLow s = true ↔
      ∃ c : Condition, s.attention.flags.getLsbD (condBit c).val = true ∧
        s.attention.enables.getLsbD (condBit c).val = true := by
  rw [attnLow_iff_mask h, ne_zero_iff_exists_getLsbD, condBit_surjective.exists]
  simp only [BitVec.getLsbD_and, Bool.and_eq_true]

/-! ## The end of a reset procedure -/

theorem startWaiting_of_none {s : State} (h : presentCause s.resets = none) : startWaiting s = s := by
  simp only [startWaiting, h]

@[simp] theorem presentCause_stateAfterReset (high : Bool) (c : Cause) (s : State) :
    presentCause (stateAfterReset high c s).resets = presentCause s.resets := rfl

@[simp] theorem stateAfterReset_inReset (high : Bool) (c : Cause) (s : State) :
    (stateAfterReset high c s).inReset = false := rfl

/-- An ended procedure with a strap sample leaves the values after reset where no cause is present (R169, R170). -/
theorem exec_resetProcedureEnd {p : Procedure} {high : Bool} {s : State} (runs : s.resets.procedure = some p)
    (ended : p.ended = true) (strap : p.strap = some high) (absent : presentCause s.resets = none) :
    exec .resetProcedureEnd s = .next (stateAfterReset high p.cause s) := by
  have arm : exec .resetProcedureEnd s = execResetProcedureEnd s := rfl
  rw [arm]
  simp only [execResetProcedureEnd, runs, ended, if_true, endProcedure, strap]
  rw [startWaiting_of_none ((presentCause_stateAfterReset ..).trans absent)]

/-- The condition of the procedure's cause is pending, and every condition enabled (R166, R170). -/
theorem attnLow_stateAfterReset (high : Bool) (c : Cause) (s : State) :
    attnLow (stateAfterReset high c s) = true := by
  have pending : (only (condBit (causeCondition c))).getLsbD (condBit (causeCondition c)).val = true := by
    cases c <;> decide
  have enabled : (0xFFFF#16).getLsbD (condBit (causeCondition c)).val = true := by
    cases c <;> decide
  exact (attnLow_iff_condition (stateAfterReset_inReset high c s)).2 ⟨causeCondition c, pending, enabled⟩

/-- Settles O21. Inside a procedure the line is undriven by definition; outside one the mask of pending and enabled
conditions has a member exactly when a condition is both; and a procedure's end leaves its cause's condition pending with
every condition enabled. -/
theorem attentionLine : Obligations.AttentionLine := by
  intro s
  refine ⟨attnLow_of_inReset, attnLow_iff_condition, fun p high runs ended strap absent => ?_⟩
  exact ⟨stateAfterReset high p.cause s, exec_resetProcedureEnd runs ended strap absent,
    stateAfterReset_inReset high p.cause s, attnLow_stateAfterReset high p.cause s⟩

end Sys2Proof.Machine
end

section
/-! What a step is made of: the elementary changes of the machine, each with the guard under which the model makes it. A law
that every elementary change keeps is kept by every step, and a record that no change of a run touches stands. -/

namespace Sys2Proof.Machine

/-! ## The parts of the machine that a change touches -/

/-- The name of an elementary change: the record it writes. -/
inductive Part where
  | attention
  | raised (c : Condition)
  | port
  | resets
  | ending
  | mixer
  | monitors
  | waiting
  | receivers
  | clock
  | outputs
  | inputs
  | counters
  | hold
  | safes
  | triggers
  | skips (k : Fin 8)
  | slot (k : Fin 8)
  | start
  | cues
  | store
  | fade (o : FadeOwner) (el : Element)
  | complete (o : FadeOwner) (el : Element)
  | write (el : Element)
  | advance (el : Element)
  | channel
  | role
  | group
  | release (r : Fin 64)
  | cast (r : Fin 64)
  | rebind (r : Fin 64)
  | mixes
  | protect
  | talkbacks
  | sends (f : Fin 12)
  | relay
  | relaySends
  | stations
  | presets
  | calls
  | inCall
  | wipe
  | reset
  | abandon

/-- Who may ask for a fade of an element that stands (R40, R41, R57, R87): a running cue by one of its pending actions, the
host for the kinds open to it, and the blocks themselves, the Role Table for an ACTIVE role. -/
def asks (o : FadeOwner) (el : Element) (s : State) : Prop :=
  s.available el = true ∧
    match o with
    | .cue k => (s.slot k).running = true ∧ ∃ p ∈ (s.slot k).actions, ∃ z d, p.action.body = .level el z d
    | .host => elemOpen el = true
    | .system => ∀ r, el = .xout r ∨ el = .xin r → (s.role r).active = true

/-- One step of an entry that does not complete it (R50). -/
def stepOn (el : Element) (e : FadeEntry) (s : State) : State :=
  ({ s with fades := s.fades.map (fun x => if x.element = el then { x with elapsed := x.elapsed + 1 } else x) } :
    State).write el (interp el e.start e.target (e.elapsed + 1) e.duration)

/-- The Role Table after its part of the end of a crossfade (R21). -/
def releasedTable (r : Fin 64) (s : State) : RoleTable :=
  ((unbindOpt (s.role r).releasing s).modRole r (fun x => { x with releasing := none })).table

/-- The Role Table after its part of an instant rebind (R19). -/
def movedTable (r : Fin 64) (new : Option (Fin 64)) (s : State) : RoleTable :=
  ((setBinding new (.current r) (unbindOpt (s.role r).channel s)).modRole r (fun x => { x with channel := new })).table

/-- The Role Table after its part of a crossfade (R20). -/
def crossedTable (r : Fin 64) (new : Option (Fin 64)) (s : State) : RoleTable :=
  ((setBinding new (.current r) (setBinding (s.role r).channel (.releasing r) s)).modRole r
    (fun x => { x with channel := new, releasing := (s.role r).channel })).table

/-- The Role Table after its part of a retirement (R16). -/
def vacatedTable (r : Fin 64) (s : State) : RoleTable :=
  ((unbindOpt (s.role r).releasing (unbindOpt (s.role r).channel s)).modRole r (fun _ => {})).table

/-- The values of a mix that are elements, its entries among them, stand (R40). -/
def keepsMix (m n : Mix) : Prop := n.master = m.master ∧ n.duck = m.duck ∧ n.entries = m.entries ∧ n.protect = m.protect

/-- What a change of a role record that is neither a level nor a binding leaves (R13). -/
def keepsRole (x y : Role) : Prop :=
  y.active = x.active ∧ y.channel = x.channel ∧ y.releasing = x.releasing ∧ y.level = x.level ∧ y.xout = x.xout ∧
    y.xin = x.xin

/-- What a change of a station record that is neither a level nor its state leaves (R119). -/
def keepsStation (x y : Station) : Prop := y.volume = x.volume ∧ y.duck = x.duck ∧ y.inCall = x.inCall

/-- An entry is completed: its target is written, its place freed and its owner told of the loss (R53). -/
def completed (e : FadeEntry) (s : State) : State :=
  lossReport e.owner
    (({ s with fades := s.fades.filter (fun x => x.element ≠ e.element) } : State).write e.element e.target)

/-- The elementary changes. `G` says that the run they stand in begins on a lawful fade table, in which an entry that completes
is the one entry on its element. -/
inductive Change (G : Prop) : Part → State → State → Prop
  | attention (s : State) (x : Attention) : Change G .attention s { s with attention := x }
  | raised (s : State) (c : Condition) (f : Details → Details)
      (h : c ≠ .limiter → ∀ d, (f d).limiter = d.limiter) : Change G (.raised c) s (s.raise c f)
  | port (s : State) (x : Port) : Change G .port s { s with port := x }
  | resets (s : State) (x : Resets) : Change G .resets s { s with resets := x }
  | ending (s : State) (x : Ending) : Change G .ending s { s with ending := x }
  | mixer (s : State) (x : MixEngine) : Change G .mixer s { s with mixer := x }
  | monitors (s : State) (x : Table Monitor 16) : Change G .monitors s { s with monitors := x }
  | waiting (s : State) (i : Nat) (q : List Instr) : Change G .waiting s { s with freeIndex := i, pending := q }
  | receivers (s : State) (x : Table Receiver 4) (h : ∀ n, (x.get n).ramp = (s.receiver n).ramp) :
      Change G .receivers s { s with links := { s.links with receivers := x } }
  | clock (s : State) (x : Clock) : Change G .clock s { s with links := { s.links with clock := x } }
  | outputs (s : State) (x : Table OutLink 4) : Change G .outputs s { s with links := { s.links with outputs := x } }
  | inputs (s : State) (g h c : ShowInput) :
      Change G .inputs s { s with engine := { s.engine with goInput := g, holdInput := h, callInput := c } }
  | counters (s : State) (timer : Nat) (follow : Option Nat) :
      Change G .counters s { s with engine := { s.engine with timer := timer, follow := follow } }
  | hold (s : State) (b : Bool) : Change G .hold s { s with engine := { s.engine with hold := b } }
  | safes (s : State) (b : BitVec 125) : Change G .safes s { s with engine := { s.engine with safes := b } }
  | triggers (s : State) (l : List Nat) (h : l.length ≤ Config.triggerPlaces ∨ l.length ≤ s.engine.triggers.length) :
      Change G .triggers s { s with engine := { s.engine with triggers := l } }
  | skips (s : State) (k : Fin 8) (n : Nat) : Change G (.skips k) s (s.modSlot k (fun x => { x with skipped := n }))
  | slot (s : State) (k : Fin 8) (n : Nat) (l : List PendingAction)
      (h : ∀ p ∈ l, ∃ q ∈ (s.slot k).actions, p.action = q.action) :
      Change G (.slot k) s (s.modSlot k (fun x => { x with elapsed := n, actions := l }))
  | free (s : State) (k : Fin 8) (h : (s.slot k).owned = 0 ∨ ∀ e ∈ s.fades, e.owner ≠ .cue k) :
      Change G (.slot k) s (s.modSlot k (fun _ => {}))
  | start (s : State) (k : Fin 8) (src : GoSource) (cue : Cue) (free : (s.slot k).running = false)
      (listed : cue ∈ s.cues.cues) : Change G .start s (startCue k src cue s)
  | cues (s : State) (x : CueList) (law : cueLaw s → cueLaw { s with cues := x })
      (opens : ∀ c ∈ x.cues, c ∈ s.cues.cues ∨ ∀ a ∈ c.actions, bodyOpen a.body) : Change G .cues s { s with cues := x }
  | store (s : State) (l : List Cue) (law : cueLaw s → cueLaw { s with cues := { s.cues with cues := l } })
      (opens : ∀ c ∈ l, c ∈ s.cues.cues ∨ ∀ a ∈ c.actions, bodyOpen a.body) :
      Change G .store s { s with cues := { s.cues with cues := l } }
  | fade (s : State) (el : Element) (z : Int) (d : Nat) (o : FadeOwner) (h : asks o el s) :
      Change G (.fade o el) s (fadeRequest el z d o s).2
  | complete (s : State) (e : FadeEntry) (h : G → s.entry? e.element = some e) :
      Change G (.complete e.owner e.element) s (completed e s)
  | write (s : State) (el : Element) (z : Int) : Change G (.write el) s (directWrite el z s)
  | remove (s : State) (el : Element) : Change G (.write el) s (removeEntry el s)
  | advance (s : State) (el : Element) (e : FadeEntry) (h : s.entry? el = some e) (steps : e.elapsed + 1 < e.duration) :
      Change G (.advance el) s (stepOn el e s)
  | channel (s : State) (c : Fin 64) (f : Channel → Channel) (h : (f (s.channel c)).binding = (s.channel c).binding) :
      Change G .channel s (s.modChannel c f)
  | role (s : State) (r : Fin 64) (f : Role → Role) (h : keepsRole (s.role r) (f (s.role r))) :
      Change G .role s (s.modRole r f)
  | group (s : State) (g : Fin 16) (l : Label) : Change G .group s (s.modGroup g (fun x => { x with label := l }))
  | release (s : State) (r : Fin 64) : Change G (.release r) s { s with table := releasedTable r s }
  | cast (s : State) (r : Fin 64) (x : Role) (vacant : (s.role r).active = false)
      (h : x.channel = none ∧ x.releasing = none ∧ x.level = 0 ∧ x.xout = 0 ∧ x.xin = 0 ∧ x.active = true) :
      Change G (.cast r) s (s.modRole r (fun _ => x))
  | vacate (s : State) (r : Fin 64)
      (h : s.entry? (.role r) = none ∧ s.entry? (.xout r) = none ∧ s.entry? (.xin r) = none) :
      Change G (.cast r) s { s with table := vacatedTable r s }
  | move (s : State) (r : Fin 64) (new : Option (Fin 64)) (cast : (s.role r).active = true)
      (settled : (s.role r).releasing = none) (free : heldByOther r new s = false) :
      Change G (.rebind r) s { s with table := movedTable r new s }
  | cross (s : State) (r : Fin 64) (new : Option (Fin 64)) (cast : (s.role r).active = true)
      (settled : (s.role r).releasing = none) (free : heldByOther r new s = false) (other : (s.role r).channel ≠ new) :
      Change G (.rebind r) s { s with table := crossedTable r new s }
  | mixes (s : State) (x : Table Mix 12) (h : ∀ f, keepsMix (s.mix f) (x.get f)) :
      Change G .mixes s { s with foldback := { s.foldback with mixes := x } }
  | protect (s : State) (f : Fin 12) (p : Nat) (h : p ≤ 96 ∨ p ≤ (s.mix f).protect) :
      Change G .protect s (s.modMix f (fun x => { x with protect := p }))
  | talkbacks (s : State) (x : Table Talkback 2) :
      Change G .talkbacks s { s with foldback := { s.foldback with talkbacks := x } }
  | addSend (s : State) (f : Fin 12) (src : Source) (z : Int) (range : off ≤ z ∧ z ≤ 40)
      (new : hasEntry f src s = false) (room : (s.mix f).entries.length < Config.mixEntryPlaces) :
      Change G (.sends f) s (s.modMix f (fun x => { x with entries := x.entries ++ [⟨src, z⟩] }))
  | dropSend (s : State) (f : Fin 12) (src : Source) (h : s.entry? (.send f src) = none) :
      Change G (.sends f) s (s.modMix f (fun x => { x with entries := x.entries.filter (fun e => e.source ≠ src) }))
  | relay (s : State) (backup : Option (Fin 64)) (level : Int) (sel : Selection) :
      Change G .relay s
        { s with relay := { s.relay with backup := backup, backupLevel := level, selection := sel } }
  | addRelaySend (s : State) (src : RelaySource) (z : Int) (range : off ≤ z ∧ z ≤ 40)
      (new : hasRelayEntry src s = false) (room : s.relay.entries.length < Config.relayEntryPlaces) :
      Change G .relaySends s (s.modRelay (fun x => { x with entries := x.entries ++ [⟨src, z⟩] }))
  | dropRelaySend (s : State) (src : RelaySource) (h : s.entry? (.relaySend src) = none) :
      Change G .relaySends s (s.modRelay (fun x => { x with entries := x.entries.filter (fun e => e.source ≠ src) }))
  | station (s : State) (n : Fin 32) (f : Station → Station) (h : keepsStation (s.station n) (f (s.station n))) :
      Change G .stations s (s.modStation n f)
  | preset (s : State) (p : Fin 16) (f : Preset → Preset) : Change G .presets s (s.modPreset p f)
  | calls (s : State) (a : Option ActiveCall) (q : List Call) (n : BitVec 32) :
      Change G .calls s { s with relay := { s.relay with active := a, queue := q, arrivals := n } }
  | inCall (s : State) (n : Fin 32) (b : Bool) : Change G .inCall s (s.modStation n (fun x => { x with inCall := b }))
  | wipe (s : State) : Change G .wipe s (clearRecords s)
  | reset (s : State) (high : Bool) (c : Cause) : Change G .reset s (stateAfterReset high c s)
  | abandon (s : State) : Change G .abandon s (abandon s)

/-! ## Runs of changes -/

/-- A run of elementary changes of the parts of `K`. -/
def Run (G : Prop) (K : Set Part) : State → State → Prop := Relation.ReflTransGen (fun s t => ∃ p ∈ K, Change G p s t)

variable {G : Prop} {K L : Set Part} {s t u : State} {p : Part}

theorem Run.refl (G : Prop) (K : Set Part) (s : State) : Run G K s s := Relation.ReflTransGen.refl

theorem Run.trans (h : Run G K s t) (g : Run G K t u) : Run G K s u := Relation.ReflTransGen.trans h g

theorem Run.one (hp : p ∈ K) (h : Change G p s t) : Run G K s t := Relation.ReflTransGen.single ⟨p, hp, h⟩

theorem Run.mono (hKL : K ⊆ L) (h : Run G K s t) : Run G L s t :=
  Relation.ReflTransGen.mono (fun _ _ ⟨p, hp, c⟩ => ⟨p, hKL hp, c⟩) s t h

/-- A property that each change of a run keeps is kept by the run. -/
theorem Run.keeps {P : State → Prop} (each : ∀ p ∈ K, ∀ s t, Change G p s t → P s → P t) (h : Run G K s t) (hs : P s) :
    P t := by
  induction h with
  | refl => exact hs
  | tail _ last ih =>
    obtain ⟨p, hp, change⟩ := last
    exact each p hp _ _ change ih

/-- A record that no change of a run writes stands. -/
theorem Run.stands {α : Type} {g : State → α} (each : ∀ p ∈ K, ∀ s t, Change G p s t → g t = g s) (h : Run G K s t) :
    g t = g s :=
  h.keeps (P := fun v => g v = g s) (fun p hp a b change ha => (each p hp a b change).trans ha) rfl

/-- A fold is a run when each of its steps is, under a property that the steps keep. -/
theorem Run.foldl {β : Type} {f : State → β → State} {P : State → Prop} {l : List β}
    (each : ∀ b ∈ l, ∀ s, P s → Run G K s (f s b) ∧ P (f s b)) (hs : P s) : Run G K s (l.foldl f s) ∧ P (l.foldl f s) := by
  induction l generalizing s with
  | nil => exact ⟨Run.refl G K s, hs⟩
  | cons b l ih =>
    obtain ⟨hrun, hP⟩ := each b (by simp) s hs
    obtain ⟨rest, hend⟩ := ih (fun c hc => each c (by simp [hc])) hP
    exact ⟨hrun.trans rest, hend⟩

/-- A fold whose steps are runs, whatever the state. -/
theorem Run.foldl_all {β : Type} {f : State → β → State} {l : List β} (each : ∀ b s, Run G K s (f s b)) :
    Run G K s (l.foldl f s) :=
  (Run.foldl (P := fun _ => True) (fun b _ s _ => ⟨each b s, trivial⟩) trivial).1

end Sys2Proof.Machine
end

section
/-! What the elementary changes leave alone, and what they make of the fade table, the values of elements and the slots. -/

namespace Sys2Proof.Machine

variable {G : Prop} {p : Part} {s t : State}

/-! ## The bindings of channels -/

@[simp] theorem unbindOpt_role (c : Option (Fin 64)) (s : State) (r : Fin 64) : (unbindOpt c s).role r = s.role r := by
  cases c <;> rfl

@[simp] theorem unbindOpt_groups (c : Option (Fin 64)) (s : State) : (unbindOpt c s).table.groups = s.table.groups := by
  cases c <;> rfl

@[simp] theorem unbindOpt_channel (c : Option (Fin 64)) (s : State) (x : Fin 64) :
    (unbindOpt c s).channel x = if c = some x then { s.channel x with binding := .none } else s.channel x := by
  cases c with
  | none => rfl
  | some c => simp [unbindOpt, unbindChannel]

theorem unbindOpt_eq (c : Option (Fin 64)) (s : State) : unbindOpt c s = { s with table := (unbindOpt c s).table } := by
  cases c <;> rfl

@[simp] theorem setBinding_role (c : Option (Fin 64)) (b : Binding) (s : State) (r : Fin 64) :
    (setBinding c b s).role r = s.role r := by
  cases c <;> rfl

@[simp] theorem setBinding_groups (c : Option (Fin 64)) (b : Binding) (s : State) :
    (setBinding c b s).table.groups = s.table.groups := by
  cases c <;> rfl

@[simp] theorem setBinding_channel (c : Option (Fin 64)) (b : Binding) (s : State) (x : Fin 64) :
    (setBinding c b s).channel x = if c = some x then { s.channel x with binding := b } else s.channel x := by
  cases c with
  | none => rfl
  | some c => simp [setBinding]

theorem setBinding_eq (c : Option (Fin 64)) (b : Binding) (s : State) :
    setBinding c b s = { s with table := (setBinding c b s).table } := by
  cases c <;> rfl

/-- The role records and channel records of a state whose Role Table is replaced are those of the table. -/
theorem role_withTable (s u : State) (r : Fin 64) : ({ s with table := u.table } : State).role r = u.role r := rfl

theorem channel_withTable (s u : State) (c : Fin 64) : ({ s with table := u.table } : State).channel c = u.channel c := rfl

theorem group_withTable (s u : State) (g : Fin 16) : ({ s with table := u.table } : State).group g = u.group g := rfl

@[simp] theorem released_role (r q : Fin 64) (s : State) :
    ({ s with table := releasedTable r s } : State).role q =
      if r = q then { s.role q with releasing := none } else s.role q := by
  simp only [releasedTable, role_withTable, modRole_role, unbindOpt_role]

@[simp] theorem moved_role (r q : Fin 64) (new : Option (Fin 64)) (s : State) :
    ({ s with table := movedTable r new s } : State).role q =
      if r = q then { s.role q with channel := new } else s.role q := by
  simp only [movedTable, role_withTable, modRole_role, unbindOpt_role, setBinding_role]

@[simp] theorem crossed_role (r q : Fin 64) (new : Option (Fin 64)) (s : State) :
    ({ s with table := crossedTable r new s } : State).role q =
      if r = q then { s.role q with channel := new, releasing := (s.role r).channel } else s.role q := by
  simp only [crossedTable, role_withTable, modRole_role, setBinding_role]

@[simp] theorem vacated_role (r q : Fin 64) (s : State) :
    ({ s with table := vacatedTable r s } : State).role q = if r = q then {} else s.role q := by
  simp only [vacatedTable, role_withTable, modRole_role, unbindOpt_role]

@[simp] theorem releasedTable_groups (r : Fin 64) (s : State) : (releasedTable r s).groups = s.table.groups := by
  simp [releasedTable]

@[simp] theorem movedTable_groups (r : Fin 64) (new : Option (Fin 64)) (s : State) :
    (movedTable r new s).groups = s.table.groups := by
  simp [movedTable]

@[simp] theorem crossedTable_groups (r : Fin 64) (new : Option (Fin 64)) (s : State) :
    (crossedTable r new s).groups = s.table.groups := by
  simp [crossedTable]

@[simp] theorem vacatedTable_groups (r : Fin 64) (s : State) : (vacatedTable r s).groups = s.table.groups := by
  simp [vacatedTable]

/-! ## The fade table -/

/-- A removal leaves the entries on other elements, in their order (R49). -/
theorem removeEntry_fades (el : Element) (s : State) :
    (removeEntry el s).fades = s.fades.filter (fun x => x.element ≠ el) := by
  rcases removeEntry_cases el s with ⟨h, e⟩ | ⟨e, h, eq⟩
  · rw [e]
    refine (List.filter_eq_self.2 fun x hx => ?_).symm
    simpa using List.find?_eq_none.1 h x hx
  · rw [eq, lossReport_fades]

theorem directWrite_fades (el : Element) (z : Int) (s : State) :
    (directWrite el z s).fades = s.fades.filter (fun x => x.element ≠ el) := by
  simp [directWrite, removeEntry_fades]

theorem newEntry_fades (e : FadeEntry) (s : State) : (newEntry e s).fades = s.fades ++ [e] := by
  simp [newEntry]

theorem replaceEntry_fades (old e : FadeEntry) (s : State) :
    (replaceEntry old e s).fades = s.fades.map (fun x => if x.element = e.element then e else x) := by
  simp [replaceEntry]

theorem snapTo_eq (el : Element) (z : Int) (s : State) : snapTo el z s = raiseFadeSnap 1 (directWrite el z s) := rfl

/-- The entry of a fade request, at the value that stands (R46, R47). -/
def fadeEntry (el : Element) (cur z : Int) (d : Nat) (o : FadeOwner) : FadeEntry :=
  ⟨el, o, cur, elemClamp el z, min d Config.longestFade, 0⟩

/-- The cases of R45, with what decides each. -/
theorem fadeRequest_spec (el : Element) (z : Int) (d : Nat) (o : FadeOwner) (s : State) :
    (s.value? el = none ∧ fadeRequest el z d o s = (.set, s)) ∨
    ∃ cur, s.value? el = some cur ∧
      (((d = 0 ∨ elemClamp el z = cur) ∧ fadeRequest el z d o s = (.set, directWrite el (elemClamp el z) s)) ∨
      (d ≠ 0 ∧ elemClamp el z ≠ cur ∧
        ((∃ old, s.entry? el = some old ∧
            fadeRequest el z d o s = (.fading, replaceEntry old (fadeEntry el cur z d o) s)) ∨
          (s.entry? el = none ∧ s.fades.length < Config.fadePlaces ∧
            fadeRequest el z d o s = (.fading, newEntry (fadeEntry el cur z d o) s)) ∨
          (s.entry? el = none ∧ Config.fadePlaces ≤ s.fades.length ∧
            fadeRequest el z d o s = (.snapped, snapTo el (elemClamp el z) s))))) := by
  have longest : min d Config.longestFade = 0 ↔ d = 0 := by simp [Config.longestFade]
  cases hv : s.value? el with
  | none => exact .inl ⟨rfl, by simp [fadeRequest, hv]⟩
  | some cur =>
    refine .inr ⟨cur, rfl, ?_⟩
    by_cases direct : d = 0 ∨ elemClamp el z = cur
    · exact .inl ⟨direct, by simp [fadeRequest, hv, longest, direct]⟩
    · obtain ⟨hd, ht⟩ := not_or.1 direct
      refine .inr ⟨hd, ht, ?_⟩
      cases he : s.entry? el with
      | some old => exact .inl ⟨old, rfl, by simp [fadeRequest, hv, longest, direct, he, fadeEntry]⟩
      | none =>
        by_cases room : s.fades.length < Config.fadePlaces
        · exact .inr (.inl ⟨rfl, room, by simp [fadeRequest, hv, longest, direct, he, room, fadeEntry]⟩)
        · exact .inr (.inr ⟨rfl, by omega, by simp [fadeRequest, hv, longest, direct, he, room]⟩)

/-- What a fade request does to the table, by its cases. -/
theorem fadeRequest_fades (el : Element) (z : Int) (d : Nat) (o : FadeOwner) (s : State) :
    (fadeRequest el z d o s).2.fades = s.fades ∨
    (fadeRequest el z d o s).2.fades = s.fades.filter (fun x => x.element ≠ el) ∨
    ∃ cur, s.value? el = some cur ∧ d ≠ 0 ∧ elemClamp el z ≠ cur ∧
      (((s.entry? el).isSome ∧ (fadeRequest el z d o s).2.fades =
          s.fades.map (fun x => if x.element = el then fadeEntry el cur z d o else x)) ∨
        (s.entry? el = none ∧ s.fades.length < Config.fadePlaces ∧
          (fadeRequest el z d o s).2.fades = s.fades ++ [fadeEntry el cur z d o])) := by
  rcases fadeRequest_spec el z d o s with ⟨-, h⟩ | ⟨cur, hv, ⟨-, h⟩ | ⟨hd, ht, ⟨old, he, h⟩ | ⟨he, room, h⟩ | ⟨-, -, h⟩⟩⟩ <;>
    rw [h]
  · exact .inl rfl
  · exact .inr (.inl (directWrite_fades ..))
  · exact .inr (.inr ⟨cur, hv, hd, ht, .inl ⟨by simp [he], replaceEntry_fades ..⟩⟩)
  · exact .inr (.inr ⟨cur, hv, hd, ht, .inr ⟨he, room, newEntry_fades ..⟩⟩)
  · exact .inr (.inl (by simp only [snapTo_eq, raiseFadeSnap_fades, directWrite_fades]))

/-- The parts of which a change writes the fade table. -/
def Part.fading : Part → Bool
  | .fade _ _ | .complete _ _ | .write _ | .advance _ | .wipe | .reset | .abandon => true
  | _ => false

theorem Change.fades (h : Change G p s t) (hp : p.fading = false) : t.fades = s.fades := by
  cases h with
  | fade | complete | write | remove | advance | wipe | reset | abandon => cases hp
  | _ => rfl

/-! ## The values of elements -/

/-- An element's value is read from these fields. -/
theorem value_of_fields (group : ∀ g, (t.group g).level = (s.group g).level)
    (role : ∀ r, (t.role r).level = (s.role r).level ∧ (t.role r).xout = (s.role r).xout ∧
      (t.role r).xin = (s.role r).xin)
    (mix : ∀ f, (t.mix f).master = (s.mix f).master ∧ (t.mix f).duck = (s.mix f).duck ∧
      (t.mix f).entries = (s.mix f).entries)
    (entries : t.relay.entries = s.relay.entries)
    (station : ∀ n, (t.station n).volume = (s.station n).volume ∧ (t.station n).duck = (s.station n).duck)
    (link : ∀ n, (t.receiver n).ramp = (s.receiver n).ramp) (el : Element) : t.value? el = s.value? el := by
  cases el <;> simp [State.value?, group, role, mix, entries, station, link]

theorem value_fadeRequest_ne {el x : Element} (h : x ≠ el) (z : Int) (d : Nat) (o : FadeOwner) (s : State) :
    (fadeRequest el z d o s).2.value? x = s.value? x := by
  rcases fadeRequest_spec el z d o s with ⟨-, e⟩ | ⟨cur, -, ⟨-, e⟩ | ⟨-, -, ⟨old, -, e⟩ | ⟨-, -, e⟩ | ⟨-, -, e⟩⟩⟩ <;>
    simp [e, snapTo_eq, value_directWrite, h]

/-- The parts of which a change writes the value of an element. -/
def Part.moving : Part → Bool
  | .fade _ _ | .complete _ _ | .write _ | .advance _ | .cast _ | .sends _ | .relaySends | .wipe | .reset => true
  | _ => false

theorem Change.value (h : Change G p s t) (hp : p.moving = false) (el : Element) : t.value? el = s.value? el := by
  cases h with
  | fade | complete | write | advance | cast | vacate | addSend | dropSend | addRelaySend | dropRelaySend | wipe | reset =>
    cases hp
  | remove => cases hp
  | release | move | cross =>
    refine value_of_fields ?_ (fun q => ?_) ?_ ?_ ?_ ?_ el
    · simp [State.group]
    · simp only [released_role, moved_role, crossed_role]
      split <;> exact ⟨rfl, rfl, rfl⟩
    all_goals intros; and_intros <;> rfl
  | role _ r f same =>
    obtain ⟨-, -, -, hlevel, hxout, hxin⟩ := same
    refine value_of_fields ?_ (fun q => ?_) ?_ ?_ ?_ ?_ el
    rotate_left
    · rw [modRole_role]
      split
      · subst_vars; exact ⟨hlevel, hxout, hxin⟩
      · exact ⟨rfl, rfl, rfl⟩
    all_goals intros; and_intros <;> rfl
  | group =>
    refine value_of_fields (fun q => ?_) ?_ ?_ ?_ ?_ ?_ el
    · rw [modGroup_group]
      split <;> rfl
    all_goals intros; and_intros <;> rfl
  | mixes _ x same =>
    refine value_of_fields ?_ ?_ (fun f => ?_) ?_ ?_ ?_ el
    rotate_left 2
    · obtain ⟨hmaster, hduck, hentries, -⟩ := same f
      exact ⟨hmaster, hduck, hentries⟩
    all_goals intros; and_intros <;> rfl
  | protect =>
    refine value_of_fields ?_ ?_ (fun f => ?_) ?_ ?_ ?_ el
    rotate_left 2
    · rw [modMix_mix]
      split <;> exact ⟨rfl, rfl, rfl⟩
    all_goals intros; and_intros <;> rfl
  | station _ n f same =>
    obtain ⟨hvolume, hduck, -⟩ := same
    refine value_of_fields ?_ ?_ ?_ ?_ (fun q => ?_) ?_ el
    rotate_left 4
    · rw [modStation_station]
      split
      · subst_vars; exact ⟨hvolume, hduck⟩
      · exact ⟨rfl, rfl⟩
    all_goals intros; and_intros <;> rfl
  | inCall =>
    refine value_of_fields ?_ ?_ ?_ ?_ (fun q => ?_) ?_ el
    rotate_left 4
    · rw [modStation_station]
      split <;> exact ⟨rfl, rfl⟩
    all_goals intros; and_intros <;> rfl
  | receivers _ x same =>
    refine value_of_fields ?_ ?_ ?_ ?_ ?_ ?_ el
    rotate_right
    · exact same
    all_goals intros; and_intros <;> rfl
  | abandon =>
    refine value_of_fields ?_ ?_ ?_ ?_ (fun q => ?_) ?_ el
    rotate_left 4
    · simp [Machine.abandon, State.station]
    all_goals intros; and_intros <;> rfl
  | _ =>
    refine value_of_fields ?_ ?_ ?_ ?_ ?_ ?_ el
    all_goals intros; and_intros <;> rfl

/-! ## The records that a write of an element leaves -/

/-- A write changes no field of a role but the three levels (R5). -/
theorem write_role (el : Element) (z : Int) (s : State) (r : Fin 64) :
    (s.write el z).role r = { s.role r with
      level := ((s.write el z).role r).level, xout := ((s.write el z).role r).xout
      xin := ((s.write el z).role r).xin } := by
  cases el <;> simp only [State.write, modGroup_role, modMix_role, modRelay_role, modStation_role, modReceiver_role,
    modRole_role] <;> split <;> rfl

@[simp] theorem removeEntry_role (el : Element) (s : State) (r : Fin 64) : (removeEntry el s).role r = s.role r := by
  simp [State.role]

theorem directWrite_role (el : Element) (z : Int) (s : State) (r : Fin 64) :
    (directWrite el z s).role r = { s.role r with
      level := ((directWrite el z s).role r).level, xout := ((directWrite el z s).role r).xout
      xin := ((directWrite el z s).role r).xin } := by
  have h := write_role el z (removeEntry el s) r
  rwa [removeEntry_role] at h

theorem fadeRequest_role (el : Element) (z : Int) (d : Nat) (o : FadeOwner) (s : State) (r : Fin 64) :
    (fadeRequest el z d o s).2.role r = { s.role r with
      level := ((fadeRequest el z d o s).2.role r).level, xout := ((fadeRequest el z d o s).2.role r).xout
      xin := ((fadeRequest el z d o s).2.role r).xin } := by
  rcases fadeRequest_spec el z d o s with ⟨-, e⟩ | ⟨cur, -, ⟨-, e⟩ | ⟨-, -, ⟨old, -, e⟩ | ⟨-, -, e⟩ | ⟨-, -, e⟩⟩⟩ <;>
    rw [e]
  · exact directWrite_role ..
  · simp [State.role]
  · simp [State.role]
  · exact directWrite_role el _ s r

/-- A completion leaves the entries on other elements (R53). -/
theorem completed_fades (e : FadeEntry) (s : State) :
    (completed e s).fades = s.fades.filter (fun x => x.element ≠ e.element) := by
  simp [completed]

theorem completed_value (e : FadeEntry) (s : State) (x : Element) :
    (completed e s).value? x =
      if x = e.element then (s.value? e.element).map (fun _ => elemClamp e.element e.target) else s.value? x := by
  rw [completed, value_lossReport, value_write]
  rfl

theorem completed_role (e : FadeEntry) (s : State) (r : Fin 64) :
    (completed e s).role r = { s.role r with
      level := ((completed e s).role r).level, xout := ((completed e s).role r).xout
      xin := ((completed e s).role r).xin } := by
  have h := write_role e.element e.target { s with fades := s.fades.filter (fun x => x.element ≠ e.element) } r
  simpa [completed, State.role] using h

/-- The parts of which a change writes a role's casting, or the channels bound to it. -/
def Part.binding : Part → Bool
  | .cast _ | .release _ | .rebind _ | .wipe | .reset => true
  | _ => false

/-- The fields of a role that are neither settings nor levels. -/
def sameCast (x y : Role) : Prop := y.active = x.active ∧ y.channel = x.channel ∧ y.releasing = x.releasing

theorem sameCast_of_levels {x y : Role} (h : y = { x with level := y.level, xout := y.xout, xin := y.xin }) :
    sameCast x y := by
  rw [h]
  exact ⟨rfl, rfl, rfl⟩

theorem Change.cast_stands (h : Change G p s t) (hp : p.binding = false) (r : Fin 64) :
    sameCast (s.role r) (t.role r) := by
  cases h with
  | cast | vacate | release | move | cross | wipe | reset => cases hp
  | fade => exact sameCast_of_levels (fadeRequest_role ..)
  | complete => exact sameCast_of_levels (completed_role ..)
  | write => exact sameCast_of_levels (directWrite_role ..)
  | remove => rw [removeEntry_role]; exact ⟨rfl, rfl, rfl⟩
  | advance => exact sameCast_of_levels (write_role ..)
  | role _ q f same =>
    obtain ⟨hactive, hchannel, hreleasing, -⟩ := same
    rw [modRole_role]
    split
    · subst_vars; exact ⟨hactive, hchannel, hreleasing⟩
    · exact ⟨rfl, rfl, rfl⟩
  | _ => exact ⟨rfl, rfl, rfl⟩

theorem Change.channel_stands (h : Change G p s t) (hp : p.binding = false) (c : Fin 64) :
    (t.channel c).binding = (s.channel c).binding := by
  cases h with
  | cast | vacate | release | move | cross | wipe | reset => cases hp
  | fade | write | remove => simp [State.channel]
  | complete => simp [State.channel, completed]
  | advance => simp [State.channel, stepOn]
  | channel _ d f same =>
    rw [modChannel_channel]
    split
    · subst_vars; exact same
    · rfl
  | _ => rfl

/-- The parts of which a change makes a role ACTIVE or VACANT. -/
def Part.casting : Part → Bool
  | .cast _ | .wipe | .reset => true
  | _ => false

theorem Change.active (h : Change G p s t) (hp : p.casting = false) (r : Fin 64) :
    (t.role r).active = (s.role r).active := by
  by_cases hb : p.binding = false
  · exact (h.cast_stands hb r).1
  · cases h with
    | cast | vacate | wipe | reset => cases hp
    | release | move | cross =>
      simp only [released_role, moved_role, crossed_role]
      split <;> rfl
    | _ => exact absurd rfl hb

end Sys2Proof.Machine
end

section
/-! The laws of the fade table, the cue list, bindings, ranges and entry lists: each elementary change keeps them. -/

namespace Sys2Proof.Machine

variable {G : Prop} {p : Part} {s t : State}

/-! ## The fade table (R42) -/

theorem fadeLaw_of_sublist (h : t.fades.Sublist s.fades) (hs : fadeLaw s) : fadeLaw t :=
  ⟨h.length_le.trans hs.1, (h.map _).nodup hs.2⟩

/-- Rewriting entries without moving them to other elements keeps the law. -/
theorem fadeLaw_of_map {f : FadeEntry → FadeEntry} (hf : ∀ e, (f e).element = e.element)
    (h : t.fades = s.fades.map f) (hs : fadeLaw s) : fadeLaw t := by
  obtain ⟨places, distinct⟩ := hs
  refine ⟨by simpa [h] using places, ?_⟩
  have same : t.fades.map (fun e => e.element) = s.fades.map (fun e => e.element) := by simp [h, hf]
  rwa [same]

theorem element_rewrite {e : FadeEntry} {el : Element} (he : e.element = el) (x : FadeEntry) :
    (if x.element = el then e else x).element = x.element := by
  split
  · rw [he]; symm; assumption
  · rfl

theorem fadeLaw_fadeRequest (el : Element) (z : Int) (d : Nat) (o : FadeOwner) (hs : fadeLaw s) :
    fadeLaw (fadeRequest el z d o s).2 := by
  rcases fadeRequest_fades el z d o s with h | h | ⟨cur, -, -, -, ⟨-, h⟩ | ⟨new, room, h⟩⟩
  · exact fadeLaw_of_sublist (h ▸ List.Sublist.refl _) hs
  · exact fadeLaw_of_sublist (h ▸ List.filter_sublist) hs
  · exact fadeLaw_of_map (element_rewrite (e := fadeEntry el cur z d o) rfl) h hs
  · have absent : ∀ e ∈ s.fades, e.element ≠ el := fun e he => by simpa using List.find?_eq_none.1 new e he
    refine ⟨by rw [h, List.length_append]; exact room, ?_⟩
    rw [h, List.map_append, List.nodup_append]
    refine ⟨hs.2, by simp, ?_⟩
    simp only [List.mem_map, List.map_cons, List.map_nil, List.mem_singleton, forall_exists_index, and_imp]
    rintro _ e he rfl _ rfl
    exact absent e he

theorem stepOn_fades (el : Element) (e : FadeEntry) (s : State) : (stepOn el e s).fades =
    s.fades.map (fun x => if x.element = el then { x with elapsed := x.elapsed + 1 } else x) := by
  simp [stepOn]

theorem Change.fadeLaw (h : Change G p s t) (hs : fadeLaw s) : fadeLaw t := by
  by_cases hp : p.fading = false
  · exact fadeLaw_of_sublist (h.fades hp ▸ List.Sublist.refl _) hs
  · cases h with
    | fade => exact fadeLaw_fadeRequest _ _ _ _ hs
    | complete => exact fadeLaw_of_sublist (completed_fades .. ▸ List.filter_sublist) hs
    | write => exact fadeLaw_of_sublist (directWrite_fades .. ▸ List.filter_sublist) hs
    | remove => exact fadeLaw_of_sublist (removeEntry_fades .. ▸ List.filter_sublist) hs
    | advance => exact fadeLaw_of_map (fun x => by split <;> rfl) (stepOn_fades ..) hs
    | wipe => exact fadeLaw_of_sublist List.filter_sublist hs
    | reset | abandon => exact fadeLaw_of_sublist (List.nil_sublist _) hs
    | _ => exact absurd rfl hp

/-! ## The cue list (R59) -/

/-- The parts of which a change writes the cue list or standby. -/
def Part.cueing : Part → Bool
  | .start | .cues | .store | .wipe | .reset => true
  | _ => false

theorem Change.cueList (h : Change G p s t) (hp : p.cueing = false) : t.cues = s.cues := by
  cases h with
  | start | cues | store | wipe | reset => cases hp
  | fade | write | remove => simp
  | complete => simp [completed]
  | advance => simp [stepOn]
  | _ => rfl

/-- The parts of which a change moves standby. -/
def Part.pointing : Part → Bool
  | .start | .cues | .wipe | .reset => true
  | _ => false

theorem Change.standby (h : Change G p s t) (hp : p.pointing = false) : t.cues.standby = s.cues.standby := by
  by_cases hc : p.cueing = false
  · rw [h.cueList hc]
  · cases h with
    | store => rfl
    | start | cues | wipe | reset => cases hp
    | _ => exact absurd rfl hc

/-- The parts of which a change takes or releases HOLD. -/
def Part.holding : Part → Bool
  | .hold | .reset => true
  | _ => false

theorem Change.hold_stands (h : Change G p s t) (hp : p.holding = false) : t.engine.hold = s.engine.hold := by
  cases h with
  | hold | reset => cases hp
  | fade | write | remove => simp
  | complete => simp [completed]
  | advance => simp [stepOn]
  | _ => rfl

/-- The smallest number above another is a number of the list (R71). -/
theorem nextAbove_mem {n m : Nat} {l : List Cue} (h : nextAbove n l = some m) :
    m ∈ l.map (fun c => c.number) ∧ n < m := by
  obtain ⟨c, hc, rfl⟩ := Option.map_eq_some_iff.1 h
  exact ⟨List.mem_map_of_mem (List.mem_of_find?_eq_some hc), by simpa using List.find?_some hc⟩

theorem Change.cueLaw (h : Change G p s t) (hs : cueLaw s) : cueLaw t := by
  by_cases hp : p.cueing = false
  · simpa only [Machine.cueLaw, h.cueList hp] using hs
  · cases h with
    | start => exact ⟨hs.1, hs.2.1, fun n hn => (nextAbove_mem hn).1⟩
    | cues _ _ law | store _ _ law => exact law hs
    | wipe | reset => exact ⟨Nat.zero_le _, List.Pairwise.nil, fun _ hn => by cases hn⟩
    | _ => exact absurd rfl hp

/-! ## Bindings (R7) -/

theorem bindingLaw_of_stands (hc : ∀ c, (t.channel c).binding = (s.channel c).binding)
    (hr : ∀ r, sameCast (s.role r) (t.role r)) (hs : bindingLaw s) : bindingLaw t := by
  intro c r
  obtain ⟨hactive, hchannel, hreleasing⟩ := hr r
  rw [hc, hactive, hchannel, hreleasing]
  exact hs c r

@[simp] theorem released_channel (r c : Fin 64) (s : State) :
    ({ s with table := releasedTable r s } : State).channel c =
      if (s.role r).releasing = some c then { s.channel c with binding := .none } else s.channel c := by
  simp only [releasedTable, channel_withTable, modRole_channel, unbindOpt_channel]

@[simp] theorem moved_channel (r c : Fin 64) (new : Option (Fin 64)) (s : State) :
    ({ s with table := movedTable r new s } : State).channel c =
      if new = some c then { s.channel c with binding := .current r }
      else if (s.role r).channel = some c then { s.channel c with binding := .none } else s.channel c := by
  simp only [movedTable, channel_withTable, modRole_channel, unbindOpt_channel, setBinding_channel]
  split
  · split <;> rfl
  · rfl

@[simp] theorem crossed_channel (r c : Fin 64) (new : Option (Fin 64)) (s : State) :
    ({ s with table := crossedTable r new s } : State).channel c =
      if new = some c then { s.channel c with binding := .current r }
      else if (s.role r).channel = some c then { s.channel c with binding := .releasing r } else s.channel c := by
  simp only [crossedTable, channel_withTable, modRole_channel, setBinding_channel]
  split
  · split <;> rfl
  · rfl

@[simp] theorem vacated_channel (r c : Fin 64) (s : State) :
    ({ s with table := vacatedTable r s } : State).channel c =
      if (s.role r).channel = some c ∨ (s.role r).releasing = some c then { s.channel c with binding := .none }
      else s.channel c := by
  simp only [vacatedTable, channel_withTable, modRole_channel, unbindOpt_channel]
  by_cases h1 : (s.role r).releasing = some c <;> by_cases h2 : (s.role r).channel = some c <;> simp [h1, h2]

/-- A channel of no other role has no binding to one (R17). -/
theorem heldByOther_some {r c : Fin 64} (h : heldByOther r (some c) s = false) (q : Fin 64) (hq : q ≠ r) :
    (s.channel c).binding ≠ .current q ∧ (s.channel c).binding ≠ .releasing q := by
  unfold heldByOther at h
  cases hb : (s.channel c).binding <;> simp [hb] at h ⊢
  · rintro rfl; exact hq h
  · rintro rfl; exact hq h

theorem Change.bindingLaw (h : Change G p s t) (hs : bindingLaw s) : bindingLaw t := by
  by_cases hp : p.binding = false
  · exact bindingLaw_of_stands (h.channel_stands hp) (h.cast_stands hp) hs
  · cases h with
    | release _ r =>
      intro c q
      have hq := hs c q
      have hr := hs c r
      simp only [released_channel, released_role]
      by_cases e : r = q
      · subst e
        split
        · rename_i held
          have hb : (s.channel c).binding = .releasing r := hq.2.1.2 held
          rw [hb] at hq
          simp_all
        · simp_all
      · by_cases hc : (s.role r).releasing = some c <;> simp_all
    | cast _ r x vacant same =>
      intro c q
      have hq := hs c q
      simp only [modRole_channel, modRole_role]
      by_cases e : r = q
      · subst e; simp_all
      · simp_all
    | vacate _ r =>
      intro c q
      have hq := hs c q
      have hr := hs c r
      simp only [vacated_channel, vacated_role]
      by_cases e : r = q
      · subst e; split <;> simp_all
      · by_cases h1 : (s.role r).channel = some c <;> by_cases h2 : (s.role r).releasing = some c <;> simp_all
    | move _ r new cast settled free =>
      intro c q
      have hq := hs c q
      have hr := hs c r
      simp only [moved_channel, moved_role]
      by_cases hn : new = some c
      · subst hn
        by_cases e : r = q
        · subst e; simp_all
        · have others := heldByOther_some free q (Ne.symm e)
          simp_all
      · by_cases e : r = q
        · subst e; by_cases h1 : (s.role r).channel = some c <;> simp_all
        · by_cases h1 : (s.role r).channel = some c <;> simp_all
    | cross _ r new cast settled free other =>
      intro c q
      have hq := hs c q
      have hr := hs c r
      simp only [crossed_channel, crossed_role]
      by_cases hn : new = some c
      · subst hn
        by_cases e : r = q
        · subst e; simp_all
        · have others := heldByOther_some free q (Ne.symm e)
          simp_all
      · by_cases e : r = q
        · subst e; by_cases h1 : (s.role r).channel = some c <;> simp_all
        · by_cases h1 : (s.role r).channel = some c <;> simp_all
    | wipe | reset =>
      intro c q
      simp [State.channel, State.role, clearRecords, stateAfterReset]
    | _ => exact absurd rfl hp

end Sys2Proof.Machine
end

section
/-! The laws of levels, the protect limiter, entry lists and the trigger queue: each elementary change keeps them. -/

namespace Sys2Proof.Machine

variable {G : Prop} {p : Part} {s t : State}

/-! ## Ranges (R40, R113) -/

/-- A value lies in the range of its element. -/
def inRangeOf (el : Element) (v : Int) : Prop := elemLo el ≤ v ∧ v ≤ elemHi el

theorem inRangeOf_clamp (el : Element) (z : Int) : inRangeOf el (elemClamp el z) :=
  ⟨clampCode_ge z, clampCode_le z (by cases el <;> simp [elemLo, elemHi, off])⟩

theorem elemClamp_of_inRange {el : Element} {z : Int} (h : inRangeOf el z) : elemClamp el z = z := by
  obtain ⟨h1, h2⟩ := h
  simp only [elemClamp, clampCode]
  omega

/-- A list of entries with one more at its end gives the sources it held their levels, and the new one its own. -/
theorem value_addSend {f : Fin 12} {src : Source} (new : hasEntry f src s = false) (z : Int) (el : Element) :
    (s.modMix f (fun x => { x with entries := x.entries ++ [⟨src, z⟩] })).value? el =
      if el = .send f src then some z else s.value? el := by
  have absent : (s.mix f).entries.find? (fun e => decide (e.source = src)) = none := by
    simpa [hasEntry, List.find?_eq_none] using new
  cases el with
  | send g other =>
    simp only [State.value?, modMix_mix, Element.send.injEq]
    by_cases hg : f = g
    · subst hg
      by_cases ho : other = src
      · subst ho; simp [absent]
      · simp [List.find?_append, ho, Ne.symm ho]
    · simp [hg, Ne.symm hg]
  | master g | tbDuck g =>
    simp only [State.value?, modMix_mix]
    split <;> simp
  | _ => rfl

/-- Taking the entries of a source away leaves the levels of the others. -/
theorem value_dropSend (f : Fin 12) (src : Source) (el : Element) :
    (s.modMix f (fun x => { x with entries := x.entries.filter (fun e => e.source ≠ src) })).value? el =
      if el = .send f src then none else s.value? el := by
  cases el with
  | send g other =>
    simp only [State.value?, modMix_mix, Element.send.injEq]
    by_cases hg : f = g
    · subst hg
      by_cases ho : other = src
      · subst ho; simp [List.find?_eq_none]
      · simp only [if_true, ho, and_false, if_false, List.find?_filter]
        congr 2
        funext e
        by_cases he : e.source = other
        · simp [he, ho]
        · simp [he]
    · simp [hg, Ne.symm hg]
  | master g | tbDuck g =>
    simp only [State.value?, modMix_mix]
    split <;> simp
  | _ => rfl

theorem value_addRelaySend {src : RelaySource} (new : hasRelayEntry src s = false) (z : Int) (el : Element) :
    (s.modRelay (fun x => { x with entries := x.entries ++ [⟨src, z⟩] })).value? el =
      if el = .relaySend src then some z else s.value? el := by
  have absent : s.relay.entries.find? (fun e => decide (e.source = src)) = none := by
    simpa [hasRelayEntry, List.find?_eq_none] using new
  cases el with
  | relaySend other =>
    simp only [State.value?, modRelay_relay, Element.relaySend.injEq]
    by_cases ho : other = src
    · subst ho; simp [absent]
    · simp [List.find?_append, ho, Ne.symm ho]
  | _ => rfl

theorem value_dropRelaySend (src : RelaySource) (el : Element) :
    (s.modRelay (fun x => { x with entries := x.entries.filter (fun e => e.source ≠ src) })).value? el =
      if el = .relaySend src then none else s.value? el := by
  cases el with
  | relaySend other =>
    simp only [State.value?, modRelay_relay, Element.relaySend.injEq]
    by_cases ho : other = src
    · subst ho; simp [List.find?_eq_none]
    · simp only [ho, if_false, List.find?_filter]
      congr 2
      funext e
      by_cases he : e.source = other
      · simp [he, ho]
      · simp [he]
  | _ => rfl

/-- A role record replaced by one at the vacant levels. -/
theorem value_setRole {r : Fin 64} {x : Role} (h : x.level = 0 ∧ x.xout = 0 ∧ x.xin = 0)
    (ht : ∀ q, t.role q = if r = q then x else s.role q) (groups : t.table.groups = s.table.groups)
    (foldback : t.foldback = s.foldback) (relay : t.relay = s.relay) (links : t.links = s.links) (el : Element) :
    t.value? el = if el = .role r ∨ el = .xout r ∨ el = .xin r then some 0 else s.value? el := by
  obtain ⟨hlevel, hxout, hxin⟩ := h
  cases el with
  | role q | xout q | xin q =>
    simp only [State.value?, ht]
    by_cases hq : r = q
    · subst hq; simp [hlevel, hxout, hxin]
    · simp [hq, Ne.symm hq]
  | _ => simp [State.value?, State.group, State.mix, State.station, State.receiver, groups, foldback, relay, links]

/-- What a fade request leaves of its element's value: the value that stood, or the clamped target (R45). -/
theorem value_fadeRequest_self {el : Element} {cur : Int} (hv : s.value? el = some cur) (z : Int) (d : Nat)
    (o : FadeOwner) :
    (fadeRequest el z d o s).2.value? el = some cur ∨
      (fadeRequest el z d o s).2.value? el = some (elemClamp el (elemClamp el z)) := by
  rcases fadeRequest_spec el z d o s with ⟨-, e⟩ | ⟨c, -, ⟨-, e⟩ | ⟨-, -, ⟨old, -, e⟩ | ⟨-, -, e⟩ | ⟨-, -, e⟩⟩⟩
  · exact .inl (by rw [e]; exact hv)
  · exact .inr (by rw [e]; simp [value_directWrite, hv])
  · exact .inl (by rw [e]; simp [hv])
  · exact .inl (by rw [e]; simp [hv])
  · exact .inr (by rw [e]; simp [snapTo_eq, value_directWrite, hv])

theorem value_fadeRequest_none {el : Element} (hv : s.value? el = none) (z : Int) (d : Nat) (o : FadeOwner) :
    (fadeRequest el z d o s).2 = s := by
  simp [fadeRequest, hv]

/-- Where each value is one that stood or one in range, the law is kept. -/
theorem levelLaw_of_values (hs : levelLaw s)
    (h : ∀ el v, t.value? el = some v → s.value? el = some v ∨ inRangeOf el v) : levelLaw t := by
  intro el v hv
  rcases h el v hv with h | h
  · exact hs el v h
  · exact h

theorem levelLaw_directWrite (el : Element) (z : Int) (hs : levelLaw s) : levelLaw (directWrite el z s) := by
  refine levelLaw_of_values hs fun x v hv => ?_
  rw [value_directWrite] at hv
  split at hv
  · obtain ⟨_, -, rfl⟩ := Option.map_eq_some_iff.1 hv
    subst_vars
    exact .inr (inRangeOf_clamp ..)
  · exact .inl hv

theorem levelLaw_completed (e : FadeEntry) (hs : levelLaw s) : levelLaw (completed e s) := by
  refine levelLaw_of_values hs fun x v hv => ?_
  rw [completed_value] at hv
  split at hv
  · obtain ⟨_, -, rfl⟩ := Option.map_eq_some_iff.1 hv
    subst_vars
    exact .inr (inRangeOf_clamp ..)
  · exact .inl hv

theorem levelLaw_defaults (roles : ∀ r, t.role r = {}) (groups : ∀ g, t.group g = {}) (mixes : ∀ f, t.mix f = {})
    (entries : t.relay.entries = []) (stations : ∀ n, t.station n = {})
    (links : ∀ n, inRangeOf (.link n) (t.receiver n).ramp) : levelLaw t := by
  intro el v hv
  cases el with
  | link n => cases hv; exact links n
  | send | relaySend => simp [State.value?, mixes, entries] at hv
  | _ =>
    simp only [State.value?, roles, groups, mixes, stations, Option.some.injEq] at hv
    simp [← hv, elemLo, elemHi, off]

theorem Change.levelLaw (h : Change G p s t) (hs : levelLaw s) : levelLaw t := by
  by_cases hp : p.moving = false
  · exact levelLaw_of_values hs fun el v hv => .inl (h.value hp el ▸ hv)
  · cases h with
    | fade _ el z d o =>
      refine levelLaw_of_values hs fun x v hv => ?_
      by_cases hx : x = el
      · subst hx
        cases hcur : s.value? x with
        | none => rw [value_fadeRequest_none hcur, hcur] at hv; cases hv
        | some cur =>
          rcases value_fadeRequest_self hcur z d o with e | e <;> rw [e] at hv <;> cases hv
          · exact .inl rfl
          · exact .inr (inRangeOf_clamp ..)
      · exact .inl (value_fadeRequest_ne hx z d o s ▸ hv)
    | complete => exact levelLaw_completed _ hs
    | write => exact levelLaw_directWrite _ _ hs
    | remove => exact levelLaw_of_values hs fun el v hv => .inl (by simpa using hv)
    | advance _ el e =>
      refine levelLaw_of_values hs fun x v hv => ?_
      rw [stepOn, value_write] at hv
      split at hv
      · obtain ⟨_, -, rfl⟩ := Option.map_eq_some_iff.1 hv
        subst_vars
        exact .inr (inRangeOf_clamp ..)
      · exact .inl hv
    | cast _ r x vacant same =>
      obtain ⟨-, -, hlevel, hxout, hxin, -⟩ := same
      refine levelLaw_of_values hs fun el v hv => ?_
      rw [value_setRole (s := s) (t := s.modRole r fun _ => x) ⟨hlevel, hxout, hxin⟩ (fun q => modRole_role ..) rfl rfl rfl rfl] at hv
      split at hv
      · rename_i hel
        cases hv
        rcases hel with rfl | rfl | rfl <;> exact .inr (by simp [inRangeOf, elemLo, elemHi, off])
      · exact .inl hv
    | vacate _ r =>
      refine levelLaw_of_values hs fun el v hv => ?_
      rw [value_setRole (s := s) (x := {}) ⟨rfl, rfl, rfl⟩ (vacated_role r · s) (vacatedTable_groups ..) rfl rfl rfl] at hv
      split at hv
      · rename_i hel
        cases hv
        rcases hel with rfl | rfl | rfl <;> exact .inr (by simp [inRangeOf, elemLo, elemHi, off])
      · exact .inl hv
    | addSend _ f src z range new =>
      refine levelLaw_of_values hs fun el v hv => ?_
      rw [value_addSend new] at hv
      split at hv
      · cases hv; subst_vars; exact .inr range
      · exact .inl hv
    | dropSend =>
      refine levelLaw_of_values hs fun el v hv => ?_
      rw [value_dropSend] at hv
      split at hv
      · cases hv
      · exact .inl hv
    | addRelaySend _ src z range new =>
      refine levelLaw_of_values hs fun el v hv => ?_
      rw [value_addRelaySend new] at hv
      split at hv
      · cases hv; subst_vars; exact .inr range
      · exact .inl hv
    | dropRelaySend =>
      refine levelLaw_of_values hs fun el v hv => ?_
      rw [value_dropRelaySend] at hv
      split at hv
      · cases hv
      · exact .inl hv
    | wipe =>
      exact levelLaw_defaults (fun _ => Table.get_replicate ..) (fun _ => Table.get_replicate ..)
        (fun _ => Table.get_replicate ..) rfl (fun _ => Table.get_replicate ..) (fun n => hs (.link n) _ rfl)
    | reset =>
      refine levelLaw_defaults (fun _ => Table.get_replicate ..) (fun _ => Table.get_replicate ..)
        (fun _ => Table.get_replicate ..) rfl (fun _ => Table.get_replicate ..) (fun n => ?_)
      simp [stateAfterReset, State.receiver, inRangeOf, elemLo, elemHi, off]
    | _ => exact absurd rfl hp

/-! ## The lists of entries, and protect -/

theorem map_source_rewrite {α β : Type} [DecidableEq β] (src : α → β) (upd : α → α) (x : β) (hs : ∀ a, src (upd a) = src a)
    (l : List α) : (l.map (fun a => if src a = x then upd a else a)).map src = l.map src := by
  rw [List.map_map]
  refine List.map_congr_left fun a _ => ?_
  simp only [Function.comp_apply]
  split
  · exact hs a
  · rfl

/-- What the Fade Engine leaves of a mix: its settings, its protect attenuation and the sources of its entries. -/
theorem write_mix (el : Element) (z : Int) (s : State) (f : Fin 12) :
    (s.write el z).mix f = { s.mix f with
      master := ((s.write el z).mix f).master, duck := ((s.write el z).mix f).duck
      entries := ((s.write el z).mix f).entries } ∧
    ((s.write el z).mix f).entries.map (fun e => e.source) = (s.mix f).entries.map (fun e => e.source) := by
  cases el with
  | send g src =>
    simp only [State.write, modMix_mix]
    split
    · exact ⟨rfl, map_source_rewrite (fun e : MixEntry => e.source)
        (fun e => { e with level := elemClamp (.send g src) z }) src (fun _ => rfl) _⟩
    · exact ⟨rfl, rfl⟩
  | master g | tbDuck g =>
    simp only [State.write, modMix_mix]
    split <;> exact ⟨rfl, rfl⟩
  | _ => exact ⟨rfl, rfl⟩

@[simp] theorem removeEntry_mix (el : Element) (s : State) (f : Fin 12) : (removeEntry el s).mix f = s.mix f := by
  simp [State.mix]

theorem directWrite_mix (el : Element) (z : Int) (s : State) (f : Fin 12) :
    (directWrite el z s).mix f = { s.mix f with
      master := ((directWrite el z s).mix f).master, duck := ((directWrite el z s).mix f).duck
      entries := ((directWrite el z s).mix f).entries } ∧
    ((directWrite el z s).mix f).entries.map (fun e => e.source) = (s.mix f).entries.map (fun e => e.source) := by
  have h := write_mix el z (removeEntry el s) f
  rwa [removeEntry_mix] at h

theorem completed_mix (e : FadeEntry) (s : State) (f : Fin 12) :
    (completed e s).mix f = { s.mix f with
      master := ((completed e s).mix f).master, duck := ((completed e s).mix f).duck
      entries := ((completed e s).mix f).entries } ∧
    ((completed e s).mix f).entries.map (fun e => e.source) = (s.mix f).entries.map (fun e => e.source) := by
  have h := write_mix e.element e.target { s with fades := s.fades.filter (fun x => x.element ≠ e.element) } f
  simpa [completed, State.mix] using h

theorem fadeRequest_mix (el : Element) (z : Int) (d : Nat) (o : FadeOwner) (s : State) (f : Fin 12) :
    (fadeRequest el z d o s).2.mix f = { s.mix f with
      master := ((fadeRequest el z d o s).2.mix f).master, duck := ((fadeRequest el z d o s).2.mix f).duck
      entries := ((fadeRequest el z d o s).2.mix f).entries } ∧
    ((fadeRequest el z d o s).2.mix f).entries.map (fun e => e.source) = (s.mix f).entries.map (fun e => e.source) := by
  rcases fadeRequest_spec el z d o s with ⟨-, e⟩ | ⟨cur, -, ⟨-, e⟩ | ⟨-, -, ⟨old, -, e⟩ | ⟨-, -, e⟩ | ⟨-, -, e⟩⟩⟩ <;>
    rw [e]
  · exact ⟨rfl, rfl⟩
  · exact directWrite_mix ..
  · simp [State.mix]
  · simp [State.mix]
  · exact directWrite_mix el _ s f

theorem write_relayEntries (el : Element) (z : Int) (s : State) :
    (s.write el z).relay.entries.map (fun e => e.source) = s.relay.entries.map (fun e => e.source) := by
  cases el with
  | relaySend src =>
    exact map_source_rewrite (fun e : RelayEntry => e.source)
      (fun e => { e with level := elemClamp (.relaySend src) z }) src (fun _ => rfl) _
  | _ => rfl

theorem directWrite_relayEntries (el : Element) (z : Int) (s : State) :
    (directWrite el z s).relay.entries.map (fun e => e.source) = s.relay.entries.map (fun e => e.source) := by
  rw [directWrite, write_relayEntries, removeEntry_relay]

theorem completed_relayEntries (e : FadeEntry) (s : State) :
    (completed e s).relay.entries.map (fun e => e.source) = s.relay.entries.map (fun e => e.source) := by
  rw [completed, lossReport_relay, write_relayEntries]

theorem fadeRequest_relayEntries (el : Element) (z : Int) (d : Nat) (o : FadeOwner) (s : State) :
    (fadeRequest el z d o s).2.relay.entries.map (fun e => e.source) = s.relay.entries.map (fun e => e.source) := by
  rcases fadeRequest_spec el z d o s with ⟨-, e⟩ | ⟨cur, -, ⟨-, e⟩ | ⟨-, -, ⟨old, -, e⟩ | ⟨-, -, e⟩ | ⟨-, -, e⟩⟩⟩ <;>
    rw [e]
  · exact directWrite_relayEntries ..
  · simp
  · simp
  · exact directWrite_relayEntries el _ s

/-- The parts of which a change writes a protect attenuation, or adds or takes an entry. -/
def Part.listing : Part → Bool
  | .protect | .sends _ | .relaySends | .wipe | .reset => true
  | _ => false

/-- The protect attenuations and the sources of the entries stand. -/
def sameLists (s t : State) : Prop :=
  (∀ f, (t.mix f).protect = (s.mix f).protect ∧
    (t.mix f).entries.map (fun e => e.source) = (s.mix f).entries.map (fun e => e.source)) ∧
  t.relay.entries.map (fun e => e.source) = s.relay.entries.map (fun e => e.source)

theorem Change.lists (h : Change G p s t) (hp : p.listing = false) : sameLists s t := by
  cases h with
  | protect | addSend | dropSend | addRelaySend | dropRelaySend | wipe | reset => cases hp
  | fade _ el z d o =>
    exact ⟨fun f => ⟨by rw [(fadeRequest_mix el z d o s f).1], (fadeRequest_mix el z d o s f).2⟩,
      fadeRequest_relayEntries ..⟩
  | complete _ e =>
    exact ⟨fun f => ⟨by rw [(completed_mix e s f).1], (completed_mix e s f).2⟩, completed_relayEntries ..⟩
  | write _ el z =>
    exact ⟨fun f => ⟨by rw [(directWrite_mix el z s f).1], (directWrite_mix _ _ s f).2⟩, directWrite_relayEntries ..⟩
  | remove => exact ⟨fun f => by simp, by simp⟩
  | advance _ el e =>
    exact ⟨fun f => ⟨by rw [stepOn, (write_mix _ _ _ f).1]; rfl, (write_mix _ _ _ f).2⟩, write_relayEntries ..⟩
  | mixes _ x same =>
    refine ⟨fun f => ?_, rfl⟩
    obtain ⟨-, -, hentries, hprotect⟩ := same f
    exact ⟨hprotect, congrArg _ hentries⟩
  | _ => exact ⟨fun f => ⟨rfl, rfl⟩, rfl⟩

theorem Change.protectLaw (h : Change G p s t) (hs : protectLaw s) : protectLaw t := by
  by_cases hp : p.listing = false
  · intro f
    rw [((h.lists hp).1 f).1]
    exact hs f
  · cases h with
    | protect _ g n bound =>
      intro f
      have hf := hs f
      rw [modMix_mix]
      split
      · subst_vars
        show n ≤ 96
        omega
      · exact hf
    | addSend | dropSend =>
      intro f
      have hf := hs f
      rw [modMix_mix]
      split <;> exact hf
    | addRelaySend | dropRelaySend => exact hs
    | wipe | reset =>
      intro f
      simp [State.mix, clearRecords, stateAfterReset]
    | _ => exact absurd rfl hp

theorem entryLaw_of_lists (h : sameLists s t) (hs : entryLaw s) : entryLaw t := by
  obtain ⟨mixes, relay⟩ := h
  obtain ⟨hmix, hplaces, hdistinct⟩ := hs
  refine ⟨fun f => ?_, ?_, by rwa [relay]⟩
  · have same := congrArg List.length (mixes f).2
    simp only [List.length_map] at same
    rw [same, (mixes f).2]
    exact hmix f
  · have same := congrArg List.length relay
    simp only [List.length_map] at same
    rwa [same]

theorem Change.entryLaw (h : Change G p s t) (hs : entryLaw s) : entryLaw t := by
  by_cases hp : p.listing = false
  · exact entryLaw_of_lists (h.lists hp) hs
  · obtain ⟨hmix, hplaces, hdistinct⟩ := hs
    cases h with
    | protect =>
      refine ⟨fun f => ?_, hplaces, hdistinct⟩
      rw [modMix_mix]
      split <;> exact hmix f
    | addSend _ f src z range new room =>
      refine ⟨fun g => ?_, hplaces, hdistinct⟩
      rw [modMix_mix]
      split
      · subst_vars
        refine ⟨by rw [List.length_append]; exact room, ?_⟩
        rw [List.map_append, List.nodup_append]
        refine ⟨(hmix g).2, by simp, ?_⟩
        simpa [hasEntry] using new
      · exact hmix g
    | dropSend =>
      refine ⟨fun g => ?_, hplaces, hdistinct⟩
      have hmix := hmix g
      rw [modMix_mix]
      split
      · exact ⟨(List.length_filter_le ..).trans hmix.1, (List.filter_sublist.map _).nodup hmix.2⟩
      · exact hmix
    | addRelaySend _ src z range new room =>
      refine ⟨hmix, by rw [modRelay_relay, List.length_append]; exact room, ?_⟩
      rw [modRelay_relay, List.map_append, List.nodup_append]
      refine ⟨hdistinct, by simp, ?_⟩
      simpa [hasRelayEntry] using new
    | dropRelaySend =>
      exact ⟨hmix, (List.length_filter_le ..).trans hplaces, (List.filter_sublist.map _).nodup hdistinct⟩
    | wipe | reset =>
      refine ⟨fun f => ?_, Nat.zero_le _, List.nodup_nil⟩
      simp [State.mix, clearRecords, stateAfterReset]
    | _ => exact absurd rfl hp

theorem Change.triggerLaw (h : Change G p s t) (hs : triggerLaw s) : triggerLaw t := by
  cases h with
  | triggers _ l bound => exact bound.elim id (fun le => le.trans hs)
  | wipe | reset => exact Nat.zero_le _
  | fade | write | remove => simpa [Machine.triggerLaw] using hs
  | complete => simpa [Machine.triggerLaw, completed] using hs
  | advance => simpa [Machine.triggerLaw, stepOn] using hs
  | _ => exact hs

end Sys2Proof.Machine
end

section
/-! The laws of classes, of owned-fade counts and of the bounds of a fade: each elementary change keeps them. -/

namespace Sys2Proof.Machine

variable {G : Prop} {p : Part} {s t : State}

/-! ## The slots -/

/-- 1 when the owner is slot `k`, and else 0. -/
def gains (o : FadeOwner) (k : Fin 8) : Nat := if o = .cue k then 1 else 0

/-- What the loss of the entry on an element takes from the count of slot `k`. -/
def lostTo (k : Fin 8) (e : Option FadeEntry) : Nat := (e.map (fun e => gains e.owner k)).getD 0

theorem gainReport_slot (o : FadeOwner) (s : State) (k : Fin 8) :
    (gainReport o s).slot k = { s.slot k with owned := (s.slot k).owned + gains o k } := by
  cases o with
  | cue j =>
    simp only [gainReport, modSlot_slot, gains, FadeOwner.cue.injEq]
    split <;> simp
  | host | system => simp [gainReport, gains]

theorem lossReport_slot (o : FadeOwner) (s : State) (k : Fin 8) :
    (lossReport o s).slot k = { s.slot k with owned := (s.slot k).owned - gains o k } := by
  cases o with
  | cue j =>
    simp only [lossReport, modSlot_slot, gains, FadeOwner.cue.injEq]
    split <;> simp
  | host | system => simp [lossReport, gains]

theorem removeEntry_slot (el : Element) (s : State) (k : Fin 8) :
    (removeEntry el s).slot k = { s.slot k with owned := (s.slot k).owned - lostTo k (s.entry? el) } := by
  rcases removeEntry_cases el s with ⟨h, e⟩ | ⟨x, h, e⟩ <;> rw [e, h]
  · simp [lostTo]
  · rw [lossReport_slot]
    simp [lostTo, State.slot]

@[simp] theorem write_slot (el : Element) (z : Int) (s : State) (k : Fin 8) : (s.write el z).slot k = s.slot k := by
  simp [State.slot]

theorem directWrite_slot (el : Element) (z : Int) (s : State) (k : Fin 8) :
    (directWrite el z s).slot k = { s.slot k with owned := (s.slot k).owned - lostTo k (s.entry? el) } := by
  rw [directWrite, write_slot, removeEntry_slot]

theorem completed_slot (e : FadeEntry) (s : State) (k : Fin 8) :
    (completed e s).slot k = { s.slot k with owned := (s.slot k).owned - gains e.owner k } := by
  rw [completed, lossReport_slot, write_slot]
  rfl

@[simp] theorem noteFresh_slot (el : Element) (s : State) (k : Fin 8) : (noteFresh el s).slot k = s.slot k := by
  simp [State.slot]

theorem newEntry_slot (e : FadeEntry) (s : State) (k : Fin 8) :
    (newEntry e s).slot k = { s.slot k with owned := (s.slot k).owned + gains e.owner k } := by
  rw [newEntry, noteFresh_slot, gainReport_slot]
  rfl

theorem replaceEntry_slot (old e : FadeEntry) (s : State) (k : Fin 8) :
    (replaceEntry old e s).slot k =
      { s.slot k with owned := (s.slot k).owned + gains e.owner k - gains old.owner k } := by
  rw [replaceEntry, noteFresh_slot, lossReport_slot, gainReport_slot]
  rfl

@[simp] theorem snapTo_slot (el : Element) (z : Int) (s : State) (k : Fin 8) :
    (snapTo el z s).slot k = (directWrite el z s).slot k := rfl

/-- A fade request changes the owned-fade counts alone. -/
theorem fadeRequest_slot (el : Element) (z : Int) (d : Nat) (o : FadeOwner) (s : State) (k : Fin 8) :
    (fadeRequest el z d o s).2.slot k = { s.slot k with owned := ((fadeRequest el z d o s).2.slot k).owned } := by
  rcases fadeRequest_spec el z d o s with ⟨-, e⟩ | ⟨cur, -, ⟨-, e⟩ | ⟨-, -, ⟨old, -, e⟩ | ⟨-, -, e⟩ | ⟨-, -, e⟩⟩⟩ <;>
    rw [e]
  · simp only [directWrite_slot]
  · simp only [replaceEntry_slot]
  · simp only [newEntry_slot]
  · simp only [snapTo_slot, directWrite_slot]

/-- The parts of which a change writes what slot `k` runs: its pending actions, and whether it is RUNNING. -/
def Part.running (k : Fin 8) : Part → Bool
  | .slot j => decide (j = k)
  | .start | .wipe | .reset | .abandon => true
  | _ => false

/-- What a slot runs. -/
def sameTask (x y : Slot) : Prop := y.running = x.running ∧ y.actions = x.actions

theorem sameTask_of_owned {x y : Slot} {n : Nat} (h : y = { x with owned := n }) : sameTask x y := by
  subst h
  exact ⟨rfl, rfl⟩

theorem Change.task (h : Change G p s t) {k : Fin 8} (hp : p.running k = false) : sameTask (s.slot k) (t.slot k) := by
  cases h with
  | start | wipe | reset | abandon => cases hp
  | slot _ j | free _ j =>
    rw [modSlot_slot, if_neg (by simpa [Part.running] using hp)]
    exact ⟨rfl, rfl⟩
  | skips _ j =>
    rw [modSlot_slot]
    split <;> exact ⟨rfl, rfl⟩
  | fade => exact sameTask_of_owned (fadeRequest_slot ..)
  | complete => exact sameTask_of_owned (completed_slot ..)
  | write => exact sameTask_of_owned (directWrite_slot ..)
  | remove => exact sameTask_of_owned (removeEntry_slot ..)
  | advance => simp only [stepOn, write_slot]; exact ⟨rfl, rfl⟩
  | _ => exact ⟨rfl, rfl⟩

/-! ## Classes (R40, R44) -/

/-- The pending actions after a change keep to what was pending, or to the actions of a stored cue. -/
theorem Change.actions (h : Change G p s t) (k : Fin 8) (q : PendingAction) (hq : q ∈ (t.slot k).actions) :
    (∃ o ∈ (s.slot k).actions, q.action = o.action) ∨ ∃ c ∈ s.cues.cues, q.action ∈ c.actions := by
  by_cases hp : p.running k = false
  · exact .inl ⟨q, (h.task hp).2 ▸ hq, rfl⟩
  · cases h with
    | slot _ j n l kept =>
      rw [modSlot_slot] at hq
      split at hq
      · subst_vars; exact .inl (kept q hq)
      · exact .inl ⟨q, hq, rfl⟩
    | free =>
      rw [modSlot_slot] at hq
      split at hq
      · cases hq
      · exact .inl ⟨q, hq, rfl⟩
    | start _ j src cue free listed =>
      rw [startCue, modSlot_slot] at hq
      split at hq
      · obtain ⟨a, ha, rfl⟩ := List.mem_map.1 hq
        exact .inr ⟨cue, listed, ha⟩
      · exact .inl ⟨q, hq, rfl⟩
    | wipe | reset | abandon =>
      simp [State.slot, clearRecords, clearEngine, stateAfterReset, Machine.abandon] at hq
    | _ => exact absurd rfl hp

/-- A class CUE or HOST fade that is asked for is of a kind open to its class. -/
theorem asks_open {o : FadeOwner} {el : Element} (hs : classLaw s) (h : asks o el s) (ho : o ≠ .system) :
    elemOpen el = true := by
  obtain ⟨-, h⟩ := h
  cases o with
  | cue k =>
    obtain ⟨-, p, hp, z, d, body⟩ := h
    have := hs.2.2 k p hp
    rwa [body] at this
  | host => exact h
  | system => exact absurd rfl ho

/-- After a change each entry stood before it with its owner, or is one that was asked for. -/
theorem Change.entries (h : Change G p s t) (e : FadeEntry) (he : e ∈ t.fades) :
    (∃ x ∈ s.fades, e.owner = x.owner ∧ e.element = x.element) ∨ asks e.owner e.element s := by
  by_cases hp : p.fading = false
  · exact .inl ⟨e, h.fades hp ▸ he, rfl, rfl⟩
  · cases h with
    | fade _ el z d o asked =>
      rcases fadeRequest_fades el z d o s with h | h | ⟨cur, -, -, -, ⟨-, h⟩ | ⟨new, room, h⟩⟩ <;> rw [h] at he
      · exact .inl ⟨e, he, rfl, rfl⟩
      · exact .inl ⟨e, (List.mem_filter.1 he).1, rfl, rfl⟩
      · obtain ⟨x, hx, rfl⟩ := List.mem_map.1 he
        split
        · exact .inr asked
        · exact .inl ⟨x, hx, rfl, rfl⟩
      · rcases List.mem_append.1 he with he | he
        · exact .inl ⟨e, he, rfl, rfl⟩
        · rw [List.mem_singleton.1 he]
          exact .inr asked
    | complete =>
      rw [completed_fades] at he
      exact .inl ⟨e, (List.mem_filter.1 he).1, rfl, rfl⟩
    | write =>
      rw [directWrite_fades] at he
      exact .inl ⟨e, (List.mem_filter.1 he).1, rfl, rfl⟩
    | remove =>
      rw [removeEntry_fades] at he
      exact .inl ⟨e, (List.mem_filter.1 he).1, rfl, rfl⟩
    | advance =>
      rw [stepOn_fades] at he
      obtain ⟨x, hx, rfl⟩ := List.mem_map.1 he
      refine .inl ⟨x, hx, ?_⟩
      split <;> exact ⟨rfl, rfl⟩
    | wipe => exact .inl ⟨e, (List.mem_filter.1 he).1, rfl, rfl⟩
    | reset | abandon => cases he
    | _ => exact absurd rfl hp

/-- The stored cues after a change stood before it, or keep to their class. -/
theorem Change.cueActions (h : Change G p s t) (c : Cue) (hc : c ∈ t.cues.cues) :
    c ∈ s.cues.cues ∨ ∀ a ∈ c.actions, bodyOpen a.body := by
  by_cases hp : p.cueing = false
  · exact .inl (h.cueList hp ▸ hc)
  · cases h with
    | start => exact .inl hc
    | cues _ _ _ opens | store _ _ _ opens => exact opens c hc
    | wipe | reset => cases hc
    | _ => exact absurd rfl hp

theorem Change.classLaw (h : Change G p s t) (hs : classLaw s) : classLaw t := by
  refine ⟨fun e he ho => ?_, fun c hc => ?_, fun k q hq => ?_⟩
  · rcases h.entries e he with ⟨x, hx, howner, helement⟩ | asked
    · rw [helement]
      exact hs.1 x hx (howner ▸ ho)
    · exact asks_open hs asked ho
  · rcases h.cueActions c hc with listed | opens
    · exact hs.2.1 c listed
    · exact opens
  · rcases h.actions k q hq with ⟨o, ho, same⟩ | ⟨c, hc, ha⟩
    · rw [same]
      exact hs.2.2 k o ho
    · exact hs.2.1 c hc _ ha

/-! ## Owned fades (R44, R78) -/

/-- How many entries of a table slot `k` owns. -/
def tally (k : Fin 8) (l : List FadeEntry) : Nat := l.countP (fun e => decide (e.owner = .cue k))

theorem tally_cons (k : Fin 8) (e : FadeEntry) (l : List FadeEntry) :
    tally k (e :: l) = gains e.owner k + tally k l := by
  simp only [tally, gains, List.countP_cons, decide_eq_true_eq]
  omega

theorem tally_append (k : Fin 8) (l m : List FadeEntry) : tally k (l ++ m) = tally k l + tally k m := List.countP_append

theorem ownedBy_cue (k : Fin 8) (s : State) : ownedBy (fun o => decide (o = .cue k)) s = tally k s.fades := by
  rw [ownedBy, tally, List.countP_eq_length_filter]

/-- The entry on an element and those on the others make up the table. -/
theorem perm_entry {el : Element} {e : FadeEntry} {l : List FadeEntry} (distinct : (l.map (fun x => x.element)).Nodup)
    (h : l.find? (fun x => decide (x.element = el)) = some e) :
    l.Perm (e :: l.filter (fun x => x.element ≠ el)) := by
  induction l with
  | nil => cases h
  | cons a l ih =>
    obtain ⟨absent, rest⟩ := List.nodup_cons.1 distinct
    by_cases ha : a.element = el
    · simp only [ha, decide_true, List.find?_cons_of_pos, Option.some.injEq] at h
      subst h
      have others : l.filter (fun x => x.element ≠ el) = l := by
        refine List.filter_eq_self.2 fun x hx => ?_
        have := fun hel => absent (List.mem_map.2 ⟨x, hx, hel⟩)
        simpa [ha] using this
      rw [List.filter_cons_of_neg (by simp [ha]), others]
    · simp only [ha, decide_false, Bool.false_eq_true, not_false_eq_true, List.find?_cons_of_neg] at h
      simpa [ha] using ((ih rest h).cons a).trans (List.Perm.swap e a _)

theorem tally_entry {el : Element} {e : FadeEntry} (hs : fadeLaw s) (h : s.entry? el = some e) (k : Fin 8) :
    tally k s.fades = gains e.owner k + tally k (s.fades.filter (fun x => x.element ≠ el)) := by
  rw [tally, (perm_entry hs.2 h).countP_eq, List.countP_cons, Nat.add_comm]
  simp [gains, tally]

/-- Taking the entry on an element away takes what it counted. -/
theorem tally_removed (hs : fadeLaw s) (el : Element) (k : Fin 8) :
    tally k (s.fades.filter (fun x => x.element ≠ el)) = tally k s.fades - lostTo k (s.entry? el) := by
  cases h : s.entry? el with
  | none =>
    have all : s.fades.filter (fun x => x.element ≠ el) = s.fades :=
      List.filter_eq_self.2 fun x hx => by simpa using List.find?_eq_none.1 h x hx
    rw [all]
    rfl
  | some e =>
    rw [tally_entry hs h k]
    simp [lostTo]

/-- An entry rewritten in place counts for its new owner. -/
theorem tally_replaced {e : FadeEntry} {l : List FadeEntry} (k : Fin 8)
    (distinct : (l.map (fun x => x.element)).Nodup) (h : (l.find? (fun x => decide (x.element = e.element))).isSome) :
    tally k (l.map (fun x => if x.element = e.element then e else x)) =
      gains e.owner k + tally k (l.filter (fun x => x.element ≠ e.element)) := by
  induction l with
  | nil => cases h
  | cons a l ih =>
    obtain ⟨absent, rest⟩ := List.nodup_cons.1 distinct
    by_cases ha : a.element = e.element
    · have apart : ∀ x ∈ l, x.element ≠ e.element := fun x hx hel =>
        absent (List.mem_map.2 ⟨x, hx, hel.trans ha.symm⟩)
      have stands : l.map (fun x => if x.element = e.element then e else x) = l := by
        refine (List.map_congr_left fun x hx => ?_).trans l.map_id
        simp [apart x hx]
      have kept : l.filter (fun x => x.element ≠ e.element) = l :=
        List.filter_eq_self.2 fun x hx => by simpa using apart x hx
      rw [List.map_cons, stands, List.filter_cons, kept]
      simp [tally, gains, ha, List.countP_cons, Nat.add_comm]
    · have found : (l.find? (fun x => decide (x.element = e.element))).isSome := by simpa [ha] using h
      have ih := ih rest found
      rw [List.map_cons, List.filter_cons]
      simp only [tally, ha, List.countP_cons, ne_eq, not_false_eq_true, decide_true, if_true, if_false] at ih ⊢
      omega

/-- The counts agree with the table. -/
def countsAgree (s : State) : Prop := ∀ k, (s.slot k).owned = tally k s.fades ∧ ((s.slot k).running = false → (s.slot k).owned = 0)

theorem ownedLaw_iff : ownedLaw s ↔ countsAgree s := by
  simp only [ownedLaw, countsAgree, ownedBy_cue]

theorem countsAgree_removed {el : Element} (hf : fadeLaw s) (hs : countsAgree s)
    (hslot : ∀ k, t.slot k = { s.slot k with owned := (s.slot k).owned - lostTo k (s.entry? el) })
    (hfades : t.fades = s.fades.filter (fun x => x.element ≠ el)) : countsAgree t := by
  intro k
  obtain ⟨count, free⟩ := hs k
  rw [hslot, hfades, tally_removed hf]
  exact ⟨by rw [count], fun hr => by simp [free hr]⟩

/-- Slots that stand but for what they run, on a table that stands. -/
theorem countsAgree_of_same (hslot : ∀ k, (t.slot k).owned = (s.slot k).owned ∧ (t.slot k).running = (s.slot k).running)
    (hfades : t.fades = s.fades) (hs : countsAgree s) : countsAgree t := by
  intro k
  obtain ⟨howned, hrunning⟩ := hslot k
  rw [howned, hrunning, hfades]
  exact hs k

theorem countsAgree_fadeRequest {el : Element} {z : Int} {d : Nat} {o : FadeOwner} (asked : asks o el s)
    (hf : fadeLaw s) (hs : countsAgree s) : countsAgree (fadeRequest el z d o s).2 := by
  have owner_runs : ∀ k, (s.slot k).running = false → gains o k = 0 := by
    intro k hk
    cases o with
    | cue j =>
      have runs := asked.2.1
      have : j ≠ k := by rintro rfl; simp [hk] at runs
      simp [gains, this]
    | host | system => simp [gains]
  rcases fadeRequest_spec el z d o s with ⟨-, e⟩ | ⟨cur, -, ⟨-, e⟩ | ⟨-, -, ⟨old, he, e⟩ | ⟨he, -, e⟩ | ⟨-, -, e⟩⟩⟩ <;>
    rw [e]
  · exact hs
  · exact countsAgree_removed hf hs (directWrite_slot _ _ s) (directWrite_fades ..)
  · intro k
    obtain ⟨count, free⟩ := hs k
    have total := tally_entry hf he k
    rw [replaceEntry_slot, replaceEntry_fades,
      tally_replaced (e := fadeEntry el cur z d o) k hf.2 (Option.isSome_of_eq_some he)]
    dsimp only [fadeEntry]
    refine ⟨?_, fun hk => ?_⟩
    · show _ = gains o k + tally k (s.fades.filter (fun x => x.element ≠ el))
      omega
    · rw [free hk, owner_runs k hk]
      simp
  · intro k
    obtain ⟨count, free⟩ := hs k
    rw [newEntry_slot, newEntry_fades]
    refine ⟨?_, fun hk => ?_⟩
    · rw [tally_append, tally_cons]
      simp [count, fadeEntry, tally]
    · simp only [fadeEntry]
      rw [free hk, owner_runs k hk]
  · exact countsAgree_removed (el := el) hf hs (directWrite_slot el _ s) (directWrite_fades el _ s)

theorem Change.countsAgree (h : Change G p s t) (hG : G) (hf : Machine.fadeLaw s) (hc : Machine.classLaw s)
    (hs : Machine.countsAgree s) : Machine.countsAgree t := by
  cases h with
  | fade _ el z d o asked => exact countsAgree_fadeRequest asked hf hs
  | complete _ e stands =>
    refine countsAgree_removed hf hs (el := e.element) (fun k => ?_) (completed_fades ..)
    rw [completed_slot, stands hG]
    rfl
  | write => exact countsAgree_removed hf hs (directWrite_slot _ _ s) (directWrite_fades ..)
  | remove => exact countsAgree_removed hf hs (removeEntry_slot _ s) (removeEntry_fades ..)
  | advance _ el e =>
    intro k
    have same : tally k (stepOn el e s).fades = tally k s.fades := by
      rw [stepOn_fades, tally, List.countP_map, tally]
      congr 1
      funext x
      simp only [Function.comp_apply]
      split <;> rfl
    rw [same]
    rw [stepOn, write_slot]
    exact hs k
  | skips | slot =>
    refine countsAgree_of_same (s := s) (fun j => ?_) rfl hs
    rw [modSlot_slot]
    split <;> exact ⟨rfl, rfl⟩
  | free _ k none =>
    intro j
    have hj := hs j
    rw [modSlot_slot]
    split
    · subst_vars
      refine ⟨?_, fun _ => rfl⟩
      rcases none with none | none
      · exact none.symm.trans hj.1
      · exact (List.countP_eq_zero.2 fun e he => by simpa using none e he).symm
    · exact hj
  | start _ k src cue free =>
    intro j
    have hj := hs j
    rw [startCue, modSlot_slot]
    split
    · subst_vars
      exact ⟨(hj.2 free).symm.trans hj.1, fun _ => rfl⟩
    · exact hj
  | wipe =>
    intro k
    have none : tally k (s.fades.filter onLink) = 0 := by
      refine List.countP_eq_zero.2 fun e he => ?_
      obtain ⟨mem, link⟩ := List.mem_filter.1 he
      have closed : elemOpen e.element = false := by
        unfold onLink at link
        split at link
        · rename_i hel; rw [hel]; rfl
        all_goals cases link
      simp only [decide_eq_true_eq]
      intro owner
      have := hc.1 e mem (by simp [owner])
      simp [closed] at this
    simpa [State.slot, clearRecords, clearEngine] using none.symm
  | reset | abandon =>
    intro k
    simp [State.slot, stateAfterReset, Machine.abandon, tally]
  | _ => exact countsAgree_of_same (fun _ => ⟨rfl, rfl⟩) rfl hs

end Sys2Proof.Machine
end

section
/-! The bounds of fades: each elementary change keeps them (R41, R51). -/

namespace Sys2Proof.Machine

variable {G : Prop} {p : Part} {s t : State}

/-! ## Interpolation (R50, R51) -/

/-- A part of a difference, truncated, lies between 0 and the difference. -/
theorem tdiv_between (x : Int) {k d : Nat} (hk : k ≤ d) (hd : 0 < d) :
    min 0 x ≤ Int.tdiv (x * k) d ∧ Int.tdiv (x * k) d ≤ max 0 x := by
  have pos : ∀ y : Int, 0 ≤ y → 0 ≤ Int.tdiv (y * k) d ∧ Int.tdiv (y * k) d ≤ y := by
    intro y hy
    have hyk : 0 ≤ y * (k : Int) := by positivity
    have hyd : y * (k : Int) ≤ y * d := by gcongr
    rw [Int.tdiv_eq_ediv_of_nonneg hyk]
    exact ⟨Int.ediv_nonneg hyk (by omega), Int.ediv_le_of_le_mul (by omega) hyd⟩
  rcases Int.le_total 0 x with hx | hx
  · have := pos x hx
    omega
  · have neg := pos (-x) (by omega)
    rw [Int.neg_mul, Int.neg_tdiv] at neg
    omega

/-- An interpolation end lies between the two ends of the fade. -/
theorem interpEnd_between (el : Element) (this other : Int) :
    min this other ≤ interpEnd el this other ∧ interpEnd el this other ≤ max this other := by
  unfold interpEnd
  split
  · obtain ⟨-, h, hother⟩ := ‹_›
    simp only [h, off, Config.floorLevel] at *
    omega
  · omega

/-- The interpolated value lies between start and target. -/
theorem interp_between (el : Element) (start target : Int) {k d : Nat} (hk : k ≤ d) (hd : 0 < d) :
    min start target ≤ interp el start target k d ∧ interp el start target k d ≤ max start target := by
  have ha := interpEnd_between el start target
  have hb := interpEnd_between el target start
  have hx := tdiv_between (interpEnd el target start - interpEnd el start target) hk hd
  simp only [interp]
  omega

/-! ## The law (R16, R41, R42, R51) -/

/-- What the law says of one entry. -/
def bounded (s : State) (e : FadeEntry) : Prop :=
  e.elapsed < e.duration ∧ inRangeOf e.element e.start ∧ inRangeOf e.element e.target ∧
    (∃ v, s.value? e.element = some v ∧ min e.start e.target ≤ v ∧ v ≤ max e.start e.target) ∧
    ∀ r, (e.element = .role r ∨ e.element = .xout r ∨ e.element = .xin r) → (s.role r).active = true

theorem boundsLaw_iff : boundsLaw s ↔ ∀ e ∈ s.fades, bounded s e := Iff.rfl

/-- An entry whose element stands, and its role with it, keeps its bounds. -/
theorem bounded_of_stands {e : FadeEntry} (value : t.value? e.element = s.value? e.element)
    (active : ∀ r, (e.element = .role r ∨ e.element = .xout r ∨ e.element = .xin r) →
      (t.role r).active = (s.role r).active) (hs : bounded s e) : bounded t e := by
  obtain ⟨steps, start, target, between, cast⟩ := hs
  exact ⟨steps, start, target, value ▸ between, fun r hr => (active r hr).trans (cast r hr)⟩

/-- Direct writes and removals leave the entries on other elements, and those elements. -/
theorem bounded_of_filter {el : Element} (fades : t.fades = s.fades.filter (fun x => x.element ≠ el))
    (value : ∀ x, x ≠ el → t.value? x = s.value? x) (active : ∀ r, (t.role r).active = (s.role r).active)
    (hs : boundsLaw s) : boundsLaw t := by
  intro e he
  rw [fades] at he
  obtain ⟨mem, hne⟩ := List.mem_filter.1 he
  exact bounded_of_stands (value _ (by simpa using hne)) (fun r _ => active r) (hs e mem)

/-- The role of an element that may be asked for is ACTIVE (R41). -/
theorem asks_active {o : FadeOwner} {el : Element} (hc : classLaw s) (h : asks o el s) (r : Fin 64)
    (hr : el = .role r ∨ el = .xout r ∨ el = .xin r) : (s.role r).active = true := by
  have hopen := asks_open hc h
  obtain ⟨available, who⟩ := h
  rcases hr with rfl | rfl | rfl
  · exact available
  · cases o with
    | system => exact who r (.inl rfl)
    | cue | host => exact absurd (hopen (by simp)) (by simp [elemOpen])
  · cases o with
    | system => exact who r (.inr rfl)
    | cue | host => exact absurd (hopen (by simp)) (by simp [elemOpen])

/-- A new fade begins within its bounds (R46, R47). -/
theorem bounded_fadeEntry {el : Element} {cur z : Int} {d : Nat} {o : FadeOwner} (hl : levelLaw s) (hc : classLaw s)
    (asked : asks o el s) (hv : s.value? el = some cur) (hd : d ≠ 0) : bounded s (fadeEntry el cur z d o) := by
  refine ⟨?_, hl el cur hv, inRangeOf_clamp .., ⟨cur, hv, by simp [fadeEntry], by simp [fadeEntry]⟩, asks_active hc asked⟩
  simp only [fadeEntry, Config.longestFade]
  omega

theorem boundsLaw_fadeRequest {el : Element} {z : Int} {d : Nat} {o : FadeOwner} (hl : levelLaw s) (hc : classLaw s)
    (asked : asks o el s) (hs : boundsLaw s) : boundsLaw (fadeRequest el z d o s).2 := by
  have active : ∀ r, ((fadeRequest el z d o s).2.role r).active = (s.role r).active := fun r => by rw [fadeRequest_role]
  have others : ∀ x, x ≠ el → (fadeRequest el z d o s).2.value? x = s.value? x := fun x hx => value_fadeRequest_ne hx z d o s
  rcases fadeRequest_spec el z d o s with ⟨-, e⟩ | ⟨cur, hv, ⟨-, e⟩ | ⟨hd, -, ⟨old, -, e⟩ | ⟨-, -, e⟩ | ⟨-, -, e⟩⟩⟩ <;>
    rw [e] at active others ⊢
  · exact hs
  · exact bounded_of_filter (directWrite_fades ..) others active hs
  · intro x hx
    rw [replaceEntry_fades] at hx
    obtain ⟨y, hy, rfl⟩ := List.mem_map.1 hx
    split
    · exact bounded_of_stands (by simp) (fun r _ => active r) (bounded_fadeEntry hl hc asked hv hd)
    · exact bounded_of_stands (by simp) (fun r _ => active r) (hs y hy)
  · intro x hx
    rw [newEntry_fades, List.mem_append, List.mem_singleton] at hx
    rcases hx with hx | rfl
    · exact bounded_of_stands (by simp) (fun r _ => active r) (hs x hx)
    · exact bounded_of_stands (by simp) (fun r _ => active r) (bounded_fadeEntry hl hc asked hv hd)
  · exact bounded_of_filter (by simp only [snapTo_eq, raiseFadeSnap_fades, directWrite_fades]) others active hs

/-- A step that does not complete leaves its element between start and target (R50, R51). -/
theorem boundsLaw_stepOn {el : Element} {e : FadeEntry} (hf : fadeLaw s) (he : s.entry? el = some e)
    (steps : e.elapsed + 1 < e.duration) (hs : boundsLaw s) : boundsLaw (stepOn el e s) := by
  have active : ∀ r, ((stepOn el e s).role r).active = (s.role r).active := fun r => by
    rw [stepOn, write_role]; rfl
  have value : ∀ x, (stepOn el e s).value? x =
      if x = el then (s.value? el).map (fun _ => elemClamp el (interp el e.start e.target (e.elapsed + 1) e.duration))
      else s.value? x := fun x => value_write ..
  intro x hx
  rw [stepOn_fades] at hx
  obtain ⟨y, hy, rfl⟩ := List.mem_map.1 hx
  split
  · rename_i hel
    have mem : e ∈ s.fades := List.mem_of_find?_eq_some he
    have same : y = e := List.inj_on_of_nodup_map hf.2 hy mem (hel.trans (entry_element he).symm)
    subst same hel
    obtain ⟨-, start, target, ⟨v, hv, -⟩, cast⟩ := hs y mem
    have between := interp_between y.element y.start y.target (k := y.elapsed + 1) (d := y.duration) (by omega) (by omega)
    have range : inRangeOf y.element (interp y.element y.start y.target (y.elapsed + 1) y.duration) := by
      obtain ⟨s1, s2⟩ := start
      obtain ⟨t1, t2⟩ := target
      exact ⟨by omega, by omega⟩
    refine ⟨steps, start, target, ⟨_, ?_, between⟩, fun r hr => (active r).trans (cast r hr)⟩
    rw [value, if_pos rfl, hv, elemClamp_of_inRange range]
    rfl
  · exact bounded_of_stands ((value _).trans (if_neg ‹_›)) (fun r _ => active r) (hs y hy)

/-- A source without an entry has no level (R40). -/
theorem value_send_none {f : Fin 12} {src : Source} (new : hasEntry f src s = false) : s.value? (.send f src) = none := by
  have absent : (s.mix f).entries.find? (fun e => decide (e.source = src)) = none := by
    simpa [hasEntry, List.find?_eq_none] using new
  simp [State.value?, absent]

theorem value_relaySend_none {src : RelaySource} (new : hasRelayEntry src s = false) :
    s.value? (.relaySend src) = none := by
  have absent : s.relay.entries.find? (fun e => decide (e.source = src)) = none := by
    simpa [hasRelayEntry, List.find?_eq_none] using new
  simp [State.value?, absent]

theorem Change.boundsLaw (h : Change G p s t) (hf : Machine.fadeLaw s) (hl : Machine.levelLaw s) (hc : Machine.classLaw s)
    (hs : Machine.boundsLaw s) : Machine.boundsLaw t := by
  by_cases hp : p.fading = false ∧ p.moving = false ∧ p.casting = false
  · obtain ⟨fading, moving, casting⟩ := hp
    intro e he
    exact bounded_of_stands (h.value moving _) (fun r _ => h.active casting r) (hs e (h.fades fading ▸ he))
  · cases h with
    | fade _ el z d o asked => exact boundsLaw_fadeRequest hl hc asked hs
    | complete =>
      exact bounded_of_filter (completed_fades ..) (fun x hx => by simp [completed_value, hx])
        (fun r => by rw [completed_role]) hs
    | write =>
      exact bounded_of_filter (directWrite_fades ..) (fun x hx => by simp [value_directWrite, hx])
        (fun r => by rw [directWrite_role]) hs
    | remove => exact bounded_of_filter (removeEntry_fades ..) (fun x _ => by simp) (fun r => by rw [removeEntry_role]) hs
    | advance _ el e he steps => exact boundsLaw_stepOn hf he steps hs
    | cast _ r x vacant same =>
      obtain ⟨-, -, hlevel, hxout, hxin, -⟩ := same
      intro e he
      have other : ∀ q, (e.element = .role q ∨ e.element = .xout q ∨ e.element = .xin q) → q ≠ r := by
        rintro q hq rfl
        have := (hs e he).2.2.2.2 q hq
        rw [vacant] at this
        cases this
      refine bounded_of_stands ?_ (fun q hq => ?_) (hs e he)
      · rw [value_setRole (s := s) (t := s.modRole r fun _ => x) ⟨hlevel, hxout, hxin⟩ (fun q => modRole_role ..) rfl rfl
          rfl rfl, if_neg fun hr => other r hr rfl]
      · rw [modRole_role, if_neg (other q hq).symm]
    | vacate _ r noFade =>
      obtain ⟨hrole, hxout, hxin⟩ := noFade
      intro e he
      have absent : ∀ el, s.entry? el = none → e.element ≠ el := fun el hel => by
        simpa using List.find?_eq_none.1 hel e he
      have other : ∀ q, (e.element = .role q ∨ e.element = .xout q ∨ e.element = .xin q) → q ≠ r := by
        rintro q (hq | hq | hq) rfl
        · exact absent _ hrole hq
        · exact absent _ hxout hq
        · exact absent _ hxin hq
      refine bounded_of_stands ?_ (fun q hq => ?_) (hs e he)
      · rw [value_setRole (s := s) (x := {}) ⟨rfl, rfl, rfl⟩ (vacated_role r · s) (vacatedTable_groups ..) rfl rfl rfl,
          if_neg fun hr => other r hr rfl]
      · rw [vacated_role, if_neg (other q hq).symm]
    | addSend _ f src z range new =>
      intro e he
      have stands : e.element ≠ .send f src := by
        intro hel
        obtain ⟨-, -, -, ⟨v, hv, -⟩, -⟩ := hs e he
        rw [hel, value_send_none new] at hv
        cases hv
      exact bounded_of_stands (s := s) (by rw [value_addSend new, if_neg stands]) (fun _ _ => rfl) (hs e he)
    | dropSend _ f src noFade =>
      intro e he
      have absent : e.element ≠ .send f src := by simpa using List.find?_eq_none.1 noFade e he
      exact bounded_of_stands (s := s) (by rw [value_dropSend, if_neg absent]) (fun _ _ => rfl) (hs e he)
    | addRelaySend _ src z range new =>
      intro e he
      have stands : e.element ≠ .relaySend src := by
        intro hel
        obtain ⟨-, -, -, ⟨v, hv, -⟩, -⟩ := hs e he
        rw [hel, value_relaySend_none new] at hv
        cases hv
      exact bounded_of_stands (s := s) (by rw [value_addRelaySend new, if_neg stands]) (fun _ _ => rfl) (hs e he)
    | dropRelaySend _ src noFade =>
      intro e he
      have absent : e.element ≠ .relaySend src := by simpa using List.find?_eq_none.1 noFade e he
      exact bounded_of_stands (s := s) (by rw [value_dropRelaySend, if_neg absent]) (fun _ _ => rfl) (hs e he)
    | wipe =>
      intro e he
      obtain ⟨mem, link⟩ := List.mem_filter.1 he
      obtain ⟨n, hn⟩ : ∃ n, e.element = .link n := by
        unfold onLink at link
        split at link
        · exact ⟨_, ‹_›⟩
        all_goals cases link
      exact bounded_of_stands (s := s) (by rw [hn]; rfl) (fun r hr => by simp [hn] at hr) (hs e mem)
    | reset | abandon => intro e he; cases he
    | _ => exact absurd ⟨rfl, rfl, rfl⟩ hp

end Sys2Proof.Machine
end

section
/-! The shared operations of calls and of the Cue Engine's actions as runs of elementary changes. -/

namespace Sys2Proof.Machine

variable {G : Prop} {p : Part} {K : Set Part} {s t : State}

/-! ## Slots (R78, R90) -/

theorem modSlot_congr {k : Fin 8} {f g : Slot → Slot} (h : f (s.slot k) = g (s.slot k)) : s.modSlot k f = s.modSlot k g := by
  simp only [State.modSlot, Table.modify]
  rw [show f (s.engine.slots.get k) = g (s.engine.slots.get k) from h]

/-- A slot with actions pending is RUNNING. -/
def occupied (k : Fin 8) (s : State) : Prop := (s.slot k).running = true ∨ (s.slot k).actions = []

theorem Change.occupied {k : Fin 8} (h : Change G p s t) (hs : Machine.occupied k s) : Machine.occupied k t := by
  by_cases hp : p.running k = false
  · obtain ⟨running, actions⟩ := h.task hp
    exact hs.imp (fun h => running.trans h) (fun h => actions.trans h)
  · cases h with
    | slot _ j n l kept =>
      have hj : j = k := by simpa [Part.running] using hp
      subst hj
      rw [Machine.occupied, modSlot_slot, if_pos rfl]
      refine hs.imp id fun none => List.eq_nil_iff_forall_not_mem.2 fun q hq => ?_
      obtain ⟨o, ho, -⟩ := kept q hq
      rw [none] at ho
      cases ho
    | free _ j =>
      have hj : j = k := by simpa [Part.running] using hp
      subst hj
      exact .inr (by rw [modSlot_slot, if_pos rfl])
    | start _ j src cue =>
      rw [Machine.occupied, startCue, modSlot_slot]
      split
      · exact .inl rfl
      · exact hs
    | wipe | reset | abandon =>
      exact .inr (by simp [State.slot, clearRecords, clearEngine, stateAfterReset, Machine.abandon])
    | _ => exact absurd rfl hp

theorem Run.task {k : Fin 8} (each : ∀ p ∈ K, p.running k = false) (h : Run G K s t) : sameTask (s.slot k) (t.slot k) :=
  h.keeps (P := fun u => sameTask (s.slot k) (u.slot k))
    (fun p hp _ _ change ha => ⟨(change.task (each p hp)).1.trans ha.1, (change.task (each p hp)).2.trans ha.2⟩) ⟨rfl, rfl⟩

theorem Run.occupied {k : Fin 8} (h : Run G K s t) (hs : Machine.occupied k s) : Machine.occupied k t :=
  h.keeps (P := Machine.occupied k) (fun _ _ _ _ change => change.occupied) hs

/-- What the test for completion may do: slots become FREE, with CUE_DONE. -/
def settling : Set Part := {p | p = .raised .cueDone ∨ ∃ k, p = .slot k}

/-- The same of every slot but one. -/
def settlingOthers (k : Fin 8) : Set Part := {p | p = .raised .cueDone ∨ ∃ j, j ≠ k ∧ p = .slot j}

theorem settlingOthers_sub (k : Fin 8) : settlingOthers k ⊆ settling := by
  rintro p (h | ⟨j, -, h⟩)
  · exact .inl h
  · exact .inr ⟨j, h⟩

theorem run_settle {k : Fin 8} (done : .raised .cueDone ∈ K) (slot : .slot k ∈ K) : Run G K s (settle k s) := by
  rcases settle_cases k s with ⟨-, e⟩ | ⟨fin, e⟩ <;> rw [e]
  · exact Run.refl ..
  · have none : (s.slot k).owned = 0 := by
      simp only [finished, Bool.and_eq_true, decide_eq_true_eq] at fin
      exact fin.2
    exact (Run.one slot (.free s k (.inl none))).trans (Run.one done (.raised _ .cueDone _ fun _ _ => rfl))

theorem run_settleAll : Run G settling s (settleAll s) :=
  Run.foldl_all fun k _ => run_settle (.inl rfl) (.inr ⟨k, rfl⟩)

theorem run_settleOthers (k : Fin 8) : Run G (settlingOthers k) s (settleOthers k s) :=
  (Run.foldl (P := fun _ => True) (fun j hj u _ => ⟨run_settle (.inl rfl)
    (.inr ⟨j, by simpa using (List.mem_filter.1 hj).2, rfl⟩), trivial⟩) trivial).1

/-- A slot with actions pending is not completed (R90). -/
theorem settle_slot_of_pending {k : Fin 8} (j : Fin 8) (h : (s.slot k).actions ≠ []) : (settle j s).slot k = s.slot k := by
  rcases settle_cases j s with ⟨-, e⟩ | ⟨fin, e⟩ <;> rw [e]
  show (s.modSlot j fun _ => {}).slot k = _
  rw [modSlot_slot]
  split
  · subst_vars
    exact absurd fin (by simp [finished, h])
  · rfl

theorem settleOthers_slot_of_pending {k : Fin 8} (j : Fin 8) (h : (s.slot k).actions ≠ []) :
    (settleOthers j s).slot k = s.slot k := by
  unfold settleOthers
  generalize (List.finRange 8).filter _ = l
  induction l generalizing s with
  | nil => rfl
  | cons i l ih =>
    have one := settle_slot_of_pending i h
    rw [List.foldl_cons, ih (by rw [one]; exact h), one]

/-! ## Calls (R123 to R129) -/

/-- What calls may do: the call records change, stations enter and leave CALL, and their ducks fade. -/
def calling : Set Part := {p | p = .calls ∨ p = .inCall ∨ p = .raised .callChange ∨ ∃ n, p = .fade .system (.duck n)}

theorem run_raiseCallChange (q : Fin 16) (why : EndReason) : Run G calling s (raiseCallChange q why s) :=
  Run.one (.inr (.inr (.inl rfl))) (.raised s .callChange _ fun _ _ => rfl)

theorem run_calls (a : Option ActiveCall) (q : List Call) (n : BitVec 32) :
    Run G calling s { s with relay := { s.relay with active := a, queue := q, arrivals := n } } :=
  Run.one (.inl rfl) (.calls s a q n)

theorem asks_duck (n : Fin 32) (s : State) : asks .system (.duck n) s := ⟨rfl, fun r h => by simp at h⟩

theorem run_handoverStation (o n : BitVec 32) (depth : Int) (st : Fin 32) :
    Run G calling s (handoverStation o n depth s st) := by
  rcases handoverStation_cases o n depth s st with ⟨-, e⟩ | ⟨-, -, e⟩ | ⟨-, -, e⟩ <;> rw [e]
  · exact (Run.one (.inr (.inl rfl)) (.inCall s st true)).trans
      (Run.one (.inr (.inr (.inr ⟨st, rfl⟩))) (.fade _ _ _ _ .system (asks_duck st _)))
  · exact (Run.one (.inr (.inl rfl)) (.inCall s st false)).trans
      (Run.one (.inr (.inr (.inr ⟨st, rfl⟩))) (.fade _ _ _ _ .system (asks_duck st _)))
  · exact Run.refl ..

theorem run_handover (o n : BitVec 32) (depth : Int) : Run G calling s (handover o n depth s) :=
  Run.foldl_all fun st _ => run_handoverStation o n depth st

/-- An advance is a loss of the calls passed over, the new call records, and one handover (R127 to R129). -/
theorem advance_eq (o : BitVec 32) (calls : List Call) (s : State) :
    advance o calls s =
      handover o (activeSet (pickCall s calls).1) (activeDepth s (pickCall s calls).1)
        (((pickCall s calls).2.2.foldl (fun s p => raiseCallChange p .noTarget s) s).modRelay
          (fun x => { x with active := (pickCall s calls).1, queue := (pickCall s calls).2.1 })) := rfl

theorem run_advance (o : BitVec 32) (calls : List Call) : Run G calling s (advance o calls s) := by
  rw [advance_eq]
  obtain ⟨a, q, gone⟩ := pickCall s calls
  have lost : Run G calling s (gone.foldl (fun s p => raiseCallChange p .noTarget s) s) :=
    Run.foldl_all fun q _ => run_raiseCallChange q .noTarget
  exact lost.trans ((run_calls a q _).trans (run_handover ..))

theorem run_endActive (why : EndReason) : Run G calling s (endActive why s) := by
  unfold endActive
  split
  · exact Run.refl ..
  · exact (run_raiseCallChange ..).trans (run_advance ..)

theorem run_endPending (q : Fin 16) (why : EndReason) : Run G calling s (endPending q why s) :=
  (run_calls s.relay.active (s.relay.queue.filter fun c => c.preset ≠ q) s.relay.arrivals).trans (run_raiseCallChange ..)

theorem run_countArrival : Run G calling s (countArrival s) := run_calls s.relay.active s.relay.queue (s.relay.arrivals + 1#32)

theorem run_joinQueue {c : Call} {u : State} {other : Option (Fin 16)} (h : joinQueue c s = some (u, other)) :
    Run G calling s u := by
  unfold joinQueue at h
  split at h
  · cases h
    exact run_calls s.relay.active _ s.relay.arrivals
  · split at h
    · cases h
    · split at h
      · cases h
        exact (run_calls s.relay.active _ s.relay.arrivals).trans (run_raiseCallChange ..)
      · cases h

/-- What a call request leaves, by its cases (R123 to R125). -/
theorem callRequest_spec (q : Fin 16) (o : Origin) (s : State) :
    (((s.preset q).source.isNone = true ∨ callLives q s = true) ∧ (callRequest q o s).2 = s) ∨
    ((s.preset q).source.isNone = false ∧ callLives q s = false ∧
      ((s.relay.active = none ∧
          (callRequest q o s).2 = advance 0#32 (newCall q o s :: s.relay.queue) (countArrival s)) ∨
      (∃ a, s.relay.active = some a ∧
        ((callRequest q o s).2 = advance a.stations (newCall q o s :: s.relay.queue)
          (raiseCallChange a.call.preset .preempted (countArrival s)) ∨
        (joinQueue (newCall q o s) s = none ∧ (callRequest q o s).2 = s) ∨
        ∃ u other, joinQueue (newCall q o s) s = some (u, other) ∧ (callRequest q o s).2 = countArrival u)))) := by
  unfold callRequest
  cases hsource : (s.preset q).source.isNone with
  | true => exact .inl ⟨.inl rfl, rfl⟩
  | false =>
    cases hlives : callLives q s with
    | true => exact .inl ⟨.inr rfl, rfl⟩
    | false =>
      refine .inr ⟨rfl, rfl, ?_⟩
      cases hactive : s.relay.active with
      | none => exact .inl ⟨rfl, rfl⟩
      | some a =>
        refine .inr ⟨a, rfl, ?_⟩
        simp only [Bool.false_eq_true, if_false]
        split
        · exact .inl rfl
        · cases hjoin : joinQueue (newCall q o s) s with
          | none => exact .inr (.inl ⟨rfl, by rw [newCall] at hjoin; rw [hjoin]⟩)
          | some x => exact .inr (.inr ⟨x.1, x.2, rfl, by rw [newCall] at hjoin; rw [hjoin]⟩)

theorem run_callRequest (q : Fin 16) (o : Origin) : Run G calling s (callRequest q o s).2 := by
  rcases callRequest_spec q o s with ⟨-, e⟩ | ⟨-, -, ⟨-, e⟩ | ⟨a, -, e | ⟨-, e⟩ | ⟨u, other, join, e⟩⟩⟩ <;> rw [e]
  · exact Run.refl ..
  · exact run_countArrival.trans (run_advance ..)
  · exact run_countArrival.trans ((run_raiseCallChange ..).trans (run_advance ..))
  · exact Run.refl ..
  · exact (run_joinQueue join).trans run_countArrival

/-! ## Actions (R85 to R91) -/

/-- What an action of slot `k` may do. -/
def acting (k : Fin 8) : Set Part :=
  {p | p ∈ calling ∨ p = .role ∨ p = .triggers ∨ p = .skips k ∨ p = .raised .triggerLost ∨ p = .raised .actionSkipped ∨
    ∃ el, p = .fade (.cue k) el}

theorem calling_sub_acting (k : Fin 8) : calling ⊆ acting k := fun _ h => .inl h

theorem acting_running {j k : Fin 8} (hp : p ∈ acting j) : p.running k = false := by
  rcases hp with (rfl | rfl | rfl | ⟨n, rfl⟩) | rfl | rfl | rfl | rfl | rfl | ⟨el, rfl⟩ <;> rfl

theorem settlingOthers_running {k : Fin 8} (hp : p ∈ settlingOthers k) : p.running k = false := by
  rcases hp with rfl | ⟨j, hj, rfl⟩
  · rfl
  · simpa [Part.running] using hj

theorem run_skipAction (k : Fin 8) : Run G (acting k) s (skipAction k s) := by
  have counted : s.modSlot k (fun x => { x with skipped := x.skipped + 1 }) =
      s.modSlot k (fun x => { x with skipped := (s.slot k).skipped + 1 }) := modSlot_congr rfl
  rw [skipAction, counted]
  exact (Run.one (p := .skips k) (by simp [acting]) (.skips s k _)).trans
    (Run.one (p := .raised .actionSkipped) (by simp [acting]) (.raised _ .actionSkipped _ fun _ _ => rfl))

theorem run_pushTrigger (k : Fin 8) (code : Nat) : Run G (acting k) s (pushTrigger code s) := by
  unfold pushTrigger
  split
  · refine Run.one (p := .triggers) (by simp [acting]) (.triggers s (s.engine.triggers ++ [code]) (.inl ?_))
    rw [List.length_append]
    exact ‹_›
  · exact Run.one (p := .raised .triggerLost) (by simp [acting]) (.raised s .triggerLost _ fun _ _ => rfl)

theorem run_actOn {k : Fin 8} {b : ActionBody} (forced : Bool)
    (h : (s.slot k).running = true ∧ ∃ p ∈ (s.slot k).actions, p.action.body = b) :
    Run G (acting k) s (actOn k forced b s) := by
  cases b with
  | level el z d =>
    simp only [actOn]
    split
    · obtain ⟨running, p, hp, body⟩ := h
      exact Run.one (p := .fade (.cue k) el) (by simp [acting]) (.fade s el z _ (.cue k) ⟨‹_›, running, p, hp, z, d, body⟩)
    · exact run_skipAction k
  | member r g =>
    simp only [actOn]
    split
    · exact Run.one (p := .role) (by simp [acting]) (.role s r _ ⟨rfl, rfl, rfl, rfl, rfl, rfl⟩)
    · exact run_skipAction k
  | route r b =>
    simp only [actOn]
    split
    · exact Run.one (p := .role) (by simp [acting]) (.role s r _ ⟨rfl, rfl, rfl, rfl, rfl, rfl⟩)
    · exact run_skipAction k
  | call q =>
    simp only [actOn]
    split
    · exact (run_callRequest ..).mono (calling_sub_acting k)
    · exact run_skipAction k
  | trigger code => exact run_pushTrigger k code

theorem run_execAction {k : Fin 8} {q : PendingAction} (forced : Bool) (running : occupied k s)
    (h : q ∈ (s.slot k).actions) : Run G (acting k) s (execAction k forced q.action s) := by
  rcases execAction_cases k forced q.action s with ⟨-, e⟩ | ⟨-, e⟩ <;> rw [e]
  · exact Run.refl ..
  · refine run_actOn forced ⟨running.resolve_right fun none => ?_, q, h, rfl⟩
    rw [none] at h
    cases h

/-! ## Actions that fall due -/

/-- What the actions of slot `k` may do, as they leave its list one by one. -/
def taking (k : Fin 8) : Set Part := {p | p ∈ acting k ∨ p ∈ settling}

theorem acting_sub_taking (k : Fin 8) : acting k ⊆ taking k := fun _ h => .inl h

theorem settling_sub_taking (k : Fin 8) : settling ⊆ taking k := fun _ h => .inr h

/-- An action executes and the first that passes the test leaves the list. -/
def takeBy (test : PendingAction → Bool) (k : Fin 8) (s : State) (q : PendingAction) : State :=
  settleOthers k ((execAction k false q.action s).modSlot k (fun x => { x with actions := x.actions.eraseP test }))

theorem takeFalling_eq (k : Fin 8) : takeFalling k = takeBy fallsDue k := rfl

theorem runDue_eq (k : Fin 8) (s : State) : runDue k s = ((s.slot k).actions.filter due).foldl (takeBy due k) s := rfl

theorem filter_eraseP {α : Type} (test : α → Bool) (l : List α) : (l.eraseP test).filter test = (l.filter test).tail := by
  induction l with
  | nil => rfl
  | cons a l ih =>
    by_cases h : test a = true
    · simp [h]
    · simp [h, ih]

/-- After an action has been taken its slot runs what is left. -/
theorem takeBy_task {test : PendingAction → Bool} {k : Fin 8} {q : PendingAction} (running : occupied k s)
    (h : q ∈ (s.slot k).actions) :
    sameTask { s.slot k with actions := (s.slot k).actions.eraseP test } ((takeBy test k s q).slot k) := by
  obtain ⟨hr, ha⟩ := (run_settleOthers (G := True) k
    (s := (execAction k false q.action s).modSlot k (fun x => { x with actions := x.actions.eraseP test }))).task
      fun _ => settlingOthers_running
  obtain ⟨er, ea⟩ := (run_execAction (G := True) false running h).task (k := k) fun _ => acting_running
  rw [modSlot_slot, if_pos rfl] at hr ha
  exact ⟨hr.trans er, ha.trans (congrArg (·.eraseP test) ea)⟩

theorem run_takeBy {test : PendingAction → Bool} {k : Fin 8} {q : PendingAction} (running : occupied k s)
    (h : q ∈ (s.slot k).actions) : Run G (taking k) s (takeBy test k s q) := by
  refine ((run_execAction false running h).mono (acting_sub_taking k)).trans (Run.trans (Run.one (p := .slot k)
    (settling_sub_taking k (.inr ⟨k, rfl⟩)) ?_)
    ((run_settleOthers k).mono fun _ h => settling_sub_taking k (settlingOthers_sub k h)))
  generalize execAction k false q.action s = u
  rw [modSlot_congr (g := fun x => { x with elapsed := (u.slot k).elapsed, actions := (u.slot k).actions.eraseP test }) rfl]
  exact .slot u k _ _ fun o ho => ⟨o, List.mem_of_mem_eraseP ho, rfl⟩

/-- The actions of a slot that pass a test are taken one by one. -/
theorem run_takeAll {test : PendingAction → Bool} {k : Fin 8} {l : List PendingAction} (running : occupied k s)
    (h : (s.slot k).actions.filter test = l) : Run G (taking k) s (l.foldl (takeBy test k) s) := by
  induction l generalizing s with
  | nil => exact Run.refl ..
  | cons q l ih =>
    have mem : q ∈ (s.slot k).actions := (List.mem_filter.1 (h ▸ List.mem_cons_self)).1
    obtain ⟨hr, ha⟩ := takeBy_task (test := test) running mem
    refine (run_takeBy running mem).trans (ih ((run_takeBy (G := G) running mem).occupied running) ?_)
    rw [ha, filter_eraseP, h, List.tail_cons]

theorem run_runDue {k : Fin 8} (running : occupied k s) : Run G (taking k) s (runDue k s) := run_takeAll running rfl

end Sys2Proof.Machine
end

section
/-! Completions, GO and the show inputs as runs of elementary changes. -/

namespace Sys2Proof.Machine

variable {G : Prop} {p : Part} {K : Set Part} {s t : State}

/-! ## The completion of a fade (R53, R56) -/

/-- What the completion of an entry may do; that of XOUT ends the crossfade of its role (R21). -/
def completing (o : FadeOwner) (el : Element) : Set Part :=
  {p | p = .complete o el ∨ ∃ r, el = .xout r ∧ (p = .release r ∨ p = .write el)}

theorem endCrossfade_eq (r : Fin 64) (s : State) :
    endCrossfade r s = directWrite (.xout r) 0 { s with table := releasedTable r s } := by
  unfold endCrossfade releasedTable
  congr 1
  rw [unbindOpt_eq]
  rfl

theorem completeEntry_eq (e : FadeEntry) (s : State) : completeEntry e s = ownerTold e.element (completed e s) := rfl

theorem run_completeEntry {e : FadeEntry} (h : G → s.entry? e.element = some e) :
    Run G (completing e.owner e.element) s (completeEntry e s) := by
  rw [completeEntry_eq]
  have done : Run G (completing e.owner e.element) s (completed e s) := Run.one (.inl rfl) (.complete s e h)
  cases hel : e.element with
  | xout r =>
    rw [hel] at done
    refine done.trans ?_
    rw [show ownerTold (.xout r) (completed e s) = endCrossfade r (completed e s) from rfl, endCrossfade_eq]
    exact (Run.one (p := .release r) (.inr ⟨r, rfl, .inl rfl⟩) (.release _ r)).trans
      (Run.one (p := .write (.xout r)) (.inr ⟨r, rfl, .inr rfl⟩) (.write _ _ 0))
  | _ => rw [hel] at done; exact done

/-- A completion leaves the entries on other elements. -/
theorem completeEntry_fades (e : FadeEntry) (s : State) :
    (completeEntry e s).fades = s.fades.filter (fun x => x.element ≠ e.element) := by
  rw [completeEntry_eq]
  cases hel : e.element with
  | xout r =>
    rw [show ownerTold (.xout r) (completed e s) = endCrossfade r (completed e s) from rfl, endCrossfade_eq,
      directWrite_fades]
    show (completed e s).fades.filter _ = _
    rw [completed_fades, hel, List.filter_filter]
    simp
  | _ => simp only [ownerTold, completed_fades, hel]

/-- The entry on an element is the one of a lawful table that addresses it. -/
theorem entry_of_mem {e : FadeEntry} (hs : fadeLaw s) (h : e ∈ s.fades) : s.entry? e.element = some e := by
  cases he : s.entry? e.element with
  | none => simpa using List.find?_eq_none.1 he e h
  | some x => rw [List.inj_on_of_nodup_map hs.2 (List.mem_of_find?_eq_some he) h (entry_element he)]

/-- Entries of a lawful table complete one after another. -/
theorem run_completeAll {l : List FadeEntry} (owners : ∀ e ∈ l, completing e.owner e.element ⊆ K)
    (law : G → fadeLaw s ∧ (∀ e ∈ l, e ∈ s.fades) ∧ (l.map (fun e => e.element)).Nodup) :
    Run G K s (l.foldl (fun s e => completeEntry e s) s) := by
  induction l generalizing s with
  | nil => exact Run.refl ..
  | cons e l ih =>
    refine ((run_completeEntry fun g => ?_).mono (owners e (by simp))).trans
      (ih (fun x hx => owners x (by simp [hx])) fun g => ?_)
    · obtain ⟨hf, mem, -⟩ := law g
      exact entry_of_mem hf (mem e (by simp))
    · obtain ⟨hf, mem, distinct⟩ := law g
      rw [List.map_cons, List.nodup_cons] at distinct
      obtain ⟨new, distinct⟩ := distinct
      refine ⟨fadeLaw_of_sublist (completeEntry_fades .. ▸ List.filter_sublist) hf, fun x hx => ?_, distinct⟩
      rw [completeEntry_fades, List.mem_filter]
      refine ⟨mem x (by simp [hx]), ?_⟩
      have : x.element ≠ e.element := fun same => new (same ▸ List.mem_map_of_mem hx)
      simpa using this

/-- What the completion of the entries a slot owns may do. -/
def ownedCompleting (k : Fin 8) : Set Part := {p | ∃ el, p ∈ completing (.cue k) el}

theorem run_completeOwned {k : Fin 8} (law : G → fadeLaw s) : Run G (ownedCompleting k) s (completeOwned k s) := by
  refine run_completeAll (fun e he p hp => ?_) fun g => ⟨law g, fun e he => (List.mem_filter.1 he).1, ?_⟩
  · have owner : e.owner = .cue k := by simpa using (List.mem_filter.1 he).2
    exact ⟨e.element, owner ▸ hp⟩
  · exact (law g).2.sublist (List.filter_sublist.map _)

/-- Completions leave the entries on other elements. -/
theorem completeAll_fades (l : List FadeEntry) (s : State) (e : FadeEntry)
    (h : e ∈ (l.foldl (fun s e => completeEntry e s) s).fades) : e ∈ s.fades ∧ ∀ x ∈ l, e.element ≠ x.element := by
  induction l generalizing s with
  | nil => exact ⟨h, by simp⟩
  | cons x l ih =>
    obtain ⟨mem, rest⟩ := ih _ h
    rw [completeEntry_fades, List.mem_filter] at mem
    exact ⟨mem.1, by simpa using ⟨by simpa using mem.2, rest⟩⟩

theorem completeOwned_owner (k : Fin 8) (s : State) : ∀ e ∈ (completeOwned k s).fades, e.owner ≠ .cue k := by
  intro e he owner
  obtain ⟨mem, rest⟩ := completeAll_fades _ s e he
  exact rest e (List.mem_filter.2 ⟨mem, by simpa using owner⟩) rfl

/-! ## Forced completion and the room for a cue (R83) -/

/-- What a fired GO may do. -/
def firing : Set Part :=
  {p | p = .start ∨ p = .raised .cueFired ∨ p = .raised .cueForced ∨ ∃ k, p ∈ taking k ∨ p ∈ ownedCompleting k}

theorem taking_sub_firing (k : Fin 8) : taking k ⊆ firing := fun _ h => .inr (.inr (.inr ⟨k, .inl h⟩))

theorem run_forcedActions {k : Fin 8} {l : List PendingAction} (running : occupied k s) (h : ∀ q ∈ l, q ∈ (s.slot k).actions) :
    Run G (taking k) s (l.foldl (fun s q => settleOthers k (execAction k true q.action s)) s) := by
  refine (Run.foldl (P := fun u => occupied k u ∧ ∀ q ∈ l, q ∈ (u.slot k).actions) (fun q hq u hu => ?_) ⟨running, h⟩).1
  obtain ⟨occupied, pending⟩ := hu
  have act : ∀ G', Run G' (acting k) u (execAction k true q.action u) := fun _ => run_execAction true occupied (pending q hq)
  have whole : Run G (taking k) u (settleOthers k (execAction k true q.action u)) :=
    ((act G).mono (acting_sub_taking k)).trans
      ((run_settleOthers k).mono fun _ h => settling_sub_taking k (settlingOthers_sub k h))
  have task := ((run_settleOthers (G := G) k).task (k := k) fun _ => settlingOthers_running).2.trans
    ((act G).task fun _ => acting_running).2
  exact ⟨whole, whole.occupied occupied, fun q hq => task ▸ pending q hq⟩

theorem Run.fadeLaw (h : Run G K s t) (hs : Machine.fadeLaw s) : Machine.fadeLaw t :=
  h.keeps (P := Machine.fadeLaw) (fun _ _ _ _ change => change.fadeLaw) hs

theorem run_forceComplete {k : Fin 8} (law : G → fadeLaw s) (running : occupied k s) :
    Run G firing s (forceComplete k s) := by
  have acts : Run G (taking k) s ((s.slot k).actions.foldl (fun s q => settleOthers k (execAction k true q.action s)) s) :=
    run_forcedActions running fun _ h => h
  unfold forceComplete
  refine (acts.mono (taking_sub_firing k)).trans (Run.trans
    ((run_completeOwned fun g => acts.fadeLaw (law g)).mono fun _ h => .inr (.inr (.inr ⟨k, .inr h⟩))) ?_)
  exact (Run.one (p := .slot k) (taking_sub_firing k (.inr (.inr ⟨k, rfl⟩)))
    (.free _ k (.inr (completeOwned_owner k _)))).trans
    (Run.one (p := .raised .cueForced) (.inr (.inr (.inl rfl))) (.raised _ .cueForced _ fun _ _ => rfl))

theorem forceComplete_slot (k : Fin 8) (s : State) : (forceComplete k s).slot k = {} := by
  show (State.modSlot _ k fun _ => {}).slot k = {}
  rw [modSlot_slot, if_pos rfl]

theorem mem_insertByAge (s : State) (k j : Fin 8) (l : List (Fin 8)) : j ∈ insertByAge s k l ↔ j = k ∨ j ∈ l := by
  induction l with
  | nil => simp [insertByAge]
  | cons i l ih =>
    simp only [insertByAge]
    split
    · simp
    · simp only [List.mem_cons, ih]
      tauto

/-- The slots by age are the RUNNING ones (R79). -/
theorem mem_slotsByAge (s : State) (k : Fin 8) : k ∈ slotsByAge s ↔ (s.slot k).running = true := by
  have mem : ∀ l : List (Fin 8), k ∈ l.foldr (insertByAge s) [] ↔ k ∈ l := by
    intro l
    induction l with
    | nil => simp
    | cons i l ih => rw [List.foldr_cons, mem_insertByAge, ih, List.mem_cons]
  simp [slotsByAge, mem]

theorem freeSlot_none (h : freeSlot s = none) (k : Fin 8) : (s.slot k).running = true := by
  simpa using List.find?_eq_none.1 h k (List.mem_finRange k)

theorem freeSlot_some {k : Fin 8} (h : freeSlot s = some k) : (s.slot k).running = false := by
  simpa using List.find?_some h

/-- Room for a cue is there, or is made by force-completing a RUNNING slot (R81, R83). -/
theorem makeRoom_cases (s : State) :
    (∃ k, freeSlot s = some k ∧ makeRoom s = (none, s)) ∨
      ∃ k, (s.slot k).running = true ∧ freeSlot s = none ∧ makeRoom s = ((s.slot k).cue, forceComplete k s) := by
  unfold makeRoom
  cases h : freeSlot s with
  | some k => exact .inl ⟨k, rfl, rfl⟩
  | none =>
    cases hl : slotsByAge s with
    | nil =>
      have := (mem_slotsByAge s 0).2 (freeSlot_none h 0)
      rw [hl] at this
      cases this
    | cons k l => exact .inr ⟨k, freeSlot_none h k, rfl, rfl⟩

theorem run_makeRoom (law : G → fadeLaw s) : Run G firing s (makeRoom s).2 := by
  rcases makeRoom_cases s with ⟨k, -, e⟩ | ⟨k, running, -, e⟩ <;> rw [e]
  · exact Run.refl ..
  · exact run_forceComplete law (.inl running)

/-- A slot is FREE once room is made (R81). -/
theorem makeRoom_free (s : State) : ((makeRoom s).2.slot ((freeSlot (makeRoom s).2).getD 0)).running = false := by
  rcases makeRoom_cases s with ⟨k, h, e⟩ | ⟨k, -, -, e⟩ <;> rw [e]
  · simpa [h] using freeSlot_some h
  · cases h : freeSlot (forceComplete k s) with
    | some j => simpa [h] using freeSlot_some h
    | none =>
      have := freeSlot_none h k
      rw [forceComplete_slot] at this
      cases this

/-! ## GO (R80, R81) -/

theorem fireGo_eq (src : GoSource) (cue : Cue) (s : State) :
    (fireGo src cue s).2 =
      settle ((freeSlot (makeRoom s).2).getD 0) (raiseCueFired cue.number
        (runDue ((freeSlot (makeRoom s).2).getD 0) (startCue ((freeSlot (makeRoom s).2).getD 0) src cue (makeRoom s).2))) :=
  rfl

/-- The parts whose changes leave the cue list. -/
theorem firing_cues (h : p ∈ firing) (hs : p ≠ .start) : p.cueing = false := by
  rcases h with rfl | rfl | rfl | ⟨k, h | ⟨el, h⟩⟩
  · exact absurd rfl hs
  · rfl
  · rfl
  · rcases h with ((rfl | rfl | rfl | ⟨n, rfl⟩) | rfl | rfl | rfl | rfl | rfl | ⟨el, rfl⟩) | rfl | ⟨j, rfl⟩ <;> rfl
  · rcases h with rfl | ⟨r, -, rfl | rfl⟩ <;> rfl

theorem Change.listed (h : Change G p s t) (hp : p ∈ firing) : t.cues.cues = s.cues.cues := by
  by_cases hs : p = .start
  · cases h with
    | start => rfl
    | _ => cases hs
  · rw [h.cueList (firing_cues hp hs)]

theorem run_raiseCueFired (n : Nat) (hp : .raised .cueFired ∈ K) : Run G K s (raiseCueFired n s) :=
  Run.one hp (.raised s .cueFired _ fun _ _ => rfl)

theorem run_startCue {k : Fin 8} {src : GoSource} {cue : Cue} (free : (s.slot k).running = false)
    (listed : cue ∈ s.cues.cues) : Run G firing s (startCue k src cue s) := Run.one (.inl rfl) (.start s k src cue free listed)

theorem startCue_slot (k : Fin 8) (src : GoSource) (cue : Cue) (s : State) :
    (startCue k src cue s).slot k = firedSlot cue (s.engine.serial + 1#32) src := by
  rw [startCue, modSlot_slot, if_pos rfl]

theorem run_fireGo {src : GoSource} {cue : Cue} (law : G → fadeLaw s) (listed : cue ∈ s.cues.cues) :
    Run G firing s (fireGo src cue s).2 := by
  have room := run_makeRoom (G := G) law
  have kept : (makeRoom s).2.cues.cues = s.cues.cues := room.stands (g := fun u => u.cues.cues) fun _ hp _ _ h => h.listed hp
  rw [fireGo_eq]
  generalize hk : (freeSlot (makeRoom s).2).getD 0 = k
  have free := makeRoom_free s
  rw [hk] at free
  rw [← kept] at listed
  clear kept hk
  generalize (makeRoom s).2 = u at *
  have running : occupied k (startCue k src cue u) := .inl (by rw [startCue_slot]; rfl)
  have started := run_startCue (G := G) (src := src) free listed
  generalize startCue k src cue u = v at *
  have acted := (run_runDue (G := G) running).mono (taking_sub_firing k)
  generalize runDue k v = w at *
  exact room.trans (started.trans (acted.trans ((run_raiseCueFired _ (.inr (.inl rfl))).trans
    (run_settle (taking_sub_firing k (.inr (.inl rfl))) (taking_sub_firing k (.inr (.inr ⟨k, rfl⟩)))))))

theorem standbyCue_listed {cue : Cue} (h : standbyCue s = some cue) : cue ∈ s.cues.cues := by
  obtain ⟨n, -, hn⟩ := Option.bind_eq_some_iff.1 h
  exact List.mem_of_find?_eq_some hn

/-- What a GO of a line or of the follow compare may do. -/
def going : Set Part := {p | p = .raised .goIgnored ∨ p ∈ firing}

theorem run_goUnasked {src : GoSource} (law : G → fadeLaw s) : Run G going s (goUnasked src s) := by
  unfold goUnasked
  rcases goEvent_cases src s with ⟨-, e⟩ | ⟨-, -, e⟩ | ⟨cue, -, standby, e⟩ <;> rw [e]
  · exact Run.one (.inl rfl) (.raised _ .goIgnored _ fun _ _ => rfl)
  · exact Run.one (.inl rfl) (.raised _ .goIgnored _ fun _ _ => rfl)
  · exact (run_fireGo law (standbyCue_listed standby)).mono fun _ h => .inr h

/-! ## HOLD (R97) -/

/-- What taking or releasing HOLD may do. -/
def holds : Set Part := {p | p = .hold ∨ p = .raised .holdChange}

theorem run_takeHold : Run G holds s (takeHold s) := by
  unfold takeHold
  split
  · exact Run.refl ..
  · exact (Run.one (p := .hold) (.inl rfl) (.hold s true)).trans (Run.one (.inr rfl) (.raised _ .holdChange _ fun _ _ => rfl))

theorem run_releaseHold : Run G holds s (releaseHold s) := by
  unfold releaseHold
  split
  · exact (Run.one (p := .hold) (.inl rfl) (.hold s false)).trans (Run.one (.inr rfl) (.raised _ .holdChange _ fun _ _ => rfl))
  · exact Run.refl ..

/-! ## Stages 1 and 2 (R85, R94, R95) -/

/-- What the counts of the slots and of the timer may do. -/
def counting : Set Part := {p | p = .counters ∨ p ∈ going}

theorem run_countSlot (k : Fin 8) : Run G {.slot k} s (countSlot k s) := by
  have counted : countSlot k s = s.modSlot k (fun x =>
      { x with elapsed := min ((s.slot k).elapsed + 1) Config.timerTop
               actions := (s.slot k).actions.map (fun q => { q with remaining := q.remaining - 1 }) }) := modSlot_congr rfl
  rw [counted]
  refine Run.one (p := .slot k) rfl (.slot s k _ _ fun q hq => ?_)
  obtain ⟨o, ho, rfl⟩ := List.mem_map.1 hq
  exact ⟨o, ho, rfl⟩

theorem run_slotEnd (k : Fin 8) : Run G (taking k) s (slotEnd s k) := by
  unfold slotEnd
  split
  · have count : Run G (taking k) s (countSlot k s) := (run_countSlot k).mono (by rintro _ rfl; exact .inr (.inr ⟨k, rfl⟩))
    exact count.trans ((run_runDue (count.occupied (.inl ‹_›))).trans
      (run_settle (.inr (.inl rfl)) (.inr (.inr ⟨k, rfl⟩))))
  · exact Run.refl ..

theorem run_countSlots : Run G {p | ∃ k, p ∈ taking k} s (countSlots s) := by
  unfold countSlots
  split
  · exact Run.refl ..
  · exact Run.foldl_all fun k _ => (run_slotEnd k).mono fun _ h => ⟨k, h⟩

theorem run_counters (timer : Nat) (follow : Option Nat) :
    Run G counting s { s with engine := { s.engine with timer := timer, follow := follow } } :=
  Run.one (.inl rfl) (.counters s timer follow)

theorem run_fireFollow (law : G → fadeLaw s) : Run G counting s (fireFollow s) := by
  have disarmed : Run G counting s (s.modEngine (fun x => { x with follow := none })) := run_counters s.engine.timer none
  have go := run_goUnasked (src := .follow) fun g => disarmed.fadeLaw (law g)
  exact disarmed.trans (go.mono fun _ h => .inr h)

theorem run_countTimer (law : G → fadeLaw s) : Run G counting s (countTimer s) := by
  unfold countTimer
  split
  · exact Run.refl ..
  · have timer : Run G counting s (s.modEngine (fun x => { x with timer := min (x.timer + 1) Config.timerTop })) :=
      run_counters (min (s.engine.timer + 1) Config.timerTop) s.engine.follow
    dsimp only
    split
    · exact timer.trans (run_fireFollow law)
    · exact timer

theorem run_modEnding (f : Ending → Ending) : Run G {.ending} s (s.modEnding f) := Run.one (p := .ending) rfl (.ending s (f s.ending))

theorem run_takeCounts (law : G → fadeLaw s) : Run G (insert .ending counting) s (takeCounts s) := by
  have slots := (run_countSlots (G := G) (s := s)).mono (L := insert .ending counting) (by
    rintro p ⟨k, h⟩
    exact .inr (.inr (.inr (taking_sub_firing k h))))
  refine slots.trans (Run.trans ((run_countTimer fun g => slots.fadeLaw (law g)).mono fun _ h => .inr h) ?_)
  exact (run_modEnding _).mono (by rintro _ rfl; exact .inl rfl)

/-! ## Stage 3 (R75, R76) -/

/-- What the show inputs may do. -/
def sampling : Set Part := {p | p = .inputs ∨ p ∈ calling ∨ p ∈ holds ∨ p ∈ going}

theorem run_inputs (g h c : ShowInput) (hp : .inputs ∈ K) :
    Run G K s { s with engine := { s.engine with goInput := g, holdInput := h, callInput := c } } :=
  Run.one hp (.inputs s g h c)

theorem run_holdEdge (e : Edge) : Run G holds s (holdEdge e s) := by
  unfold holdEdge
  split
  · exact run_takeHold
  · exact Run.refl ..

theorem run_goEdge (e : Edge) (law : G → fadeLaw s) : Run G going s (goEdge e s) := by
  unfold goEdge
  split
  · exact run_goUnasked law
  · exact Run.refl ..

theorem run_callRelease : Run G calling s (callRelease s) := by
  unfold callRelease
  split <;> repeat' split
  · exact run_endActive ..
  · exact run_endPending ..
  · exact Run.refl ..
  · exact run_endPending ..
  · exact Run.refl ..

theorem run_callEdge (e : Edge) : Run G calling s (callEdge e s) := by
  unfold callEdge
  split
  · split
    · exact run_callRequest ..
    · exact run_callRelease
  · exact Run.refl ..

theorem calling_sub_sampling : calling ⊆ sampling := fun _ h => .inr (.inl h)
theorem holds_sub_sampling : holds ⊆ sampling := fun _ h => .inr (.inr (.inl h))
theorem going_sub_sampling : going ⊆ sampling := fun _ h => .inr (.inr (.inr h))

theorem run_onEdge {f : Edge → State → State} {o : Option Edge} (h : ∀ e, Run G K s (f e s)) : Run G K s (onEdge f o s) := by
  cases o with
  | none => exact Run.refl ..
  | some e => exact h e

theorem run_sampleHold : Run G sampling s (sampleHold s) :=
  (run_inputs s.engine.goInput (sampleInput s.engine.holdInput).1 s.engine.callInput (.inl rfl)).trans
    (run_onEdge fun e => (run_holdEdge e).mono holds_sub_sampling)

theorem run_sampleGo (law : G → fadeLaw s) : Run G sampling s (sampleGo s) := by
  have sampled := run_inputs (G := G) (s := s) (K := sampling) (sampleInput s.engine.goInput).1 s.engine.holdInput
    s.engine.callInput (.inl rfl)
  exact sampled.trans (run_onEdge fun e => (run_goEdge e fun g => sampled.fadeLaw (law g)).mono going_sub_sampling)

theorem run_sampleCall : Run G sampling s (sampleCall s) :=
  (run_inputs s.engine.goInput s.engine.holdInput (sampleInput s.engine.callInput).1 (.inl rfl)).trans
    (run_onEdge fun e => (run_callEdge e).mono calling_sub_sampling)

/-! ### The edges as commands of their own -/

theorem run_goPress (e : Edge) (law : G → fadeLaw s) : Run G (insert .inputs going) s (goPress e s) := by
  have accepted := run_inputs (G := G) (s := s) (acceptEdge e s.engine.goInput) s.engine.holdInput s.engine.callInput
    (Set.mem_insert .inputs going)
  exact accepted.trans ((run_goEdge e fun g => accepted.fadeLaw (law g)).mono (Set.subset_insert ..))

theorem run_holdPress (e : Edge) : Run G (insert .inputs holds) s (holdPress e s) :=
  (run_inputs s.engine.goInput (acceptEdge e s.engine.holdInput) s.engine.callInput (Set.mem_insert ..)).trans
    ((run_holdEdge e).mono (Set.subset_insert ..))

theorem run_callKey (e : Edge) : Run G (insert .inputs calling) s (callKey e s) :=
  (run_inputs s.engine.goInput s.engine.holdInput (acceptEdge e s.engine.callInput) (Set.mem_insert ..)).trans
    ((run_callEdge e).mono (Set.subset_insert ..))

theorem insert_sub_sampling (h : K ⊆ sampling) : insert .inputs K ⊆ sampling := by
  rintro p (rfl | hp)
  · exact .inl rfl
  · exact h hp

end Sys2Proof.Machine
end

section
/-! The end of a control interval, and the events of the links and the clock, as runs of elementary changes. -/

namespace Sys2Proof.Machine

variable {G : Prop} {p : Part} {K : Set Part} {s t : State}

/-! ## The fade step (R50, R53) -/

/-- What one entry's step at an interval end may do. -/
def stepping (el : Element) : Set Part := {p | p = .advance el ∨ ∃ o, p ∈ completing o el}

/-- A step of an entry is none, completes it, or brings its element on (R50, R52, R53). -/
theorem stepEntry_cases (el : Element) (s : State) :
    ((s.entry? el = none ∨ ∃ e, s.entry? el = some e ∧ standsStill s e = true) ∧ stepEntry el s = s) ∨
    (∃ e, s.entry? el = some e ∧ standsStill s e = false ∧ lastStep e = true ∧ stepEntry el s = completeEntry e s) ∨
    ∃ e, s.entry? el = some e ∧ standsStill s e = false ∧ lastStep e = false ∧ stepEntry el s = stepOn el e s := by
  unfold stepEntry
  cases he : s.entry? el with
  | none => exact .inl ⟨.inl rfl, rfl⟩
  | some e =>
    cases hstill : standsStill s e with
    | true => exact .inl ⟨.inr ⟨e, rfl, hstill⟩, by simp [hstill]⟩
    | false =>
      cases hlast : lastStep e with
      | true => exact .inr (.inl ⟨e, rfl, hstill, hlast, by simp [hstill, hlast]⟩)
      | false => exact .inr (.inr ⟨e, rfl, hstill, hlast, by simp [hstill, hlast, stepOn]⟩)

theorem run_stepEntry (el : Element) : Run G (stepping el) s (stepEntry el s) := by
  rcases stepEntry_cases el s with ⟨-, e⟩ | ⟨e, he, -, -, eq⟩ | ⟨e, he, -, last, eq⟩
  · rw [e]; exact Run.refl ..
  · rw [eq]
    have same := entry_element he
    subst same
    exact (run_completeEntry fun _ => he).mono fun _ h => .inr ⟨e.owner, h⟩
  · rw [eq]
    refine Run.one (p := .advance el) (.inl rfl) (.advance s el e he ?_)
    simpa [lastStep] using last

/-- What the Fade Engine's part of an end may do. -/
def fadesEnd : Set Part := {p | (∃ el, p ∈ stepping el) ∨ p ∈ settling}

theorem run_stepFades : Run G fadesEnd s (stepFades s) :=
  (Run.foldl_all fun el _ => (run_stepEntry el).mono fun _ h => .inl ⟨el, h⟩).trans
    (run_settleAll.mono fun _ h => .inr h)

/-! ## The limiters and the monitors (R113, R141) -/

/-- What the limiters may do. -/
def limiting : Set Part := {p | p = .protect ∨ p = .raised .limiter}

theorem limiterStep_le (ceiling peak : Int) (protect : Nat) :
    limiterStep ceiling peak protect ≤ 96 ∨ limiterStep ceiling peak protect ≤ protect := by
  unfold limiterStep
  split
  · exact .inl (Nat.min_le_right ..)
  · exact .inr (by split <;> omega)

theorem run_stepLimiter (f : Fin 12) : Run G limiting s (stepLimiter s f) := by
  have step := Run.one (G := G) (K := limiting) (p := .protect) (.inl rfl)
    (.protect s f (limiterStep (s.mix f).ceiling (s.peak (.mix f)) (s.mix f).protect) (limiterStep_le ..))
  unfold stepLimiter
  dsimp only
  split
  · exact step.trans (Run.one (p := .raised .limiter) (.inr rfl) (.raised _ .limiter _ fun h => absurd rfl h))
  · exact step

theorem run_stepLimiters : Run G limiting s (stepLimiters s) := Run.foldl_all fun f _ => run_stepLimiter f

/-- What the monitors may do. -/
def monitoring : Set Part := {p | p = .monitors ∨ p = .raised .monitorTrip ∨ p = .channel ∨ p = .relay}

theorem run_modMonitor (i : Fin 16) (f : Monitor → Monitor) : Run G monitoring s (s.modMonitor i f) :=
  Run.one (p := .monitors) (.inl rfl) (.monitors s _)

theorem run_backupRequest : Run G monitoring s (backupRequest s) := by
  unfold backupRequest
  split
  · exact Run.one (p := .relay) (.inr (.inr (.inr rfl))) (.relay s s.relay.backup s.relay.backupLevel .backup)
  · exact Run.refl ..

theorem run_tripAction (m : Monitor) : Run G monitoring s (tripAction m s) := by
  unfold tripAction
  split
  · exact Run.refl ..
  · exact run_backupRequest
  · split
    · exact Run.one (p := .channel) (.inr (.inr (.inl rfl))) (.channel s _ _ rfl)
    all_goals exact Run.refl ..

theorem run_raiseMonitorTrip (i : Fin 16) : Run G monitoring s (raiseMonitorTrip i s) :=
  Run.one (p := .raised .monitorTrip) (.inr (.inl rfl)) (.raised s .monitorTrip _ fun _ _ => rfl)

theorem run_tripMonitor (i : Fin 16) (count : Nat) : Run G monitoring s (tripMonitor i count s) :=
  (run_modMonitor i _).trans ((run_tripAction (s.monitor i)).trans (run_raiseMonitorTrip i))

theorem run_countMonitor (i : Fin 16) (count : Nat) : Run G monitoring s (countMonitor i count s) := by
  unfold countMonitor
  split
  · exact run_tripMonitor ..
  · exact run_modMonitor ..

theorem run_stepMonitor (i : Fin 16) : Run G monitoring s (stepMonitor s i) := by
  unfold stepMonitor
  dsimp only
  split
  · exact Run.refl ..
  · split
    · exact run_countMonitor ..
    · exact run_modMonitor ..
  · split
    · exact run_countMonitor ..
    · exact run_modMonitor ..
  · split
    · exact Run.refl ..
    · exact run_modMonitor ..

theorem run_stepMonitors : Run G monitoring s (stepMonitors s) := Run.foldl_all fun i _ => run_stepMonitor i

/-! ## The active call (R132) -/

theorem run_countCall : Run G calling s (countCall s) := by
  unfold countCall
  split
  · exact Run.refl ..
  · split
    · exact run_endActive ..
    · split
      · exact run_endActive ..
      · exact run_calls _ s.relay.queue s.relay.arrivals

/-! ## The whole end (R148) -/

/-- What the parts of an interval end may do. -/
def ends : Set Part :=
  {p | p = .ending ∨ p = .mixer ∨ p ∈ fadesEnd ∨ p ∈ limiting ∨ p ∈ monitoring ∨ p ∈ calling ∨ p ∈ counting ∨ p ∈ sampling}

theorem fadesEnd_sub_ends : fadesEnd ⊆ ends := fun _ h => .inr (.inr (.inl h))
theorem limiting_sub_ends : limiting ⊆ ends := fun _ h => .inr (.inr (.inr (.inl h)))
theorem monitoring_sub_ends : monitoring ⊆ ends := fun _ h => .inr (.inr (.inr (.inr (.inl h))))
theorem calling_sub_ends : calling ⊆ ends := fun _ h => .inr (.inr (.inr (.inr (.inr (.inl h)))))
theorem counting_sub_ends : counting ⊆ ends := fun _ h => .inr (.inr (.inr (.inr (.inr (.inr (.inl h))))))
theorem sampling_sub_ends : sampling ⊆ ends := fun _ h => .inr (.inr (.inr (.inr (.inr (.inr (.inr h))))))

/-- What the parts of an end that are commands of their own may do, but for FOLLOW_GO and the edges. -/
def parting : Set Part :=
  {p | p = .ending ∨ p = .mixer ∨ p ∈ fadesEnd ∨ p ∈ monitoring ∨ p ∈ calling ∨ ∃ k, p ∈ taking k}

theorem parting_sub_ends : parting ⊆ ends := by
  rintro p (h | h | h | h | h | ⟨k, h⟩)
  · exact .inl h
  · exact .inr (.inl h)
  · exact fadesEnd_sub_ends h
  · exact monitoring_sub_ends h
  · exact calling_sub_ends h
  · exact counting_sub_ends (.inr (.inr (taking_sub_firing k h)))

theorem run_partEnding (f : Ending → Ending) : Run G parting s (s.modEnding f) :=
  (run_modEnding f).mono (by rintro _ rfl; exact .inl rfl)

theorem run_partPeaks : Run G parting s (takePeaks s) := by
  unfold takePeaks
  split
  · exact Run.refl ..
  · exact (Run.one (p := .mixer) (.inr (.inl rfl)) (.mixer s _)).trans (run_partEnding _)

theorem run_ending (f : Ending → Ending) : Run G ends s (s.modEnding f) := (run_partEnding f).mono parting_sub_ends

theorem run_takePeaks : Run G ends s (takePeaks s) := run_partPeaks.mono parting_sub_ends

theorem run_finishFades : Run G ends s (finishFades s) := by
  unfold finishFades
  split
  · exact Run.refl ..
  · exact (run_stepFades.mono fadesEnd_sub_ends).trans (run_ending _)

theorem run_finishMonitors : Run G ends s (finishMonitors s) := (run_stepMonitors.mono monitoring_sub_ends).trans (run_ending _)

theorem run_finishRelay : Run G ends s (finishRelay s) := by
  unfold finishRelay
  split
  · exact Run.refl ..
  · exact (run_countCall.mono calling_sub_ends).trans (run_ending _)

theorem run_counts (law : G → fadeLaw s) : Run G ends s (takeCounts s) :=
  (run_takeCounts law).mono (by
    rintro p (rfl | h)
    · exact .inl rfl
    · exact counting_sub_ends h)

theorem run_cueCounts (law : G → fadeLaw s) : Run G ends s (cueCounts s) := by
  unfold cueCounts
  split
  · exact Run.refl ..
  · exact run_counts law

theorem run_linesLeft (l : Sampled) (law : G → fadeLaw s) : Run G ends s (linesLeft l s) := by
  refine Run.mono sampling_sub_ends ?_
  cases l with
  | none =>
    have hold := run_sampleHold (G := G) (s := s)
    have go := run_sampleGo fun g => hold.fadeLaw (law g)
    exact hold.trans (go.trans run_sampleCall)
  | hold => exact (run_sampleGo law).trans run_sampleCall
  | go => exact run_sampleCall
  | all => exact Run.refl ..

theorem run_finishCue (law : G → fadeLaw s) : Run G ends s (finishCue s) := by
  unfold finishCue
  split
  · exact Run.refl ..
  · have counts := run_cueCounts law
    exact counts.trans ((run_linesLeft _ fun g => counts.fadeLaw (law g)).trans (run_ending _))

theorem run_finishBlock (b : EndBlock) (law : G → fadeLaw s) : Run G ends s (finishBlock b s) := by
  cases b with
  | fades => exact run_finishFades
  | monitors => exact run_finishMonitors
  | relay => exact run_finishRelay
  | cue => exact run_finishCue law

theorem run_finishOpen (law : G → fadeLaw s) : Run G ends s (finishOpen s) := by
  rcases finishOpen_cases s with ⟨-, e⟩ | ⟨b, -, e⟩ <;> rw [e]
  · exact Run.refl ..
  · have peaks := run_takePeaks (G := G) (s := s)
    exact peaks.trans ((run_finishBlock b fun g => peaks.fadeLaw (law g)).trans (run_ending _))

theorem run_moveLines (g h c : Option Line) : Run G {.inputs} s (moveLines g h c s) :=
  run_inputs (moveLine g s.engine.goInput) (moveLine h s.engine.holdInput) (moveLine c s.engine.callInput) rfl

/-- The end up to the Cue Engine's part (R148). -/
theorem run_beforeCue (g h c : Option Line) (law : G → fadeLaw s) :
    Run G ends s
      (finishRelay (finishMonitors (stepLimiters (finishFades (finishOpen (takePeaks (moveLines g h c s))))))) := by
  have moved := (run_moveLines (G := G) (s := s) g h c).mono (by rintro _ rfl; exact sampling_sub_ends (.inl rfl))
  have lines := moved.trans run_takePeaks
  exact lines.trans ((run_finishOpen fun g => lines.fadeLaw (law g)).trans (run_finishFades.trans
    ((run_stepLimiters.mono limiting_sub_ends).trans (run_finishMonitors.trans run_finishRelay))))

theorem run_intervalEnd (g h c : Option Line) (law : G → fadeLaw s) : Run G ends s (intervalEnd g h c s) := by
  have before := run_beforeCue g h c law
  exact before.trans ((run_finishCue fun g => before.fadeLaw (law g)).trans (run_ending fun _ => {}))

theorem run_wholeEnd (law : G → fadeLaw s) : Run G ends s (wholeEnd s) := by
  rcases wholeEnd_cases s with ⟨-, e⟩ | ⟨-, e⟩ <;> rw [e]
  · exact Run.refl ..
  · exact run_intervalEnd none none none law

theorem run_meetBlock (b : EndBlock) (law : G → fadeLaw s) : Run G ends s (meetBlock b s) := by
  rcases meetBlock_cases b s with ⟨-, e⟩ | ⟨-, e⟩ <;> rw [e]
  · exact Run.refl ..
  · exact run_finishOpen law

theorem run_beginBlock (b : EndBlock) : Run G parting s (beginBlock b s) := run_partEnding _

/-! ## The parts of an end as commands of their own -/

theorem run_fadeComplete (el : Element) : Run G parting s (fadeComplete el s) := by
  unfold fadeComplete
  split
  · exact Run.refl ..
  · split
    · rename_i e he _
      have same := entry_element he
      subst same
      have done := (run_completeEntry (G := G) (s := beginBlock .fades s) fun _ => he).mono (L := fadesEnd)
        fun _ h => .inl ⟨e.element, .inr ⟨e.owner, h⟩⟩
      exact (run_beginBlock .fades).trans ((done.trans (run_settleAll.mono fun _ h => .inr h)).mono
        fun _ h => .inr (.inr (.inl h)))
    · exact Run.refl ..

theorem takeSlot_eq (s : State) (k : Fin 8) :
    takeSlot s k = settle k (((s.slot k).actions.filter fallsDue).foldl (takeBy fallsDue k) s) := rfl

theorem run_takeSlot {k : Fin 8} (running : occupied k s) : Run G (taking k) s (takeSlot s k) := by
  rw [takeSlot_eq]
  exact (run_takeAll running rfl).trans (run_settle (.inr (.inl rfl)) (.inr (.inr ⟨k, rfl⟩)))

/-- While an action of slot `k` is pending, what another slot takes leaves slot `k` what it runs. -/
theorem takeAll_task_other {test : PendingAction → Bool} {j k : Fin 8} (hjk : j ≠ k) {l : List PendingAction}
    (running : occupied j s) (h : (s.slot j).actions.filter test = l) (pending : (s.slot k).actions ≠ []) :
    sameTask (s.slot k) ((l.foldl (takeBy test j) s).slot k) := by
  induction l generalizing s with
  | nil => exact ⟨rfl, rfl⟩
  | cons q l ih =>
    have mem : q ∈ (s.slot j).actions := (List.mem_filter.1 (h ▸ List.mem_cons_self)).1
    obtain ⟨er, ea⟩ := (run_execAction (G := True) false running mem).task (k := k) fun _ => acting_running
    have one : sameTask (s.slot k) ((takeBy test j s q).slot k) := by
      have still : ((execAction j false q.action s).modSlot j (fun x => { x with actions := x.actions.eraseP test })).slot k =
          (execAction j false q.action s).slot k := by rw [modSlot_slot, if_neg hjk]
      rw [takeBy, settleOthers_slot_of_pending j (by rw [still, ea]; exact pending), still]
      exact ⟨er, ea⟩
    obtain ⟨-, ha⟩ := takeBy_task (test := test) running mem
    obtain ⟨hr', ha'⟩ := ih ((run_takeBy (G := True) running mem).occupied running)
      (by rw [ha, filter_eraseP, h, List.tail_cons]) (by rw [one.2]; exact pending)
    exact ⟨hr'.trans one.1, ha'.trans one.2⟩

theorem takeSlot_task_other {j k : Fin 8} (hjk : j ≠ k) (running : occupied j s) (pending : (s.slot k).actions ≠ []) :
    sameTask (s.slot k) ((takeSlot s j).slot k) := by
  obtain ⟨hr, ha⟩ := takeAll_task_other hjk running (test := fallsDue) rfl pending
  rw [takeSlot_eq, settle_slot_of_pending j (by rw [ha]; exact pending)]
  exact ⟨hr, ha⟩

/-- The slots that are older and have an action that falls due take them, and leave slot `k` what it runs. -/
theorem run_takeSlots {l : List (Fin 8)} {k : Fin 8} (others : ∀ j ∈ l, j ≠ k) (running : ∀ j ∈ l, occupied j s)
    (pending : (s.slot k).actions ≠ []) :
    Run G {p | ∃ k, p ∈ taking k} s (l.foldl takeSlot s) ∧ sameTask (s.slot k) ((l.foldl takeSlot s).slot k) := by
  obtain ⟨run, -, task⟩ := Run.foldl (G := G) (K := {p | ∃ k, p ∈ taking k}) (f := takeSlot)
    (P := fun u => (∀ j ∈ l, occupied j u) ∧ sameTask (s.slot k) (u.slot k)) (l := l) (s := s)
    (fun j hj u hu => by
      obtain ⟨occ, task⟩ := hu
      have one := run_takeSlot (G := G) (occ j hj)
      obtain ⟨hr, ha⟩ := takeSlot_task_other (others j hj) (occ j hj) (k := k) (by rw [task.2]; exact pending)
      exact ⟨one.mono fun _ h => ⟨j, h⟩, fun i hi => one.occupied (occ i hi), hr.trans task.1, ha.trans task.2⟩)
    ⟨running, rfl, rfl⟩
  exact ⟨run, task⟩

theorem olderDue_spec {j k : Fin 8} (h : j ∈ olderDue k s) : (s.slot j).running = true ∧ j ≠ k := by
  obtain ⟨mem, test⟩ := List.mem_filter.1 h
  refine ⟨(mem_slotsByAge s j).1 mem, ?_⟩
  rintro rfl
  simp at test

theorem run_actionDue (k : Fin 8) : Run G parting s (actionDue k s) := by
  unfold actionDue
  split
  · rename_i h
    simp only [Bool.and_eq_true] at h
    split
    · exact Run.refl ..
    · rename_i q l hl
      have mem : q ∈ (s.slot k).actions := (List.mem_filter.1 (hl ▸ List.mem_cons_self : q ∈ falling k s)).1
      obtain ⟨older, task⟩ := run_takeSlots (G := G) (s := beginBlock .cue s) (l := olderDue k s) (k := k)
        (fun j hj => (olderDue_spec hj).2) (fun j hj => .inl (olderDue_spec hj).1) (List.ne_nil_of_mem mem)
      have sub : {p | ∃ k, p ∈ taking k} ⊆ parting := fun p h => .inr (.inr (.inr (.inr (.inr h))))
      refine (run_beginBlock .cue).trans ((older.mono sub).trans (Run.mono (fun _ h => sub ⟨k, h⟩) ?_))
      rw [takeFalling_eq]
      exact (run_takeBy (.inl (task.1.trans h.2)) (by rw [task.2]; exact mem)).trans
        (run_settle (.inr (.inl rfl)) (.inr (.inr ⟨k, rfl⟩)))
  · exact Run.refl ..

theorem run_followGo (law : G → fadeLaw s) : Run G (insert .ending counting) s (followGo s) := by
  unfold followGo
  split
  · exact ((run_modEnding _).mono (by rintro _ rfl; exact Set.mem_insert ..)).trans (run_takeCounts fun g => law g)
  · exact Run.refl ..

theorem calling_sub_parting : calling ⊆ parting := fun _ h => .inr (.inr (.inr (.inr (.inl h))))

theorem run_callTimeout : Run G parting s (callTimeout s) := by
  unfold callTimeout
  split
  · exact Run.refl ..
  · split
    · exact (run_beginBlock .relay).trans ((run_partEnding _).trans ((run_endActive ..).mono calling_sub_parting))
    · exact Run.refl ..

theorem run_callSilent : Run G parting s (callSilent s) := by
  unfold callSilent
  split
  · exact Run.refl ..
  · split
    · exact (run_beginBlock .relay).trans (run_partPeaks.trans ((run_partEnding _).trans
        ((run_endActive ..).mono calling_sub_parting)))
    · exact Run.refl ..

theorem run_monitorTrip (i : Fin 16) : Run G parting s (monitorTrip i s) := by
  unfold monitorTrip
  dsimp only
  split
  · exact (run_beginBlock .monitors).trans (run_partPeaks.trans ((run_partEnding _).trans
      ((run_tripMonitor ..).mono fun _ h => .inr (.inr (.inr (.inl h))))))
  · exact Run.refl ..

theorem run_linesBefore (l : Sampled) (law : G → fadeLaw s) : Run G ends s (linesBefore l s) := by
  refine Run.mono sampling_sub_ends ?_
  unfold linesBefore
  split
  · exact run_sampleHold
  · have hold := run_sampleHold (G := G) (s := s)
    exact hold.trans (run_sampleGo fun g => hold.fadeLaw (law g))
  · exact run_sampleGo law
  · exact Run.refl ..

theorem run_edgeInEnd {f : State → State} (l : Sampled) (h : ∀ u, (G → fadeLaw u) → Run G ends u (f u))
    (law : G → fadeLaw s) : Run G ends s (edgeInEnd l f s) := by
  have met := run_meetBlock .cue law
  have lawMet := fun g => met.fadeLaw (law g)
  rcases edgeInEnd_cases l f s with ⟨-, e⟩ | ⟨-, e⟩ <;> rw [e]
  · have whole := run_intervalEnd none none none lawMet
    exact met.trans (whole.trans (h _ fun g => whole.fadeLaw (lawMet g)))
  · have counts := ((run_beginBlock (G := G) .cue).mono parting_sub_ends).trans (run_cueCounts (s := beginBlock .cue (meetBlock .cue s)) lawMet)
    have lawCounts := fun g => counts.fadeLaw (lawMet g)
    have lines := run_linesBefore l lawCounts
    exact met.trans (counts.trans (lines.trans ((h _ fun g => lines.fadeLaw (lawCounts g)).trans (run_ending _))))

end Sys2Proof.Machine
end

section
/-! The links, the frame clock and frames as runs of elementary changes. -/

namespace Sys2Proof.Machine

variable {G : Prop} {p : Part} {K : Set Part} {s t : State}

/-! ## Receivers (R152 to R155) -/

/-- What the links and the clock may do. -/
def linking : Set Part :=
  {p | p = .receivers ∨ p = .clock ∨ p = .outputs ∨ p = .triggers ∨ p = .raised .linkChange ∨ p = .raised .clockFallback ∨
    ∃ n, p = .write (.link n) ∨ p = .fade .system (.link n)}

theorem run_modReceiver (n : Fin 4) (f : Receiver → Receiver) (h : (f (s.receiver n)).ramp = (s.receiver n).ramp) :
    Run G linking s (s.modReceiver n f) := by
  refine Run.one (p := .receivers) (.inl rfl) (.receivers s (s.links.receivers.modify n f) fun m => ?_)
  show ((s.modReceiver n f).receiver m).ramp = _
  rw [modReceiver_receiver]
  split
  · subst_vars; exact h
  · rfl

theorem run_raiseLinkChange (n : Fin 4) : Run G linking s (raiseLinkChange n s) :=
  Run.one (p := .raised .linkChange) (by simp [linking]) (.raised s .linkChange _ fun _ _ => rfl)

theorem run_writeLink (n : Fin 4) (z : Int) : Run G linking s (directWrite (.link n) z s) :=
  Run.one (p := .write (.link n)) (by simp [linking]) (.write s _ z)

theorem run_fadeLink (n : Fin 4) (z : Int) (d : Nat) : Run G linking s (fadeRequest (.link n) z d .system s).2 :=
  Run.one (p := .fade .system (.link n)) (by simp [linking]) (.fade s _ z d .system ⟨rfl, fun r h => by simp at h⟩)

theorem run_loseLink (n : Fin 4) : Run G linking s (loseLink n s) :=
  (run_modReceiver n _ rfl).trans ((run_writeLink n off).trans (run_raiseLinkChange n))

theorem run_advanceReceiver (n : Fin 4) : Run G linking s (advanceReceiver n s) := by
  unfold advanceReceiver
  dsimp only
  split
  · split
    · exact run_modReceiver n _ rfl
    · split
      · exact run_loseLink n
      · exact run_modReceiver n _ rfl
  all_goals exact Run.refl ..

theorem run_linkArrival (n : Fin 4) (samples : Table Int 16) : Run G linking s (linkArrival n samples s) := by
  have taken := run_modReceiver (G := G) (s := s) n (takeFrame samples) rfl
  unfold linkArrival lockLink
  dsimp only
  split
  · exact taken.trans ((run_modReceiver n _ rfl).trans ((run_fadeLink ..).trans (run_raiseLinkChange n)))
  · exact taken.trans ((run_modReceiver n _ rfl).trans ((run_fadeLink ..).trans (run_raiseLinkChange n)))
  all_goals exact taken

theorem run_enableLink (n : Fin 4) : Run G linking s (enableLink n s) := by
  unfold enableLink
  split
  · exact Run.refl ..
  · exact run_modReceiver n _ rfl

theorem run_disableLink (n : Fin 4) : Run G linking s (disableLink n s) := by
  unfold disableLink
  split
  · exact (run_modReceiver n _ rfl).trans (run_writeLink n off)
  · exact Run.refl ..

theorem run_frameArrival (n : Fin 4) (words : Table SlotWord 16) : Run G linking s (frameArrival n words s) := by
  unfold frameArrival
  split
  · exact run_linkArrival ..
  · exact Run.refl ..

theorem run_frameSync (n : Fin 4) : Run G linking s (frameSync n s) := by
  unfold frameSync
  split
  · exact run_modReceiver n _ rfl
  · exact Run.refl ..

theorem run_partialDiscard (n : Fin 4) : Run G linking s (partialDiscard n s) := by
  unfold partialDiscard
  split
  · exact run_modReceiver n _ rfl
  · exact Run.refl ..

theorem run_linkLost (n : Fin 4) : Run G linking s (linkLost n s) := by
  unfold linkLost
  split
  · exact run_loseLink n
  · exact Run.refl ..

/-! ## Output links (R156 to R158) -/

theorem run_modOutput (n : Fin 4) (f : OutLink → OutLink) : Run G linking s (s.modOutput n f) :=
  Run.one (p := .outputs) (by simp [linking]) (.outputs s _)

theorem run_sendFrame (n : Fin 4) : Run G linking s (sendFrame n s) := by
  unfold sendFrame
  dsimp only
  split
  · refine (run_modOutput n _).trans (Run.one (p := .triggers) (by simp [linking]) (.triggers _ s.engine.triggers.tail (.inr ?_)))
    exact (List.length_tail).trans_le (Nat.sub_le ..)
  · exact run_modOutput n _

/-! ## The frame clock (R147 to R150) -/

theorem run_modClock (f : Clock → Clock) : Run G linking s (s.modClock f) :=
  Run.one (p := .clock) (by simp [linking]) (.clock s (f s.links.clock))

theorem run_raiseClockFallback : Run G linking s (raiseClockFallback s) :=
  Run.one (p := .raised .clockFallback) (by simp [linking]) (.raised s .clockFallback _ fun _ _ => rfl)

theorem run_takeReturn : Run G linking s (takeReturn s) := run_modClock _

theorem run_markAbsent : Run G linking s (markAbsent s) := run_modClock _

theorem run_abandonReturn : Run G linking s (abandonReturn s) := (run_modClock _).trans run_raiseClockFallback

theorem run_fallback : Run G linking s (fallback s) := by
  unfold fallback
  split
  · exact Run.refl ..
  · split
    · exact run_markAbsent.trans ((run_modClock _).trans run_raiseClockFallback)
    · exact run_markAbsent

theorem run_returnToWck : Run G linking s (returnToWck s) := by
  unfold returnToWck
  split
  · exact run_takeReturn
  · exact Run.refl ..

theorem run_returnAbandoned : Run G linking s (returnAbandoned s) := by
  unfold returnAbandoned
  split
  · exact run_markAbsent.trans run_abandonReturn
  · exact Run.refl ..

theorem run_watchWck (edge : Bool) : Run G linking s (watchWck edge s) := by
  unfold watchWck
  split
  · exact run_modClock _
  · split
    · split
      · exact run_takeReturn
      · exact run_modClock _
    · dsimp only
      split
      · exact (run_modClock _).trans run_abandonReturn
      · exact run_modClock _

/-! ## The frame (R34, R148) -/

/-- What a frame may do, but for the rest of an end that is overdue. -/
def framing : Set Part := {p | p = .mixer ∨ p = .ending ∨ p ∈ linking}

theorem run_advanceReceivers : Run G linking s ((List.finRange 4).foldl (fun s n => advanceReceiver n s) s) :=
  Run.foldl_all fun n _ => run_advanceReceiver n

theorem run_countFrame : Run G framing s (countFrame s) := by
  have clock : ∀ f, Run G framing s (s.modClock f) := fun f => (run_modClock f).mono fun _ h => .inr (.inr h)
  unfold countFrame
  split
  · exact clock _
  · exact (clock _).trans ((run_modEnding _).mono (by rintro _ rfl; exact .inr (.inl rfl)))

theorem run_mixFrame (input : Table (Table Int 16) 4) : Run G framing s (mixFrame input s) :=
  Run.one (p := .mixer) (.inl rfl) (.mixer s _)

theorem run_oneFrame : Run G framing s (oneFrame s) :=
  (run_advanceReceivers.mono fun _ h => .inr (.inr h)).trans ((run_mixFrame _).trans run_countFrame)

theorem run_overdueEnd (law : G → fadeLaw s) : Run G ends s (overdueEnd s) := by
  unfold overdueEnd
  split
  · exact run_intervalEnd none none none law
  · exact Run.refl ..

end Sys2Proof.Machine
end

section
/-! The requests of the Role Table, the Fade Engine and the Cue List as runs of elementary changes. -/

namespace Sys2Proof.Machine

variable {G : Prop} {p : Part} {K : Set Part} {s t : State} {fields : List Field}

/-! ## Answers -/

/-- A chain of checks succeeds where each of them does. -/
theorem bind_ok {α β : Type} {x : Except Status α} {f : α → Except Status β} {y : β} :
    (x >>= f) = .ok y ↔ ∃ a, x = .ok a ∧ f a = .ok y := by
  cases x with
  | error =>
    constructor
    · intro h; cases h
    · rintro ⟨_, h, -⟩; cases h
  | ok a =>
    constructor
    · exact fun h => ⟨a, rfl, h⟩
    · rintro ⟨_, h, h'⟩; cases h; exact h'

theorem answer_ok {α : Type} {x y : α} : (Except.ok x : Except Status α) = .ok y ↔ x = y := by
  rw [Except.ok.injEq]

/-- A check that is passed answers nothing. -/
theorem require_exists {b : Bool} {st : Status} {P : Unit → Prop} : (∃ a, require b st = .ok a ∧ P a) ↔ b = true ∧ P () := by
  constructor
  · rintro ⟨_, h, hP⟩
    exact ⟨require_ok.1 h, hP⟩
  · rintro ⟨h, hP⟩
    exact ⟨(), require_ok.2 h, hP⟩

theorem need_ok {α : Type} {st : Status} {o : Option α} {a : α} : need st o = .ok a ↔ o = some a := by
  cases o <;> simp [need]

/-! ## Quiet changes -/

/-- The parts whose changes leave standby and HOLD. -/
def quiet : Set Part := {p | p.pointing = false ∧ p.holding = false}

theorem settling_sub_quiet : settling ⊆ quiet := by
  rintro p (rfl | ⟨k, rfl⟩) <;> exact ⟨rfl, rfl⟩

theorem calling_sub_quiet : calling ⊆ quiet := by
  rintro p (rfl | rfl | rfl | ⟨n, rfl⟩) <;> exact ⟨rfl, rfl⟩

theorem linking_sub_quiet : linking ⊆ quiet := by
  rintro p (rfl | rfl | rfl | rfl | rfl | rfl | ⟨n, rfl | rfl⟩) <;> exact ⟨rfl, rfl⟩

theorem taking_sub_quiet (k : Fin 8) : taking k ⊆ quiet := by
  rintro p ((h | rfl | rfl | rfl | rfl | rfl | ⟨el, rfl⟩) | h)
  · exact calling_sub_quiet h
  any_goals exact ⟨rfl, rfl⟩
  · exact settling_sub_quiet h

theorem completing_sub_quiet (o : FadeOwner) (el : Element) : completing o el ⊆ quiet := by
  rintro p (rfl | ⟨r, -, rfl | rfl⟩) <;> exact ⟨rfl, rfl⟩

theorem parting_sub_quiet : parting ⊆ quiet := by
  rintro p (rfl | rfl | (⟨el, rfl | ⟨o, h⟩⟩ | h) | (rfl | rfl | rfl | rfl) | h | ⟨k, h⟩)
  any_goals exact ⟨rfl, rfl⟩
  · exact completing_sub_quiet o el h
  · exact settling_sub_quiet h
  · exact calling_sub_quiet h
  · exact taking_sub_quiet k h

theorem framing_sub_quiet : framing ⊆ quiet := by
  rintro p (rfl | rfl | h)
  · exact ⟨rfl, rfl⟩
  · exact ⟨rfl, rfl⟩
  · exact linking_sub_quiet h

theorem run_quietSettle : Run G quiet s (settleAll s) := run_settleAll.mono settling_sub_quiet

theorem run_quietWrite (el : Element) (z : Int) : Run G quiet s (directWrite el z s) :=
  Run.one (p := .write el) ⟨rfl, rfl⟩ (.write s el z)

theorem run_quietRemove (el : Element) : Run G quiet s (removeEntry el s) :=
  Run.one (p := .write el) ⟨rfl, rfl⟩ (.remove s el)

theorem run_writeSelected (el : Element) (z : Option Int) : Run G quiet s (writeSelected el z s) := by
  cases z with
  | none => exact Run.refl ..
  | some z => exact run_quietWrite el z

/-- The state after a request in the form that its answer has. -/
theorem run_of_ok {u : State} (h : (Except.ok (fields, u) : Answer) = .ok (fields, t)) (run : Run G K s u) : Run G K s t := by
  cases h; exact run

/-! ## ROLE_SET, ROLE_MODIFY, CHANNEL_SET, GROUP_SET -/

theorem run_roleSet {role : Nat} {label : Label} {performer cover : Nat}
    (h : roleSet role label performer cover s = .ok (fields, t)) : Run G quiet s t := by
  simp only [roleSet, bind_ok, require_exists, answer_ok] at h
  obtain ⟨r, -, -, c, -, free, ⟨⟩⟩ := h
  exact Run.one (p := .cast r) ⟨rfl, rfl⟩ (.cast s r _ (by simpa using free) ⟨rfl, rfl, rfl, rfl, rfl, rfl⟩)

theorem run_roleModify {roles : Nat} {f : RoleFields} (h : roleModify roles f s = .ok (fields, t)) : Run G quiet s t := by
  simp only [roleModify, bind_ok, require_exists, answer_ok] at h
  obtain ⟨set, -, group, -, station, -, buses, -, -, -, ⟨⟩⟩ := h
  refine (Run.foldl_all fun r u => ?_).trans run_quietSettle
  exact (Run.one (K := quiet) (p := .role) ⟨rfl, rfl⟩ (.role u r _ ⟨rfl, rfl, rfl, rfl, rfl, rfl⟩)).trans (run_writeSelected ..)

theorem run_channelSet {channels : Nat} {f : ChannelFields} (h : channelSet channels f s = .ok (fields, t)) :
    Run G quiet s t := by
  simp only [channelSet, bind_ok, require_exists, answer_ok] at h
  obtain ⟨set, -, group, -, buses, -, -, ⟨⟩⟩ := h
  exact Run.foldl_all fun c u => Run.one (p := .channel) ⟨rfl, rfl⟩ (.channel u c _ rfl)

theorem modGroup_congr {g : Fin 16} {f f' : Group → Group} (h : f (s.group g) = f' (s.group g)) :
    s.modGroup g f = s.modGroup g f' := by
  simp only [State.modGroup, Table.modify]
  rw [show f (s.table.groups.get g) = f' (s.table.groups.get g) from h]

theorem run_groupSet {group : Nat} {f : GroupFields} (h : groupSet group f s = .ok (fields, t)) : Run G quiet s t := by
  simp only [groupSet, bind_ok, require_exists, answer_ok] at h
  obtain ⟨g, -, -, ⟨⟩⟩ := h
  rw [modGroup_congr (f' := fun x => { x with label := pick (s.group g).label f.label }) rfl]
  exact (Run.one (K := quiet) (p := .group) ⟨rfl, rfl⟩ (.group s g _)).trans ((run_writeSelected ..).trans run_quietSettle)

/-! ## ROLE_RETIRE -/

/-- A removal leaves the Role Table, whatever it holds. -/
theorem removeEntry_withTable (el : Element) (x : RoleTable) (s : State) :
    removeEntry el { s with table := x } = { removeEntry el s with table := x } := by
  have same : State.entry? { s with table := x } el = s.entry? el := rfl
  unfold removeEntry
  rw [same]
  cases s.entry? el with
  | none => rfl
  | some e => obtain ⟨_, o, _⟩ := e; cases o <;> rfl

theorem clearListeners_withTable (r : Fin 64) (x : RoleTable) (s : State) :
    clearListeners r { s with table := x } = { clearListeners r s with table := x } := rfl

/-- The state a retirement leaves, its part in the Role Table last. -/
theorem retireRole_eq (r : Fin 64) (s : State) :
    retireRole r s =
      settleAll { clearListeners r (removeEntry (.xin r) (removeEntry (.xout r) (removeEntry (.role r) s))) with
        table := vacatedTable r s } := by
  unfold retireRole vacatedTable
  dsimp only
  rw [unbindOpt_eq, unbindOpt_eq (s.role r).channel s]
  simp only [removeEntry_withTable, clearListeners_withTable]
  rfl

theorem unbindOpt_table {u : State} (c : Option (Fin 64)) (h : u.table = s.table) :
    (unbindOpt c u).table = (unbindOpt c s).table := by
  cases c with
  | none => exact h
  | some c => simp only [unbindOpt, unbindChannel, State.modChannel, h]

theorem vacatedTable_congr {u : State} (r : Fin 64) (h : u.table = s.table) : vacatedTable r u = vacatedTable r s := by
  have role : u.role r = s.role r := by simp only [State.role, h]
  simp only [vacatedTable, State.modRole, role]
  rw [unbindOpt_table _ (unbindOpt_table _ h)]

/-- A removal leaves no entry on the element, and those on other elements. -/
theorem entry_removeEntry_self (el : Element) (s : State) : (removeEntry el s).entry? el = none := by
  refine List.find?_eq_none.2 fun x hx => ?_
  rw [removeEntry_fades, List.mem_filter] at hx
  simpa using hx.2

theorem entry_removeEntry_none {el x : Element} (h : s.entry? x = none) : (removeEntry el s).entry? x = none := by
  refine List.find?_eq_none.2 fun e he => ?_
  rw [removeEntry_fades, List.mem_filter] at he
  exact List.find?_eq_none.1 h e he.1

theorem run_retireRole (r : Fin 64) : Run G quiet s (retireRole r s) := by
  rw [retireRole_eq]
  have none : (removeEntry (.xin r) (removeEntry (.xout r) (removeEntry (.role r) s))).entry? (.role r) = none ∧
      (removeEntry (.xin r) (removeEntry (.xout r) (removeEntry (.role r) s))).entry? (.xout r) = none ∧
      (removeEntry (.xin r) (removeEntry (.xout r) (removeEntry (.role r) s))).entry? (.xin r) = none :=
    ⟨entry_removeEntry_none (entry_removeEntry_none (entry_removeEntry_self ..)),
      entry_removeEntry_none (entry_removeEntry_self ..), entry_removeEntry_self ..⟩
  have table : (removeEntry (.xin r) (removeEntry (.xout r) (removeEntry (.role r) s))).table = s.table := by simp
  have removed : Run G quiet s (removeEntry (.xin r) (removeEntry (.xout r) (removeEntry (.role r) s))) :=
    (run_quietRemove _).trans ((run_quietRemove _).trans (run_quietRemove _))
  generalize removeEntry (.xin r) (removeEntry (.xout r) (removeEntry (.role r) s)) = u at *
  have listeners : Run G quiet u (clearListeners r u) :=
    Run.one (p := .mixes) ⟨rfl, rfl⟩ (.mixes u _ fun f => by simp [keepsMix, State.mix])
  rw [← vacatedTable_congr (u := clearListeners r u) r table]
  exact removed.trans (listeners.trans ((Run.one (K := quiet) (p := .cast r) ⟨rfl, rfl⟩ (.vacate (clearListeners r u) r none)).trans run_quietSettle))

theorem run_roleRetire {role : Nat} (h : roleRetire role s = .ok (fields, t)) : Run G quiet s t := by
  simp only [roleRetire, bind_ok, require_exists, answer_ok] at h
  obtain ⟨r, -, -, ⟨⟩⟩ := h
  exact run_retireRole r

/-! ## ROLE_REBIND -/

theorem finishEarlier_eq {r c : Fin 64} (h : (s.role r).releasing = some c) :
    finishEarlier r s = directWrite (.xin r) 0 (directWrite (.xout r) 0 { s with table := releasedTable r s }) := by
  have crossfade := endCrossfade_eq r s
  unfold endCrossfade at crossfade
  rw [h] at crossfade
  rw [← crossfade]
  simp [finishEarlier, h, unbindOpt]

/-- An earlier crossfade completes: nothing is releasing any more, and the role stays cast (R18). -/
theorem run_finishEarlier (r : Fin 64) : Run G quiet s (finishEarlier r s) := by
  cases h : (s.role r).releasing with
  | none => simp only [finishEarlier, h]; exact Run.refl ..
  | some c =>
    rw [finishEarlier_eq h]
    exact (Run.one (K := quiet) (p := .release r) ⟨rfl, rfl⟩ (.release s r)).trans ((run_quietWrite ..).trans (run_quietWrite ..))

theorem finishEarlier_cast (r : Fin 64) (s : State) :
    sameCast { s.role r with releasing := none } ((finishEarlier r s).role r) := by
  cases h : (s.role r).releasing with
  | none => simp only [finishEarlier, h]; exact ⟨rfl, rfl, h⟩
  | some c =>
    rw [finishEarlier_eq h]
    obtain ⟨a, ch, rel⟩ := sameCast_of_levels (directWrite_role (.xin r) 0
      (directWrite (.xout r) 0 { s with table := releasedTable r s }) r)
    obtain ⟨a', ch', rel'⟩ := sameCast_of_levels (directWrite_role (.xout r) 0 { s with table := releasedTable r s } r)
    rw [released_role, if_pos rfl] at a' ch' rel'
    exact ⟨a.trans a', ch.trans ch', rel.trans rel'⟩

/-- A channel is held by no role but this one. -/
theorem heldByOther_some_iff {r c : Fin 64} :
    heldByOther r (some c) s = false ↔
      ∀ q, q ≠ r → (s.channel c).binding ≠ .current q ∧ (s.channel c).binding ≠ .releasing q := by
  constructor
  · exact fun h q hq => heldByOther_some h q hq
  · intro h
    unfold heldByOther
    cases hb : (s.channel c).binding with
    | none => simp [hb]
    | current q | releasing q =>
      by_contra other
      have := h q (by simpa [hb] using other)
      simp [hb] at this

/-- A channel that no other role holds is held by none after an earlier crossfade has completed. -/
theorem heldByOther_finishEarlier {r : Fin 64} {new : Option (Fin 64)} (h : heldByOther r new s = false) :
    heldByOther r new (finishEarlier r s) = false := by
  cases new with
  | none => rfl
  | some d =>
    cases hr : (s.role r).releasing with
    | none => simp only [finishEarlier, hr]; exact h
    | some c =>
      have stands : ((finishEarlier r s).channel d).binding = if some c = some d then .none else (s.channel d).binding := by
        rw [finishEarlier_eq hr, (Change.write (G := True) _ (.xin r) 0).channel_stands rfl,
          (Change.write (G := True) _ (.xout r) 0).channel_stands rfl, released_channel, hr]
        split <;> rfl
      rw [heldByOther_some_iff] at h ⊢
      intro q hq
      rw [stands]
      split
      · exact ⟨by simp, by simp⟩
      · exact h q hq

theorem rebindInstant_eq (r : Fin 64) (new : Option (Fin 64)) (s : State) :
    rebindInstant r new s = directWrite (.xin r) 0 (directWrite (.xout r) 0 { s with table := movedTable r new s }) := by
  unfold rebindInstant movedTable
  dsimp only
  rw [unbindOpt_eq, setBinding_eq]
  rfl

theorem run_rebindInstant {r : Fin 64} {new : Option (Fin 64)} (cast : (s.role r).active = true)
    (settled : (s.role r).releasing = none) (free : heldByOther r new s = false) : Run G quiet s (rebindInstant r new s) := by
  rw [rebindInstant_eq]
  exact (Run.one (K := quiet) (p := .rebind r) ⟨rfl, rfl⟩ (.move s r new cast settled free)).trans
    ((run_quietWrite ..).trans (run_quietWrite ..))

theorem rebindCrossfade_eq (r : Fin 64) (new : Option (Fin 64)) (d : Nat) (s : State) :
    rebindCrossfade r new d s =
      if new.isSome then
        (fadeRequest (.xin r) 0 d .system (directWrite (.xin r) off
          (fadeRequest (.xout r) off d .system { s with table := crossedTable r new s }).2)).2
      else (fadeRequest (.xout r) off d .system { s with table := crossedTable r new s }).2 := by
  unfold rebindCrossfade crossedTable
  dsimp only
  rw [setBinding_eq (s.role r).channel, setBinding_eq new]
  rfl

theorem run_fadeCross {r : Fin 64} {el : Element} (hel : el = .xout r ∨ el = .xin r) (z : Int) (d : Nat)
    (cast : (s.role r).active = true) : Run G quiet s (fadeRequest el z d .system s).2 := by
  refine Run.one (p := .fade .system el) ⟨rfl, rfl⟩ (.fade s el z d .system ⟨?_, fun q hq => ?_⟩)
  · rcases hel with rfl | rfl <;> rfl
  · rcases hel with rfl | rfl <;> simp at hq <;> exact hq ▸ cast

theorem run_rebindCrossfade {r : Fin 64} {new : Option (Fin 64)} {d : Nat} (cast : (s.role r).active = true)
    (settled : (s.role r).releasing = none) (free : heldByOther r new s = false) (other : (s.role r).channel ≠ new) :
    Run G quiet s (rebindCrossfade r new d s) := by
  rw [rebindCrossfade_eq]
  have crossed := Change.cross (G := G) s r new cast settled free other
  have cast1 : (({ s with table := crossedTable r new s } : State).role r).active = true := by
    rw [crossed.active rfl]; exact cast
  have out : Change G (.fade .system (.xout r)) _ (fadeRequest (.xout r) off d .system { s with table := crossedTable r new s }).2 :=
    .fade _ (.xout r) off d .system ⟨rfl, fun q hq => by simp at hq; exact hq ▸ cast1⟩
  have run := (Run.one (K := quiet) (p := .rebind r) ⟨rfl, rfl⟩ crossed).trans
    (Run.one (p := .fade .system (.xout r)) ⟨rfl, rfl⟩ out)
  split
  · have written := Change.write (G := G) (fadeRequest (.xout r) off d .system { s with table := crossedTable r new s }).2 (.xin r) off
    refine (run.trans (run_quietWrite (.xin r) off)).trans (run_fadeCross (.inr rfl) _ _ ?_)
    rw [written.active rfl, out.active rfl, cast1]
  · exact run

theorem run_raiseFadeSnap (n : Nat) : Run G quiet s (raiseFadeSnap n s) :=
  Run.one (p := .raised .fadeSnap) ⟨rfl, rfl⟩ (.raised s .fadeSnap _ fun _ _ => rfl)

theorem run_rebindStage {r : Fin 64} {new : Option (Fin 64)} {d : Nat} (cast : (s.role r).active = true)
    (settled : (s.role r).releasing = none) (free : heldByOther r new s = false) (other : (s.role r).channel ≠ new) :
    Run G quiet s (rebindStage r new d s).2 := by
  unfold rebindStage
  split
  · exact run_rebindInstant cast settled free
  · split
    · exact run_rebindCrossfade cast settled free other
    · exact (run_rebindInstant cast settled free).trans
        (run_raiseFadeSnap _)

theorem run_roleRebind {role channel time : Nat} (h : roleRebind role channel time s = .ok (fields, t)) :
    Run G quiet s t := by
  simp only [roleRebind, bind_ok, require_exists] at h
  obtain ⟨r, -, new, -, cast, free, h⟩ := h
  split at h
  · cases h; exact Run.refl ..
  · rename_i other
    cases h
    obtain ⟨active, chan, settled⟩ := finishEarlier_cast r s
    exact (run_finishEarlier r).trans (run_rebindStage (active.trans cast) settled
      (heldByOther_finishEarlier (by simpa using free)) (chan ▸ other))

end Sys2Proof.Machine
end

section
/-! The requests of the Fade Engine, the Cue List and the Cue Engine as runs of elementary changes. -/

namespace Sys2Proof.Machine

variable {G : Prop} {p : Part} {K : Set Part} {s t : State} {fields : List Field}

/-! ## LEVEL_SET (R57) -/

/-- The targets of a list keep to the kinds open to class HOST. -/
theorem levelTargets_open {items : List LevelItem} {l : List (Element × Int × Nat)} (h : levelTargets items = some l) :
    ∀ x ∈ l, elemOpen x.1 = true := by
  induction items generalizing l with
  | nil => cases h; simp
  | cons i rest ih =>
    simp only [levelTargets, Option.bind_eq_some_iff, Option.map_eq_some_iff] at h
    obtain ⟨x, hx, l', hl', rfl⟩ := h
    have open1 : elemOpen x.1 = true := by
      simp only [levelTarget, Option.bind_eq_some_iff] at hx
      obtain ⟨el, -, h⟩ := hx
      split at h
      · cases h; assumption
      · cases h
    simpa using ⟨open1, fun a b c hx => ih hl' (a, b, c) hx⟩

theorem available_congr {el : Element} (active : ∀ r, (t.role r).active = (s.role r).active)
    (value : (t.value? el).isSome = (s.value? el).isSome) : t.available el = s.available el := by
  cases el with
  | role r => exact active r
  | send | relaySend => exact value
  | _ => rfl

theorem available_fadeRequest (x el : Element) (z : Int) (d : Nat) (o : FadeOwner) (s : State) :
    (fadeRequest el z d o s).2.available x = s.available x := by
  refine available_congr (fun r => by rw [fadeRequest_role]) ?_
  by_cases hx : x = el
  · subst hx
    cases hv : s.value? x with
    | none => rw [value_fadeRequest_none hv, hv]
    | some cur => rcases value_fadeRequest_self hv z d o with h | h <;> rw [h] <;> rfl
  · rw [value_fadeRequest_ne hx]

theorem levelItems_cons (el : Element) (z : Int) (d : Nat) (rest : List (Element × Int × Nat)) (s : State) :
    (levelItems ((el, z, d) :: rest) s).2 = (levelItems rest (fadeRequest el z d .host s).2).2 := rfl

theorem run_levelItems {l : List (Element × Int × Nat)} (opens : ∀ x ∈ l, elemOpen x.1 = true)
    (stand : ∀ x ∈ l, s.available x.1 = true) : Run G quiet s (levelItems l s).2 := by
  induction l generalizing s with
  | nil => exact Run.refl ..
  | cons x rest ih =>
    obtain ⟨el, z, d⟩ := x
    rw [levelItems_cons]
    have asked : asks .host el s := ⟨stand (el, z, d) (by simp), opens (el, z, d) (by simp)⟩
    exact (Run.one (K := quiet) (p := .fade .host el) ⟨rfl, rfl⟩ (.fade s el z d .host asked)).trans
      (ih (fun x hx => opens x (by simp [hx])) fun x hx => (available_fadeRequest ..).trans (stand x (by simp [hx])))

theorem run_levelSet {items : List LevelItem} (h : levelSet items s = .ok (fields, t)) : Run G quiet s t := by
  simp only [levelSet, bind_ok, require_exists, need_ok, answer_ok] at h
  obtain ⟨-, -, targets, htargets, -, stand, ⟨⟩⟩ := h
  exact (run_levelItems (levelTargets_open htargets) fun x hx => List.all_eq_true.1 stand x hx).trans run_quietSettle

/-! ## CUE_STORE, CUE_DELETE, STANDBY_SET (R66, R67, R72) -/

theorem bodyOf_open {b : RawBody} {x : ActionBody} (h : bodyOf b = some x) : bodyOpen x := by
  cases b with
  | level a target time =>
    simp only [bodyOf, Option.bind_eq_some_iff] at h
    obtain ⟨el, -, h⟩ := h
    split at h
    · cases h; assumption
    · cases h
  | member r g =>
    simp only [bodyOf, Option.bind_eq_some_iff, Option.map_eq_some_iff] at h
    obtain ⟨_, -, _, -, rfl⟩ := h
    trivial
  | route r b =>
    obtain ⟨_, -, rfl⟩ := Option.map_eq_some_iff.1 h
    trivial
  | call q =>
    obtain ⟨_, -, rfl⟩ := Option.map_eq_some_iff.1 h
    trivial
  | trigger c =>
    simp only [bodyOf] at h
    split at h
    · cases h; trivial
    · cases h
  | unknown => cases h

theorem actionsOf_open {raw : List RawAction} {l : List Action} (h : actionsOf raw = some l) : ∀ a ∈ l, bodyOpen a.body := by
  induction raw generalizing l with
  | nil => cases h; simp
  | cons a rest ih =>
    simp only [actionsOf, Option.bind_eq_some_iff, Option.map_eq_some_iff] at h
    obtain ⟨x, hx, l', hl', rfl⟩ := h
    obtain ⟨b, hb, rfl⟩ := Option.map_eq_some_iff.1 hx
    simpa using ⟨bodyOf_open hb, ih hl'⟩

theorem cueOf_open {raw : RawCue} {c : Cue} (h : cueOf raw = some c) : ∀ a ∈ c.actions, bodyOpen a.body := by
  unfold cueOf at h
  split at h
  · obtain ⟨l, hl, rfl⟩ := Option.map_eq_some_iff.1 h
    exact actionsOf_open hl
  · cases h

theorem mem_insertCue {c d : Cue} {l : List Cue} (h : d ∈ insertCue c l) : d = c ∨ d ∈ l := by
  induction l with
  | nil => simpa [insertCue] using h
  | cons x rest ih =>
    simp only [insertCue] at h
    split at h
    · simpa using h
    · split at h
      · rcases List.mem_cons.1 h with h | h
        · exact .inl h
        · exact .inr (by simp [h])
      · rcases List.mem_cons.1 h with h | h
        · exact .inr (by simp [h])
        · exact (ih h).imp_right fun h => by simp [h]

/-- The numbers of a list after a store: those that stood, and the one stored (R66). -/
theorem mem_insertCue_number (c : Cue) (l : List Cue) (n : Nat) :
    n ∈ (insertCue c l).map (fun d => d.number) ↔ n = c.number ∨ n ∈ l.map (fun d => d.number) := by
  induction l with
  | nil => simp [insertCue]
  | cons x rest ih =>
    simp only [insertCue]
    split
    · simp
    · split
      · rename_i same
        simp [same]
      · simp only [List.map_cons, List.mem_cons, ih]
        tauto

theorem insertCue_sorted {c : Cue} {l : List Cue} (h : (l.map (fun d => d.number)).Pairwise (· < ·)) :
    ((insertCue c l).map (fun d => d.number)).Pairwise (· < ·) := by
  induction l with
  | nil => simp [insertCue]
  | cons x rest ih =>
    rw [List.map_cons, List.pairwise_cons] at h
    obtain ⟨first, ordered⟩ := h
    simp only [insertCue]
    split
    · rename_i before
      rw [List.map_cons, List.map_cons, List.pairwise_cons, List.pairwise_cons]
      refine ⟨fun n hn => ?_, first, ordered⟩
      rcases List.mem_cons.1 hn with rfl | hn
      · exact before
      · exact before.trans (first n hn)
    · split
      · rename_i same
        rw [List.map_cons, List.pairwise_cons]
        exact ⟨fun n hn => same ▸ first n hn, ordered⟩
      · rw [List.map_cons, List.pairwise_cons]
        refine ⟨fun n hn => ?_, ih ordered⟩
        rcases (mem_insertCue_number c rest n).1 hn with rfl | hn
        · omega
        · exact first n hn

/-- A store adds a cue where none of its number stood, and else replaces it (R66). -/
theorem insertCue_length {c : Cue} {l : List Cue} (h : (l.map (fun d => d.number)).Pairwise (· < ·)) :
    (insertCue c l).length = if (l.find? (fun d => d.number = c.number)).isSome then l.length else l.length + 1 := by
  induction l with
  | nil => simp [insertCue]
  | cons x rest ih =>
    rw [List.map_cons, List.pairwise_cons] at h
    obtain ⟨first, ordered⟩ := h
    simp only [insertCue, List.find?_cons]
    split
    · rename_i before
      have absent : rest.find? (fun d => decide (d.number = c.number)) = none := by
        refine List.find?_eq_none.2 fun d hd => ?_
        have := first d.number (List.mem_map_of_mem hd)
        simp only [decide_eq_true_eq]
        omega
      have other : x.number ≠ c.number := by omega
      simp [other, absent]
    · split
      · rename_i same
        simp [same]
      · rename_i other
        have other : x.number ≠ c.number := fun h => other h.symm
        simp only [List.length_cons, ih ordered, other, decide_false]
        split <;> rfl

theorem run_cueStore {raw : RawCue} (h : cueStore raw s = .ok (fields, t)) : Run G quiet s t := by
  simp only [cueStore, bind_ok, require_exists, need_ok, answer_ok] at h
  obtain ⟨-, c, hc, room, ⟨⟩⟩ := h
  refine Run.one (p := .store) ⟨rfl, rfl⟩ (.store s _ (fun law => ?_) fun d hd => ?_)
  · obtain ⟨places, ordered, standby⟩ := law
    refine ⟨?_, insertCue_sorted ordered, fun n hn => (mem_insertCue_number ..).2 (.inr (standby n hn))⟩
    show (insertCue c s.cues.cues).length ≤ Config.cuePlaces
    rw [insertCue_length ordered]
    split
    · exact places
    · rename_i new
      have new : (findCue c.number s).isSome = false := by simpa [findCue] using new
      rw [new] at room
      simpa using room
  · rcases mem_insertCue hd with rfl | listed
    · exact .inr (cueOf_open hc)
    · exact .inl listed

/-- A deletion keeps the law of the cue list (R59, R67). -/
theorem cueLaw_delete (first last : Nat) (law : cueLaw s) :
    cueLaw { s with cues := { cues := outsideRange first last s.cues.cues
                              standby := standbyAfter first last (outsideRange first last s.cues.cues) s.cues.standby } } := by
  obtain ⟨places, ordered, standby⟩ := law
  refine ⟨(List.length_filter_le ..).trans places, ordered.sublist (List.filter_sublist.map _), fun n hn => ?_⟩
  simp only [standbyAfter] at hn
  split at hn
  · cases hn
  · rename_i m hm
    split at hn
    · exact (nextAbove_mem hn).1
    · rename_i outside
      cases hn
      obtain ⟨c, hc, rfl⟩ := List.mem_map.1 (standby n hm)
      exact List.mem_map_of_mem (List.mem_filter.2 ⟨hc, by simpa using outside⟩)

/-- The parts whose changes leave HOLD. -/
def unheld : Set Part := {p | p.holding = false}

theorem quiet_sub_unheld : quiet ⊆ unheld := fun _ h => h.2

theorem run_cueDelete {first last : Nat} (h : cueDelete first last s = .ok (fields, t)) : Run G unheld s t := by
  simp only [cueDelete, bind_ok, require_exists, answer_ok] at h
  obtain ⟨-, -, -, ⟨⟩⟩ := h
  exact Run.one (p := .cues) rfl (.cues s _ (cueLaw_delete first last) fun c hc => .inl (List.mem_filter.1 hc).1)

theorem run_standbySet {n : Nat} (h : standbySet n s = .ok (fields, t)) : Run G unheld s t := by
  unfold standbySet at h
  split at h
  · cases h
    exact Run.one (p := .cues) rfl (.cues s _ (fun law => ⟨law.1, law.2.1, fun _ h => by cases h⟩) fun _ hc => .inl hc)
  · simp only [bind_ok, require_exists, answer_ok] at h
    obtain ⟨-, listed, ⟨⟩⟩ := h
    refine Run.one (p := .cues) rfl (.cues s _ (fun law => ⟨law.1, law.2.1, fun m hm => ?_⟩) fun _ hc => .inl hc)
    cases hm
    obtain ⟨c, hc⟩ := Option.isSome_iff_exists.1 listed
    exact List.mem_map.2 ⟨c, List.mem_of_find?_eq_some hc, findCue_number hc⟩

/-! ## GO (R80, R81) -/

theorem firing_sub_unheld : firing ⊆ unheld := by
  rintro p (rfl | rfl | rfl | ⟨k, h | ⟨el, h⟩⟩)
  any_goals exact rfl
  · exact (taking_sub_quiet k h).2
  · exact (completing_sub_quiet _ el h).2

theorem going_sub_unheld : going ⊆ unheld := by
  rintro p (rfl | h)
  · rfl
  · exact firing_sub_unheld h

theorem run_goRequest (law : G → fadeLaw s) (h : goRequest s = .ok (fields, t)) : Run G unheld s t := by
  unfold goRequest at h
  rcases goEvent_cases .port s with ⟨-, e⟩ | ⟨-, -, e⟩ | ⟨cue, -, standby, e⟩ <;> rw [e] at h <;> cases h
  exact (run_fireGo law (standbyCue_listed standby)).mono firing_sub_unheld

/-! ## SAFE_SET, INPUT_SET (R77, R92) -/

/-- A CUE entry on the element is removed, and every other stands (R92). -/
theorem removeCueEntry_cases (el : Element) (s : State) :
    ((∀ e, s.entry? el = some e → ∀ k, e.owner ≠ .cue k) ∧ removeCueEntry el s = s) ∨
      ∃ e k, s.entry? el = some e ∧ e.owner = .cue k ∧ removeCueEntry el s = removeEntry el s := by
  unfold removeCueEntry
  cases h : s.entry? el with
  | none => exact .inl ⟨by simp, rfl⟩
  | some e =>
    obtain ⟨_, o, _⟩ := e
    cases o with
    | cue k => exact .inr ⟨_, k, rfl, rfl, rfl⟩
    | host | system => exact .inl ⟨by simp, rfl⟩

theorem run_removeCueEntry (el : Element) : Run G quiet s (removeCueEntry el s) := by
  rcases removeCueEntry_cases el s with ⟨-, e⟩ | ⟨_, _, -, -, e⟩ <;> rw [e]
  · exact Run.refl ..
  · exact run_quietRemove el

theorem run_safeSet {selection value : Nat} (h : safeSet selection value s = .ok (fields, t)) : Run G quiet s t := by
  simp only [safeSet, bind_ok, answer_ok] at h
  obtain ⟨sel, -, val, -, ⟨⟩⟩ := h
  have written : Run G quiet s (s.modEngine (fun x => { x with safes := (s.engine.safes &&& ~~~sel) ||| (val &&& sel) })) :=
    Run.one (p := .safes) ⟨rfl, rfl⟩ (.safes s _)
  exact written.trans ((Run.foldl_all fun el _ => run_removeCueEntry el).trans run_quietSettle)

theorem run_inputSet {f : InputFields} (h : inputSet f s = .ok (fields, t)) : Run G quiet s t := by
  simp only [inputSet, bind_ok, require_exists, answer_ok] at h
  obtain ⟨-, ⟨⟩⟩ := h
  exact Run.one (p := .inputs) ⟨rfl, rfl⟩ (.inputs s _ _ _)

end Sys2Proof.Machine
end

section
/-! The requests of the Foldback Unit, the Relay Unit, the Monitor Unit and the Link Interface as runs of elementary
changes. -/

namespace Sys2Proof.Machine

variable {G : Prop} {p : Part} {K : Set Part} {s t : State} {fields : List Field}

/-! ## Mixes (R106 to R108) -/

theorem run_keepMix (f : Fin 12) (g : Mix → Mix) (h : ∀ x, keepsMix x (g x)) : Run G quiet s (s.modMix f g) := by
  refine Run.one (p := .mixes) ⟨rfl, rfl⟩ (.mixes s (s.foldback.mixes.modify f g) fun i => ?_)
  show keepsMix (s.mix i) ((s.modMix f g).mix i)
  rw [modMix_mix]
  split
  · subst_vars; exact h _
  · exact ⟨rfl, rfl, rfl, rfl⟩

theorem run_mixSet {mix : Nat} {f : MixFields} (h : mixSet mix f s = .ok (fields, t)) : Run G quiet s t := by
  simp only [mixSet, bind_ok, require_exists, answer_ok] at h
  obtain ⟨i, -, listener, -, -, -, ⟨⟩⟩ := h
  have written : Run G quiet s (s.modMix i (applyMix f listener)) := run_keepMix i _ fun _ => ⟨rfl, rfl, rfl, rfl⟩
  exact written.trans ((run_writeSelected ..).trans run_quietSettle)

/-- The levels of an item list are clamped (R105). -/
theorem entryItems_range {items : List EntryItem} {l : List (Source × Int)} (h : entryItems items = some l) :
    ∀ i ∈ l, off ≤ i.2 ∧ i.2 ≤ 40 := by
  induction items generalizing l with
  | nil => cases h; simp
  | cons i rest ih =>
    simp only [entryItems, Option.bind_eq_some_iff, Option.map_eq_some_iff] at h
    obtain ⟨src, -, l', hl', rfl⟩ := h
    have range : off ≤ clampCode off 40 i.level ∧ clampCode off 40 i.level ≤ 40 :=
      ⟨clampCode_ge _, clampCode_le _ (by simp [off])⟩
    simpa using ⟨range, fun a b hx => ih hl' (a, b) hx⟩

theorem distinct_nodup {α : Type} [DecidableEq α] {l : List α} (h : distinct l = true) : l.Nodup := by
  induction l with
  | nil => exact List.nodup_nil
  | cons a rest ih =>
    simp only [distinct, Bool.and_eq_true, Bool.not_eq_true', List.contains_eq_mem, decide_eq_false_iff_not] at h
    exact List.nodup_cons.2 ⟨h.1, ih h.2⟩

/-- One item: the source has an entry, whose level is written, or it gets one (R107). -/
theorem setEntry_cases (f : Fin 12) (i : Source × Int) (s : State) :
    (hasEntry f i.1 s = true ∧ setEntry f s i = directWrite (.send f i.1) i.2 s) ∨
      (hasEntry f i.1 s = false ∧
        setEntry f s i = s.modMix f (fun x => { x with entries := x.entries ++ [⟨i.1, i.2⟩] })) := by
  unfold setEntry
  cases hasEntry f i.1 s <;> simp

/-- A mix has an entry of each source that its list holds. -/
theorem hasEntry_iff (f : Fin 12) (src : Source) (s : State) :
    hasEntry f src s = true ↔ src ∈ (s.mix f).entries.map (fun e => e.source) := by
  simp [hasEntry]

theorem setEntry_sources (f : Fin 12) (i : Source × Int) (s : State) :
    ((setEntry f s i).mix f).entries.map (fun e => e.source) =
      if hasEntry f i.1 s then (s.mix f).entries.map (fun e => e.source)
      else (s.mix f).entries.map (fun e => e.source) ++ [i.1] := by
  rcases setEntry_cases f i s with ⟨has, e⟩ | ⟨has, e⟩ <;> rw [e, has]
  · exact (directWrite_mix ..).2
  · simp

/-- An item of another source leaves which sources have an entry. -/
theorem hasEntry_setEntry {f : Fin 12} {i : Source × Int} {src : Source} (h : src ≠ i.1) (s : State) :
    hasEntry f src (setEntry f s i) = hasEntry f src s := by
  rw [Bool.eq_iff_iff, hasEntry_iff, hasEntry_iff, setEntry_sources]
  split <;> simp [h]

theorem run_setEntries {f : Fin 12} {l : List (Source × Int)} (range : ∀ i ∈ l, off ≤ i.2 ∧ i.2 ≤ 40)
    (differ : (l.map (fun i => i.1)).Nodup)
    (room : (s.mix f).entries.length + newSources f l s ≤ Config.mixEntryPlaces) :
    Run G quiet s (l.foldl (setEntry f) s) := by
  induction l generalizing s with
  | nil => exact Run.refl ..
  | cons i rest ih =>
    rw [List.map_cons, List.nodup_cons] at differ
    obtain ⟨new, differ⟩ := differ
    have stand : newSources f rest (setEntry f s i) = newSources f rest s := by
      unfold newSources
      congr 1
      refine List.filter_congr fun j hj => ?_
      rw [hasEntry_setEntry]
      exact fun same => new (same ▸ List.mem_map_of_mem hj)
    have count : newSources f (i :: rest) s = (if hasEntry f i.1 s then 0 else 1) + newSources f rest s := by
      unfold newSources
      rw [List.filter_cons]
      cases hasEntry f i.1 s <;> simp [Nat.add_comm]
    have length : ((setEntry f s i).mix f).entries.length = (s.mix f).entries.length + (if hasEntry f i.1 s then 0 else 1) := by
      rw [← List.length_map (f := fun e : MixEntry => e.source), setEntry_sources]
      split <;> simp
    have rest := ih (s := setEntry f s i) (fun j hj => range j (by simp [hj])) differ (by rw [stand, length]; omega)
    refine Run.trans ?_ rest
    rcases setEntry_cases f i s with ⟨has, e⟩ | ⟨has, e⟩ <;> rw [e]
    · exact run_quietWrite ..
    · refine Run.one (p := .sends f) ⟨rfl, rfl⟩ (.addSend s f i.1 i.2 (range i (by simp)) has ?_)
      rw [count, has] at room
      simp only [Bool.false_eq_true, if_false] at room
      omega

theorem run_mixEntrySet {mix : Nat} {items : List EntryItem} (h : mixEntrySet mix items s = .ok (fields, t)) :
    Run G quiet s t := by
  simp only [mixEntrySet, bind_ok, require_exists, need_ok, answer_ok] at h
  obtain ⟨f, -, -, -, targets, htargets, differ, room, ⟨⟩⟩ := h
  exact (run_setEntries (entryItems_range htargets) (distinct_nodup differ) (by simpa using room)).trans run_quietSettle

theorem run_dropEntry (f : Fin 12) (src : Source) : Run G quiet s (dropEntry f s src) :=
  (run_quietRemove _).trans (Run.one (p := .sends f) ⟨rfl, rfl⟩ (.dropSend _ f src (entry_removeEntry_self ..)))

theorem run_removeSources {f : Fin 12} {srcs : List Source} (h : removeSources f srcs s = .ok (fields, t)) :
    Run G quiet s t := by
  cases h
  exact (Run.foldl_all fun src _ => run_dropEntry f src).trans run_quietSettle

theorem run_mixEntryRemove {mix : Nat} {form : RemoveForm} (h : mixEntryRemove mix form s = .ok (fields, t)) :
    Run G quiet s t := by
  simp only [mixEntryRemove, bind_ok] at h
  obtain ⟨f, -, h⟩ := h
  cases form with
  | one a =>
    simp only [bind_ok, require_exists, need_ok] at h
    obtain ⟨-, src, -, -, h⟩ := h
    exact run_removeSources h
  | all => exact run_removeSources h
  | unknown => cases h

/-! ## Talkback (R110, R111) -/

theorem run_reduck (before : State) (f : Fin 12) : Run G quiet s (reduck before s f) := by
  unfold reduck
  dsimp only
  split
  · exact Run.refl ..
  · exact Run.one (p := .fade .system (.tbDuck f)) ⟨rfl, rfl⟩ (.fade s _ _ _ .system ⟨rfl, fun r h => by simp at h⟩)

theorem run_changeTalkback (i : Fin 2) (g : Talkback → Talkback) : Run G quiet s (changeTalkback i g s) :=
  (Run.one (K := quiet) (p := .talkbacks) ⟨rfl, rfl⟩ (.talkbacks s (s.foldback.talkbacks.modify i g))).trans
    (Run.foldl_all fun f _ => run_reduck s f)

theorem run_talkbackSet {tb : Nat} {f : TalkbackFields} (h : talkbackSet tb f s = .ok (fields, t)) : Run G quiet s t := by
  simp only [talkbackSet, bind_ok, require_exists, answer_ok] at h
  obtain ⟨i, -, source, -, targets, -, -, -, ⟨⟩⟩ := h
  exact run_changeTalkback ..

theorem run_talkbackOn {tb : Nat} (h : talkbackOn tb s = .ok (fields, t)) : Run G quiet s t := by
  simp only [talkbackOn, bind_ok, require_exists, answer_ok] at h
  obtain ⟨i, -, -, ⟨⟩⟩ := h
  split
  · exact Run.refl ..
  · exact run_changeTalkback ..

theorem run_talkbackOff {tb : Nat} (h : talkbackOff tb s = .ok (fields, t)) : Run G quiet s t := by
  simp only [talkbackOff, bind_ok, answer_ok] at h
  obtain ⟨i, -, ⟨⟩⟩ := h
  split
  · exact run_changeTalkback ..
  · exact Run.refl ..

/-! ## The relay programme (R117, R118) -/

theorem relayItems_range {items : List EntryItem} {l : List (RelaySource × Int)} (h : relayItems items = some l) :
    ∀ i ∈ l, off ≤ i.2 ∧ i.2 ≤ 40 := by
  induction items generalizing l with
  | nil => cases h; simp
  | cons i rest ih =>
    simp only [relayItems, Option.bind_eq_some_iff, Option.map_eq_some_iff] at h
    obtain ⟨src, -, l', hl', rfl⟩ := h
    have range : off ≤ clampCode off 40 i.level ∧ clampCode off 40 i.level ≤ 40 :=
      ⟨clampCode_ge _, clampCode_le _ (by simp [off])⟩
    simpa using ⟨range, fun a b hx => ih hl' (a, b) hx⟩

theorem setRelayEntry_cases (i : RelaySource × Int) (s : State) :
    (hasRelayEntry i.1 s = true ∧ setRelayEntry s i = directWrite (.relaySend i.1) i.2 s) ∨
      (hasRelayEntry i.1 s = false ∧
        setRelayEntry s i = s.modRelay (fun x => { x with entries := x.entries ++ [⟨i.1, i.2⟩] })) := by
  unfold setRelayEntry
  cases hasRelayEntry i.1 s <;> simp

theorem hasRelayEntry_iff (src : RelaySource) (s : State) :
    hasRelayEntry src s = true ↔ src ∈ s.relay.entries.map (fun e => e.source) := by
  simp [hasRelayEntry]

theorem setRelayEntry_sources (i : RelaySource × Int) (s : State) :
    (setRelayEntry s i).relay.entries.map (fun e => e.source) =
      if hasRelayEntry i.1 s then s.relay.entries.map (fun e => e.source)
      else s.relay.entries.map (fun e => e.source) ++ [i.1] := by
  rcases setRelayEntry_cases i s with ⟨has, e⟩ | ⟨has, e⟩ <;> rw [e, has]
  · exact directWrite_relayEntries ..
  · simp

theorem hasRelayEntry_setRelayEntry {i : RelaySource × Int} {src : RelaySource} (h : src ≠ i.1) (s : State) :
    hasRelayEntry src (setRelayEntry s i) = hasRelayEntry src s := by
  rw [Bool.eq_iff_iff, hasRelayEntry_iff, hasRelayEntry_iff, setRelayEntry_sources]
  split <;> simp [h]

theorem run_setRelayEntries {l : List (RelaySource × Int)} (range : ∀ i ∈ l, off ≤ i.2 ∧ i.2 ≤ 40)
    (differ : (l.map (fun i => i.1)).Nodup)
    (room : s.relay.entries.length + newRelaySources l s ≤ Config.relayEntryPlaces) :
    Run G quiet s (l.foldl setRelayEntry s) := by
  induction l generalizing s with
  | nil => exact Run.refl ..
  | cons i rest ih =>
    rw [List.map_cons, List.nodup_cons] at differ
    obtain ⟨new, differ⟩ := differ
    have stand : newRelaySources rest (setRelayEntry s i) = newRelaySources rest s := by
      unfold newRelaySources
      congr 1
      refine List.filter_congr fun j hj => ?_
      rw [hasRelayEntry_setRelayEntry]
      exact fun same => new (same ▸ List.mem_map_of_mem hj)
    have count : newRelaySources (i :: rest) s = (if hasRelayEntry i.1 s then 0 else 1) + newRelaySources rest s := by
      unfold newRelaySources
      rw [List.filter_cons]
      cases hasRelayEntry i.1 s <;> simp [Nat.add_comm]
    have length : (setRelayEntry s i).relay.entries.length = s.relay.entries.length + (if hasRelayEntry i.1 s then 0 else 1) := by
      rw [← List.length_map (f := fun e : RelayEntry => e.source), setRelayEntry_sources]
      split <;> simp
    have rest := ih (s := setRelayEntry s i) (fun j hj => range j (by simp [hj])) differ (by rw [stand, length]; omega)
    refine Run.trans ?_ rest
    rcases setRelayEntry_cases i s with ⟨has, e⟩ | ⟨has, e⟩ <;> rw [e]
    · exact run_quietWrite ..
    · refine Run.one (p := .relaySends) ⟨rfl, rfl⟩ (.addRelaySend s i.1 i.2 (range i (by simp)) has ?_)
      rw [count, has] at room
      simp only [Bool.false_eq_true, if_false] at room
      omega

theorem run_relayEntrySet {items : List EntryItem} (h : relayEntrySet items s = .ok (fields, t)) : Run G quiet s t := by
  simp only [relayEntrySet, bind_ok, require_exists, need_ok, answer_ok] at h
  obtain ⟨-, -, targets, htargets, differ, room, ⟨⟩⟩ := h
  exact (run_setRelayEntries (relayItems_range htargets) (distinct_nodup differ) (by simpa using room)).trans run_quietSettle

theorem run_dropRelayEntry (src : RelaySource) : Run G quiet s (dropRelayEntry s src) :=
  (run_quietRemove _).trans (Run.one (p := .relaySends) ⟨rfl, rfl⟩ (.dropRelaySend _ src (entry_removeEntry_self ..)))

theorem run_removeRelaySources {srcs : List RelaySource} (h : removeRelaySources srcs s = .ok (fields, t)) :
    Run G quiet s t := by
  cases h
  exact (Run.foldl_all fun src _ => run_dropRelayEntry src).trans run_quietSettle

theorem run_relayEntryRemove {form : RemoveForm} (h : relayEntryRemove form s = .ok (fields, t)) : Run G quiet s t := by
  unfold relayEntryRemove at h
  cases form with
  | one a =>
    simp only [bind_ok, require_exists, need_ok] at h
    obtain ⟨-, src, -, -, h⟩ := h
    exact run_removeRelaySources h
  | all => exact run_removeRelaySources h
  | unknown => cases h

theorem run_relaySet {f : RelayFields} (h : relaySet f s = .ok (fields, t)) : Run G quiet s t := by
  simp only [relaySet, bind_ok, require_exists, answer_ok] at h
  obtain ⟨channel, -, -, -, ⟨⟩⟩ := h
  exact Run.one (p := .relay) ⟨rfl, rfl⟩ (.relay s _ _ s.relay.selection)

theorem run_relaySelect {selection : Nat} (h : relaySelect selection s = .ok (fields, t)) : Run G quiet s t := by
  simp only [relaySelect, bind_ok, require_exists, need_ok, answer_ok] at h
  obtain ⟨sel, -, -, ⟨⟩⟩ := h
  exact Run.one (p := .relay) ⟨rfl, rfl⟩ (.relay s s.relay.backup s.relay.backupLevel sel)

/-! ## Stations, presets and calls (R119, R121, R123, R130) -/

theorem run_stationSet {stations : Nat} {f : StationFields} (h : stationSet stations f s = .ok (fields, t)) :
    Run G quiet s t := by
  simp only [stationSet, bind_ok, require_exists, answer_ok] at h
  obtain ⟨set, -, -, ⟨⟩⟩ := h
  refine (Run.foldl_all fun n u => ?_).trans run_quietSettle
  exact (Run.one (K := quiet) (p := .stations) ⟨rfl, rfl⟩ (.station u n _ ⟨rfl, rfl, rfl⟩)).trans (run_writeSelected ..)

theorem run_presetSet {preset : Nat} {f : RawPreset} (h : presetSet preset f s = .ok (fields, t)) : Run G quiet s t := by
  simp only [presetSet, bind_ok, require_exists, need_ok, answer_ok] at h
  obtain ⟨q, -, source, -, -, target, -, priority, -, -, ⟨⟩⟩ := h
  exact Run.one (p := .presets) ⟨rfl, rfl⟩ (.preset s q _)

theorem run_callStart {preset : Nat} (h : callStart preset s = .ok (fields, t)) : Run G quiet s t := by
  simp only [callStart, bind_ok] at h
  obtain ⟨q, -, h⟩ := h
  have run := (run_callRequest (G := G) (s := s) q .port).mono calling_sub_quiet
  split at h
  · cases h
  · cases h
  · cases h
  · rename_i e
    cases h
    rw [e] at run
    exact run

theorem run_callEnd {preset : Nat} (h : callEnd preset s = .ok (fields, t)) : Run G quiet s t := by
  simp only [callEnd, bind_ok] at h
  obtain ⟨q, -, h⟩ := h
  split at h
  · cases h; exact (run_endActive ..).mono calling_sub_quiet
  · split at h
    · cases h; exact (run_endPending ..).mono calling_sub_quiet
    · cases h

/-! ## Monitors and links (R139, R150, R157, R159, R160) -/

theorem run_monitorSet {monitor : Nat} {f : RawMonitor} (h : monitorSet monitor f s = .ok (fields, t)) : Run G quiet s t := by
  simp only [monitorSet, bind_ok, require_exists, need_ok, answer_ok] at h
  obtain ⟨m, -, -, -, point, -, condition, -, action, -, -, -, ⟨⟩⟩ := h
  exact Run.one (p := .monitors) ⟨rfl, rfl⟩ (.monitors s _)

theorem run_setInput (f : LinkFields) (n : Fin 4) : Run G linking s (setInput f s n) := by
  unfold setInput
  split
  · exact Run.refl ..
  · split
    · exact run_enableLink n
    · exact run_disableLink n

theorem run_setOutput (f : LinkFields) (n : Fin 4) : Run G linking s (setOutput f s n) := by
  unfold setOutput
  split
  · exact Run.refl ..
  · exact run_modOutput n _

theorem run_setClockMonitor (f : LinkFields) : Run G linking s (setClockMonitor f s) := by
  unfold setClockMonitor
  split
  · exact Run.refl ..
  · exact run_modClock _

theorem run_applyLinks (f : LinkFields) : Run G linking s (applyLinks f s) :=
  (Run.foldl_all fun n _ => run_setInput f n).trans
    ((Run.foldl_all fun n _ => run_setOutput f n).trans (run_setClockMonitor f))

theorem run_linkSet {f : LinkFields} (h : linkSet f s = .ok (fields, t)) : Run G quiet s t := by
  simp only [linkSet, bind_ok, require_exists, answer_ok] at h
  obtain ⟨-, ⟨⟩⟩ := h
  exact (run_applyLinks f).mono linking_sub_quiet

theorem run_clockReturn (h : clockReturn s = .ok (fields, t)) : Run G quiet s t := by
  unfold clockReturn at h
  split at h
  · cases h
  · cases h; exact Run.refl ..
  · split at h
    · cases h; exact (run_modClock _).mono linking_sub_quiet
    · cases h

theorem run_slotMapSet {items : List SlotItem} (h : slotMapSet items s = .ok (fields, t)) : Run G quiet s t := by
  simp only [slotMapSet, bind_ok, require_exists, need_ok, answer_ok] at h
  obtain ⟨-, -, targets, -, -, ⟨⟩⟩ := h
  exact Run.mono linking_sub_quiet (Run.foldl_all fun i _ => run_modOutput i.1 _)

theorem run_linkRead {form : Nat} (h : linkRead form s = .ok (fields, t)) : Run G quiet s t := by
  unfold linkRead at h
  split at h
  · cases h
    exact Run.one (p := .receivers) ⟨rfl, rfl⟩ (.receivers s _ fun n => by simp [State.receiver])
  · cases h; exact Run.refl ..
  · cases h

end Sys2Proof.Machine
end

section
/-! Every command as a run of elementary changes, and which commands may move standby or change HOLD. -/

namespace Sys2Proof.Machine

variable {G : Prop} {p : Part} {K L : Set Part} {s t : State} {fields : List Field} {c : Instr}

/-! ## What a command may do -/

/-- The parts that a command may write when it takes no rest of an end with it. -/
def may (c : Instr) : Set Part :=
  {p | (p.pointing = true → movesStandby c = true) ∧ (p.holding = true → changesHold c = true)}

theorem quiet_sub_may (c : Instr) : quiet ⊆ may c := by
  rintro p ⟨hp, hh⟩
  exact ⟨fun h => absurd h (by simp [hp]), fun h => absurd h (by simp [hh])⟩

theorem unheld_sub_may (h : movesStandby c = true) : unheld ⊆ may c := fun _ hh =>
  ⟨fun _ => h, fun hp => absurd hp (by simp [show Part.holding _ = false from hh])⟩

/-! ## The requests (10.2) -/

/-- A request that reads leaves the state. -/
theorem Run.of_read (h : t = s) : Run G K s t := h ▸ Run.refl ..

theorem run_clearShow (h : clearShow s = .ok (fields, t)) : Run G unheld s t := by
  cases h
  have ended : ∀ u, Run G unheld u (clearCalls u) := fun u => by
    unfold clearCalls
    have pending : Run G calling u (u.relay.queue.foldl (fun s c => raiseCallChange c.preset .cleared s) u) :=
      Run.foldl_all fun c _ => run_raiseCallChange c.preset .cleared
    refine Run.mono (fun _ h => (calling_sub_quiet h).2) ?_
    split
    · exact pending
    · exact pending.trans (run_raiseCallChange ..)
  exact (ended s).trans (Run.one (p := .wipe) rfl (.wipe _))

theorem run_attentionClear {mask : Nat} (h : attentionClear mask s = .ok (fields, t)) : Run G quiet s t := by
  simp only [attentionClear, bind_ok, answer_ok] at h
  obtain ⟨m, -, ⟨⟩⟩ := h
  exact Run.one (p := .attention) ⟨rfl, rfl⟩ (.attention s _)

theorem run_attentionEnable {mask : Nat} (h : attentionEnable mask s = .ok (fields, t)) : Run G quiet s t := by
  simp only [attentionEnable, bind_ok, answer_ok] at h
  obtain ⟨m, -, ⟨⟩⟩ := h
  exact Run.one (p := .attention) ⟨rfl, rfl⟩ (.attention s _)

theorem fadeRead_reads {form : FadeForm} (h : fadeRead form s = .ok (fields, t)) : t = s := by
  cases form with
  | element a =>
    simp only [fadeRead, bind_ok, require_exists, need_ok, answer_ok] at h
    obtain ⟨-, el, -, -, ⟨⟩⟩ := h
    rfl
  | summary => cases h; rfl
  | owner k =>
    simp only [fadeRead, bind_ok, answer_ok] at h
    obtain ⟨k, -, ⟨⟩⟩ := h
    rfl
  | unknown => cases h

/-- A request whose first check produces a value, and which then reads. -/
theorem read_of_bind {α : Type} {x : Except Status α} {f : α → List Field} (h : (x >>= fun a => .ok (f a, s)) = .ok (fields, t)) :
    t = s := by
  simp only [bind_ok, answer_ok] at h
  obtain ⟨a, -, ⟨⟩⟩ := h
  rfl

theorem roleFind_reads {performer covers : Nat} (h : roleFind performer covers s = .ok (fields, t)) : t = s := by
  simp only [roleFind, bind_ok, require_exists, answer_ok] at h
  obtain ⟨-, ⟨⟩⟩ := h
  rfl

theorem cueRead_reads {number : Nat} (h : cueRead number s = .ok (fields, t)) : t = s := by
  simp only [cueRead, bind_ok, require_exists, answer_ok] at h
  obtain ⟨-, cue, -, ⟨⟩⟩ := h
  rfl

theorem cueList_reads {start page : Nat} (h : cueList start page s = .ok (fields, t)) : t = s := by
  simp only [cueList, bind_ok, require_exists, answer_ok] at h
  obtain ⟨-, -, ⟨⟩⟩ := h
  rfl

theorem meterRead_reads {points : List PointAddr} (h : meterRead points s = .ok (fields, t)) : t = s := by
  simp only [meterRead, bind_ok, require_exists, answer_ok] at h
  obtain ⟨-, -, ps, -, ⟨⟩⟩ := h
  rfl

theorem read_of_ok {f : List Field} (h : (Except.ok (f, s) : Answer) = .ok (fields, t)) : t = s := by
  cases h; rfl

/-- A body of a request whose answers are runs. -/
def effect (K : Set Part) (body : State → Answer) : Prop :=
  ∀ (G : Prop) (u v : State) (fields : List Field), (G → fadeLaw u) → body u = .ok (fields, v) → Run G K u v

theorem effect_read {body : State → Answer} (h : ∀ u v fields, body u = .ok (fields, v) → v = u) : effect (may c) body :=
  fun _ u v fields _ ok => Run.of_read (h u v fields ok)

theorem effect_quiet {body : State → Answer} (h : ∀ G u v fields, body u = .ok (fields, v) → Run G quiet u v) :
    effect (may c) body := fun G u v fields _ ok => (h G u v fields ok).mono (quiet_sub_may c)

/-- Every request of the catalogue runs its body at the port. -/
theorem exec_request {code : Nat} (h : requestCode c = some code) :
    ∃ body, (∀ s, exec c s = .next (request code c body s)) ∧ effect (may c) body := by
  cases c <;> cases h
  case poll => exact ⟨answerOk, fun _ => rfl, effect_read fun _ _ _ => read_of_ok⟩
  case pollAlias => exact ⟨answerOk, fun _ => rfl, effect_read fun _ _ _ => read_of_ok⟩
  case identify => exact ⟨_, fun _ => rfl, effect_read fun _ _ _ => read_of_ok⟩
  case portReset => exact ⟨answerOk, fun _ => rfl, effect_read fun _ _ _ => read_of_ok⟩
  case clearShow => exact ⟨clearShow, fun _ => rfl, fun _ _ _ _ _ h => (run_clearShow h).mono (unheld_sub_may rfl)⟩
  case attentionRead => exact ⟨_, fun _ => rfl, effect_read fun _ _ _ => read_of_ok⟩
  case attentionClear m => exact ⟨attentionClear m, fun _ => rfl, effect_quiet fun _ _ _ _ => run_attentionClear⟩
  case attentionEnable m => exact ⟨attentionEnable m, fun _ => rfl, effect_quiet fun _ _ _ _ => run_attentionEnable⟩
  case roleRead r => exact ⟨roleRead r, fun _ => rfl, effect_read fun _ _ _ => read_of_bind⟩
  case channelRead n => exact ⟨channelRead n, fun _ => rfl, effect_read fun _ _ _ => read_of_bind⟩
  case groupRead n => exact ⟨groupRead n, fun _ => rfl, effect_read fun _ _ _ => read_of_bind⟩
  case roleFind n m => exact ⟨roleFind n m, fun _ => rfl, effect_read fun _ _ _ => roleFind_reads⟩
  case roleSet r l n m => exact ⟨roleSet r l n m, fun _ => rfl, effect_quiet fun _ _ _ _ => run_roleSet⟩
  case roleModify r f => exact ⟨roleModify r f, fun _ => rfl, effect_quiet fun _ _ _ _ => run_roleModify⟩
  case channelSet r f => exact ⟨channelSet r f, fun _ => rfl, effect_quiet fun _ _ _ _ => run_channelSet⟩
  case groupSet r f => exact ⟨groupSet r f, fun _ => rfl, effect_quiet fun _ _ _ _ => run_groupSet⟩
  case roleRetire r => exact ⟨roleRetire r, fun _ => rfl, effect_quiet fun _ _ _ _ => run_roleRetire⟩
  case roleRebind r n m => exact ⟨roleRebind r n m, fun _ => rfl, effect_quiet fun _ _ _ _ => run_roleRebind⟩
  case levelSet l => exact ⟨levelSet l, fun _ => rfl, effect_quiet fun _ _ _ _ => run_levelSet⟩
  case fadeRead f => exact ⟨fadeRead f, fun _ => rfl, effect_read fun _ _ _ => fadeRead_reads⟩
  case cueStore f => exact ⟨cueStore f, fun _ => rfl, effect_quiet fun _ _ _ _ => run_cueStore⟩
  case cueDelete n m => exact ⟨cueDelete n m, fun _ => rfl, fun _ _ _ _ _ h => (run_cueDelete h).mono (unheld_sub_may rfl)⟩
  case cueRead n => exact ⟨cueRead n, fun _ => rfl, effect_read fun _ _ _ => cueRead_reads⟩
  case cueList n m => exact ⟨cueList n m, fun _ => rfl, effect_read fun _ _ _ => cueList_reads⟩
  case standbySet n => exact ⟨standbySet n, fun _ => rfl, fun _ _ _ _ _ h => (run_standbySet h).mono (unheld_sub_may rfl)⟩
  case go => exact ⟨goRequest, fun _ => rfl, fun _ _ _ _ law h => (run_goRequest law h).mono (unheld_sub_may rfl)⟩
  case hold =>
    refine ⟨_, fun _ => rfl, fun _ _ _ _ _ h => ?_⟩
    cases h
    refine run_takeHold.mono ?_
    rintro p (rfl | rfl)
    · exact ⟨nofun, fun _ => rfl⟩
    · exact quiet_sub_may _ ⟨rfl, rfl⟩
  case resume =>
    refine ⟨_, fun _ => rfl, fun _ _ _ _ _ h => ?_⟩
    cases h
    refine run_releaseHold.mono ?_
    rintro p (rfl | rfl)
    · exact ⟨nofun, fun _ => rfl⟩
    · exact quiet_sub_may _ ⟨rfl, rfl⟩
  case safeSet n m => exact ⟨safeSet n m, fun _ => rfl, effect_quiet fun _ _ _ _ => run_safeSet⟩
  case inputSet f => exact ⟨inputSet f, fun _ => rfl, effect_quiet fun _ _ _ _ => run_inputSet⟩
  case runningRead n => exact ⟨runningRead n, fun _ => rfl, effect_read fun _ _ _ => read_of_bind⟩
  case engineRead => exact ⟨_, fun _ => rfl, effect_read fun _ _ _ => read_of_ok⟩
  case mixSet n f => exact ⟨mixSet n f, fun _ => rfl, effect_quiet fun _ _ _ _ => run_mixSet⟩
  case mixEntrySet n l => exact ⟨mixEntrySet n l, fun _ => rfl, effect_quiet fun _ _ _ _ => run_mixEntrySet⟩
  case mixEntryRemove n f => exact ⟨mixEntryRemove n f, fun _ => rfl, effect_quiet fun _ _ _ _ => run_mixEntryRemove⟩
  case mixRead n => exact ⟨mixRead n, fun _ => rfl, effect_read fun _ _ _ => read_of_bind⟩
  case mixFind n => exact ⟨mixFind n, fun _ => rfl, effect_read fun _ _ _ => read_of_bind⟩
  case talkbackSet n f => exact ⟨talkbackSet n f, fun _ => rfl, effect_quiet fun _ _ _ _ => run_talkbackSet⟩
  case talkbackOn n => exact ⟨talkbackOn n, fun _ => rfl, effect_quiet fun _ _ _ _ => run_talkbackOn⟩
  case talkbackOff n => exact ⟨talkbackOff n, fun _ => rfl, effect_quiet fun _ _ _ _ => run_talkbackOff⟩
  case talkbackRead => exact ⟨_, fun _ => rfl, effect_read fun _ _ _ => read_of_ok⟩
  case relayEntrySet l => exact ⟨relayEntrySet l, fun _ => rfl, effect_quiet fun _ _ _ _ => run_relayEntrySet⟩
  case relayEntryRemove f => exact ⟨relayEntryRemove f, fun _ => rfl, effect_quiet fun _ _ _ _ => run_relayEntryRemove⟩
  case relaySet f => exact ⟨relaySet f, fun _ => rfl, effect_quiet fun _ _ _ _ => run_relaySet⟩
  case relaySelect n => exact ⟨relaySelect n, fun _ => rfl, effect_quiet fun _ _ _ _ => run_relaySelect⟩
  case relayRead => exact ⟨_, fun _ => rfl, effect_read fun _ _ _ => read_of_ok⟩
  case stationSet n f => exact ⟨stationSet n f, fun _ => rfl, effect_quiet fun _ _ _ _ => run_stationSet⟩
  case stationRead n => exact ⟨stationRead n, fun _ => rfl, effect_read fun _ _ _ => read_of_bind⟩
  case presetSet n f => exact ⟨presetSet n f, fun _ => rfl, effect_quiet fun _ _ _ _ => run_presetSet⟩
  case presetRead n => exact ⟨presetRead n, fun _ => rfl, effect_read fun _ _ _ => read_of_bind⟩
  case callStart n => exact ⟨callStart n, fun _ => rfl, effect_quiet fun _ _ _ _ => run_callStart⟩
  case callEnd n => exact ⟨callEnd n, fun _ => rfl, effect_quiet fun _ _ _ _ => run_callEnd⟩
  case callRead => exact ⟨_, fun _ => rfl, effect_read fun _ _ _ => read_of_ok⟩
  case monitorSet n f => exact ⟨monitorSet n f, fun _ => rfl, effect_quiet fun _ _ _ _ => run_monitorSet⟩
  case monitorRead n => exact ⟨monitorRead n, fun _ => rfl, effect_read fun _ _ _ => read_of_bind⟩
  case meterRead l => exact ⟨meterRead l, fun _ => rfl, effect_read fun _ _ _ => meterRead_reads⟩
  case linkSet f => exact ⟨linkSet f, fun _ => rfl, effect_quiet fun _ _ _ _ => run_linkSet⟩
  case clockReturn => exact ⟨clockReturn, fun _ => rfl, effect_quiet fun _ _ _ _ => run_clockReturn⟩
  case slotMapSet l => exact ⟨slotMapSet l, fun _ => rfl, effect_quiet fun _ _ _ _ => run_slotMapSet⟩
  case linkRead n => exact ⟨linkRead n, fun _ => rfl, effect_quiet fun _ _ _ _ => run_linkRead⟩

/-! ## The gates -/

/-- What is proved of each command: it is a run of changes, and where it takes no rest of an end with it, of those that it
may make. -/
def Moves (G : Prop) (c : Instr) (s t : State) : Prop := Run G Set.univ s t ∧ (takesNoRest c s → Run G (may c) s t)

theorem Moves.of_run (h : Run G (may c) s t) : Moves G c s t := ⟨h.mono (Set.subset_univ _), fun _ => h⟩

theorem Moves.of_quiet (h : Run G quiet s t) : Moves G c s t := .of_run (h.mono (quiet_sub_may c))

theorem run_port (x : Port) : Run G (may c) s { s with port := x } :=
  (Run.one (p := .port) (K := quiet) ⟨rfl, rfl⟩ (.port s x)).mono (quiet_sub_may c)

theorem run_respond {body : State → Answer} {code : Nat} (h : effect (may c) body) (law : G → fadeLaw s) :
    Run G (may c) s (respond code s (body s)) := by
  rcases respond_cases code s (body s) with ⟨st, -, e⟩ | ⟨fields, t, ok, e⟩ <;> rw [e]
  · exact run_port _
  · exact (h G s t fields law ok).trans (run_port _)

theorem run_wholeEnd_univ (law : G → fadeLaw s) : Run G Set.univ s (wholeEnd s) := (run_wholeEnd law).mono (Set.subset_univ _)

theorem moves_request {body : State → Answer} {code : Nat} (found : findsWhole c = true) (h : effect (may c) body)
    (law : G → fadeLaw s) : Moves G c s (request code c body s) := by
  rcases request_cases code c body s with e | ⟨-, e⟩ | ⟨e, -⟩ <;> rw [e]
  · have whole := run_wholeEnd_univ law
    refine ⟨whole.trans ((run_respond h fun g => whole.fadeLaw (law g)).mono (Set.subset_univ _)), fun noRest => ?_⟩
    rw [wholeEnd_of (noRest.1 found)]
    exact run_respond h law
  · have used : Run G (may c) s (usedUp s) := run_port _
    have lawUsed := fun g => used.fadeLaw (law g)
    have whole := run_wholeEnd_univ lawUsed
    refine ⟨(used.mono (Set.subset_univ _)).trans (whole.trans
      ((run_respond h fun g => whole.fadeLaw (lawUsed g)).mono (Set.subset_univ _))), fun noRest => ?_⟩
    rw [wholeEnd_of (s := usedUp s) (noRest.1 found)]
    exact used.trans (run_respond h lawUsed)
  · exact .of_run (Run.refl ..)

theorem moves_outsideReset {f : State → State} (h : s.inReset = false → Moves G c s (f s))
    (ok : outsideReset f s = .next t) : Moves G c s t := by
  rcases outsideReset_cases f s with ⟨-, e⟩ | ⟨live, e⟩ <;> rw [e] at ok <;> cases ok
  · exact .of_run (Run.refl ..)
  · exact h live

theorem moves_event {f : State → State} (found : findsWhole c = true) (run : ∀ u, Run G linking u (f u))
    (law : G → fadeLaw s) (ok : event f s = .next t) : Moves G c s t := by
  refine moves_outsideReset (fun _ => ⟨?_, fun noRest => ?_⟩) ok
  · exact (run_wholeEnd_univ law).trans ((run _).mono (Set.subset_univ _))
  · rw [wholeEnd_of (noRest.1 found)]
    exact (run s).mono (linking_sub_quiet.trans (quiet_sub_may c))

theorem moves_blockPart {f : State → State} {b : EndBlock} (block : endBlock c = some b)
    (run : ∀ u, (G → fadeLaw u) → Run G (may c) u (f u)) (law : G → fadeLaw s) (ok : blockPart b f s = .next t) :
    Moves G c s t := by
  refine moves_outsideReset (fun _ => ?_) ok
  unfold inEnd
  split
  · have met := (run_meetBlock (G := G) b law).mono (Set.subset_univ _)
    refine ⟨met.trans ((run _ fun g => met.fadeLaw (law g)).mono (Set.subset_univ _)), fun noRest => ?_⟩
    show Run G (may c) s (f (meetBlock b s))
    rw [meetBlock_of (noRest.2.2.1 b block)]
    exact run s law
  · exact .of_run (Run.refl ..)

theorem moves_lineEdge {f : State → State} {l : Sampled} (edge : isEdge c = true) (sub : L ⊆ sampling) (own : L ⊆ may c)
    (run : ∀ u, (G → fadeLaw u) → Run G L u (f u)) (law : G → fadeLaw s) (ok : lineEdge l f s = .next t) :
    Moves G c s t := by
  refine moves_outsideReset (fun _ => ?_) ok
  split
  · exact .of_run (Run.refl ..)
  · split
    · rename_i due
      refine ⟨(run_edgeInEnd l (fun u hu => (run u hu).mono (sub.trans sampling_sub_ends)) law).mono (Set.subset_univ _),
        fun noRest => ?_⟩
      have := noRest.2.1 edge
      rw [due] at this
      cases this
    · exact .of_run ((run s law).mono own)

/-! ## The other commands -/

theorem run_resets (x : Resets) : Run G quiet s { s with resets := x } := Run.one (p := .resets) ⟨rfl, rfl⟩ (.resets s x)

theorem run_abandon : Run G quiet s (abandon s) := Run.one (p := .abandon) ⟨rfl, rfl⟩ (.abandon s)

theorem run_causeArrives (x : Cause) : Run G quiet s (causeArrives x s) := by
  unfold causeArrives
  dsimp only
  split
  · exact (run_resets _).trans (run_abandon.trans (run_resets _))
  · split
    · exact (run_resets _).trans (run_resets _)
    · exact run_resets _

theorem run_startWaiting : Run G quiet s (startWaiting s) := by
  unfold startWaiting
  split
  · exact Run.refl ..
  · exact run_abandon.trans (run_resets _)

theorem run_endProcedure (x : Procedure) : Run G Set.univ s (endProcedure x s) := by
  have left : ∀ high u, Run G Set.univ u (startWaiting (stateAfterReset high x.cause u)) := fun high u =>
    (Run.one (K := Set.univ) (p := .reset) trivial (.reset u high x.cause)).trans (run_startWaiting.mono (Set.subset_univ _))
  unfold endProcedure
  split
  · exact left ..
  · exact (Run.one (K := Set.univ) (p := .waiting) trivial (.waiting s (s.freeIndex + 1) s.pending)).trans (left ..)

theorem run_transactionBegin : Run G quiet s
    (if s.inReset then ignoreTransaction s
     else match s.port.transaction with
      | .closed => beginTransaction s
      | .opened _ => s
      | .ignored => s) := by
  split
  · exact Run.one (p := .port) ⟨rfl, rfl⟩ (.port s _)
  · split
    · exact Run.one (p := .port) ⟨rfl, rfl⟩ (.port s _)
    · exact Run.refl ..
    · exact Run.refl ..

theorem run_takeRequest (bytes : List Byte) (bits : Fin 8) : Run G quiet s (takeRequest bytes bits s) :=
  Run.one (p := .port) ⟨rfl, rfl⟩ (.port s _)

theorem run_closePort : Run G quiet s (closePort s) := Run.one (p := .port) ⟨rfl, rfl⟩ (.port s _)

theorem run_endTransaction (bytes : List Byte) (bits : Fin 8) : Run G quiet s (endTransaction bytes bits s) := by
  unfold endTransaction
  split
  · exact run_closePort
  · exact run_closePort
  · exact run_takeRequest ..
  · split
    · exact run_closePort
    · exact run_takeRequest ..

theorem moves_frame {edge : Bool} (law : G → fadeLaw s) (ok : execFrame edge s = .next t) : Moves G (.frame edge) s t := by
  refine moves_outsideReset (fun _ => ?_) ok
  have frame : ∀ u, Run G quiet u (oneFrame (watchWck edge u)) := fun u =>
    ((run_watchWck edge).mono linking_sub_quiet).trans (run_oneFrame.mono framing_sub_quiet)
  refine ⟨((run_overdueEnd law).mono (Set.subset_univ _)).trans ((frame _).mono (Set.subset_univ _)), fun noRest => ?_⟩
  rw [partFrame, overdueEnd, if_neg (by simp [noRest.2.2.2 edge rfl])]
  exact (frame s).mono (quiet_sub_may _)

theorem run_controlEnd (g h x : Option Line) (law : G → fadeLaw s) : Run G Set.univ s (controlEnd g h x s) := by
  unfold controlEnd
  split
  · exact (run_intervalEnd g h x law).mono (Set.subset_univ _)
  · exact (run_moveLines g h x).mono (Set.subset_univ _)

theorem parting_sub_may (c : Instr) : parting ⊆ may c := parting_sub_quiet.trans (quiet_sub_may c)

/-- Every command is a run of changes, and where it takes no rest of an end with it, of those that it may make. -/
theorem exec_moves (law : G → fadeLaw s) (ok : exec c s = .next t) : Moves G c s t := by
  by_cases isRequest : (requestCode c).isSome
  · obtain ⟨code, hcode⟩ := Option.isSome_iff_exists.1 isRequest
    obtain ⟨body, runs, eff⟩ := exec_request hcode
    rw [runs] at ok
    cases ok
    exact moves_request (by simp [findsWhole, isRequest]) eff law
  cases c <;> try exact absurd rfl isRequest
  case transaction bytes bits =>
    cases ok
    refine .of_quiet ?_
    split
    · exact run_closePort
    · exact run_endTransaction ..
  case transactionBegin => cases ok; exact .of_quiet run_transactionBegin
  case powerCause => cases ok; exact .of_quiet (run_causeArrives _)
  case supplyCause => cases ok; exact .of_quiet (run_causeArrives _)
  case pinCause => cases ok; exact .of_quiet (run_causeArrives _)
  case causeEnd x => cases ok; exact .of_quiet (run_resets _)
  case clkroleLatch b => cases ok; exact .of_quiet (run_resets _)
  case resetProcedureEnd =>
    cases ok
    have whole : may .resetProcedureEnd = Set.univ := Set.eq_univ_of_forall fun _ => ⟨fun _ => rfl, fun _ => rfl⟩
    refine .of_run ?_
    rw [whole]
    split
    · exact Run.refl ..
    · split
      · exact run_endProcedure _
      · exact Run.refl ..
  case frame edge => exact moves_frame law ok
  case controlIntervalEnd g h x =>
    have whole : may (.controlIntervalEnd g h x) = Set.univ := Set.eq_univ_of_forall fun _ => ⟨fun _ => rfl, fun _ => rfl⟩
    exact moves_outsideReset (fun _ => .of_run (whole ▸ run_controlEnd g h x law)) ok
  case fadeComplete el =>
    exact moves_blockPart rfl (fun _ _ => (run_fadeComplete el).mono (parting_sub_may _)) law ok
  case actionDue k => exact moves_blockPart rfl (fun _ _ => (run_actionDue k).mono (parting_sub_may _)) law ok
  case followGo =>
    refine moves_blockPart rfl (fun _ hu => (run_followGo hu).mono ?_) law ok
    rintro p (rfl | rfl | h)
    · exact quiet_sub_may _ ⟨rfl, rfl⟩
    · exact quiet_sub_may _ ⟨rfl, rfl⟩
    · exact unheld_sub_may rfl (going_sub_unheld h)
  case goNPress e =>
    refine moves_lineEdge rfl (insert_sub_sampling going_sub_sampling) ?_ (fun _ hu => run_goPress e hu) law ok
    rintro p (rfl | h)
    · exact quiet_sub_may _ ⟨rfl, rfl⟩
    · exact unheld_sub_may rfl (going_sub_unheld h)
  case holdNPress e =>
    refine moves_lineEdge rfl (insert_sub_sampling holds_sub_sampling) ?_ (fun _ _ => run_holdPress e) law ok
    rintro p (rfl | rfl | rfl)
    · exact quiet_sub_may _ ⟨rfl, rfl⟩
    · exact ⟨nofun, fun _ => rfl⟩
    · exact quiet_sub_may _ ⟨rfl, rfl⟩
  case callNPress =>
    refine moves_lineEdge rfl (insert_sub_sampling calling_sub_sampling) ?_ (fun _ _ => run_callKey _) law ok
    rintro p (rfl | h)
    · exact quiet_sub_may _ ⟨rfl, rfl⟩
    · exact quiet_sub_may _ (calling_sub_quiet h)
  case callNRelease =>
    refine moves_lineEdge rfl (insert_sub_sampling calling_sub_sampling) ?_ (fun _ _ => run_callKey _) law ok
    rintro p (rfl | h)
    · exact quiet_sub_may _ ⟨rfl, rfl⟩
    · exact quiet_sub_may _ (calling_sub_quiet h)
  case callTimeout => exact moves_blockPart rfl (fun _ _ => run_callTimeout.mono (parting_sub_may _)) law ok
  case callSilent => exact moves_blockPart rfl (fun _ _ => run_callSilent.mono (parting_sub_may _)) law ok
  case monitorTrip i => exact moves_blockPart rfl (fun _ _ => (run_monitorTrip i).mono (parting_sub_may _)) law ok
  case linkFrameArrival n words => exact moves_event rfl (fun _ => run_frameArrival n words) law ok
  case frameSync n => exact moves_event rfl (fun _ => run_frameSync n) law ok
  case partialFrameDiscard n => exact moves_event rfl (fun _ => run_partialDiscard n) law ok
  case linkLost n => exact moves_event rfl (fun _ => run_linkLost n) law ok
  case outputLinkFrame n =>
    refine moves_event (f := fun s => if paused s then s else sendFrame n s) rfl (fun _ => ?_) law ok
    split
    · exact Run.refl ..
    · exact run_sendFrame n
  case fallback => exact moves_event rfl (fun _ => run_fallback) law ok
  case returnToWck => exact moves_event rfl (fun _ => run_returnToWck) law ok
  case returnAbandoned => exact moves_event rfl (fun _ => run_returnAbandoned) law ok

/-! ## A step -/

/-- A step is a run of changes (R161; log 1). -/
theorem step_run (law : G → fadeLaw s) (ok : step s = .next t) : Run G Set.univ s t := by
  unfold step at ok
  split at ok
  · unfold idle at ok
    split at ok
    · exact (exec_moves law ok).1
    · cases ok; exact Run.refl ..
    · cases ok; exact Run.refl ..
  · rename_i c rest _
    have popped : Run G Set.univ s { s with pending := rest } :=
      Run.one (p := .waiting) trivial (.waiting s s.freeIndex rest)
    exact popped.trans (exec_moves (fun g => popped.fadeLaw (law g)) ok).1

/-- A law that every change keeps is kept by every step. -/
theorem step_keeps {P : State → Prop} (each : ∀ p s t, Change False p s t → P s → P t) (ok : step s = .next t) (hs : P s) :
    P t := (step_run (G := False) (fun h => h.elim) ok).keeps (fun p _ s t => each p s t) hs

end Sys2Proof.Machine
end

section
/-! The laws that every step keeps, and the rules over all commands. -/

namespace Sys2Proof.Machine

/-- Settles O4: each elementary change keeps the table within its places and its elements distinct. -/
theorem fadeTableLawKept : Obligations.FadeTableLawKept :=
  fun _ _ hs ok => step_keeps (fun _ _ _ change => change.fadeLaw) ok hs

/-- Settles O5: a store and a deletion keep the order, and every move of standby ends at END or at a cue of the list. -/
theorem cueListLawKept : Obligations.CueListLawKept :=
  fun _ _ hs ok => step_keeps (fun _ _ _ change => change.cueLaw) ok hs

/-- Settles O6: casting, the two rebinds, the end of a crossfade and a retirement write both sides of a binding. -/
theorem bindingLawKept : Obligations.BindingLawKept :=
  fun _ _ hs ok => step_keeps (fun _ _ _ change => change.bindingLaw) ok hs

/-- The laws under which each change keeps fades within their bounds. -/
def fadesBounded (s : State) : Prop := fadeLaw s ∧ levelLaw s ∧ classLaw s ∧ boundsLaw s

theorem Change.fadesBounded {G : Prop} {p : Part} {s t : State} (h : Change G p s t) (hs : Machine.fadesBounded s) :
    Machine.fadesBounded t := by
  obtain ⟨hf, hl, hc, hb⟩ := hs
  exact ⟨h.fadeLaw hf, h.levelLaw hl, h.classLaw hc, h.boundsLaw hf hl hc hb⟩

/-- Settles O7: what is written is clamped, and a fade begins, steps and is replaced within its bounds. -/
theorem rangesKept : Obligations.RangesKept := by
  intro s t ok
  refine ⟨step_keeps (fun _ _ _ change => change.levelLaw) ok, step_keeps (fun _ _ _ change => change.protectLaw) ok,
    fun hf hl hc hb => ?_⟩
  exact (step_keeps (P := fadesBounded) (fun _ _ _ change => change.fadesBounded) ok ⟨hf, hl, hc, hb⟩).2.2.2

/-- Settles O9: an entry joins a list only where a place is free and its source new, and a code the queue where one is free. -/
theorem entryListsKept : Obligations.EntryListsKept :=
  fun _ _ he ht ok => ⟨step_keeps (fun _ _ _ change => change.entryLaw) ok he,
    step_keeps (fun _ _ _ change => change.triggerLaw) ok ht⟩

/-- The laws under which each change keeps the owned-fade counts. -/
def ownersCounted (s : State) : Prop := fadeLaw s ∧ classLaw s ∧ countsAgree s

/-- Settles O10: from a lawful table each change counts every entry that a slot gains or loses. -/
theorem ownedCountsKept : Obligations.OwnedCountsKept := by
  intro s t hf hc ho ok
  have run : Run True Set.univ s t := step_run (fun _ => hf) ok
  obtain ⟨-, hc', ho'⟩ := run.keeps (P := ownersCounted)
    (fun _ _ _ _ change ⟨hf, hc, ho⟩ => ⟨change.fadeLaw hf, change.classLaw hc, change.countsAgree trivial hf hc ho⟩)
    ⟨hf, hc, ownedLaw_iff.1 ho⟩
  exact ⟨hc', ownedLaw_iff.2 ho'⟩

/-- The run of a command that takes no rest of an end with it. -/
theorem run_of_noRest {c : Instr} {s t : State} (noRest : takesNoRest c s) (ok : exec c s = .next t) :
    Run False (may c) s t := (exec_moves (fun h => h.elim) ok).2 noRest

/-- Settles O11: of the changes that other commands make none writes standby. -/
theorem standbyMovesOnlyOn : Obligations.StandbyMovesOnlyOn := by
  intro c s t quiet noRest ok
  refine (run_of_noRest noRest ok).stands (g := fun u => u.cues.standby) fun p hp a b change => change.standby ?_
  by_contra points
  exact absurd (hp.1 (by simpa using points)) (by simp [quiet])

/-- Settles O12: of the changes that other commands make none writes HOLD. -/
theorem holdChangesOnlyOn : Obligations.HoldChangesOnlyOn := by
  intro c s t quiet noRest ok
  refine (run_of_noRest noRest ok).stands (g := fun u => u.engine.hold) fun p hp a b change => change.hold_stands ?_
  by_contra holds
  exact absurd (hp.2 (by simpa using holds)) (by simp [quiet])

end Sys2Proof.Machine
end

section
/-! Stations, and what a handover and an advance of the call queue leave (R128, R129). -/

namespace Sys2Proof.Machine

variable {s t : State}

/-! ## Stations -/

theorem write_station (el : Element) (z : Int) (s : State) (n : Fin 32) :
    (s.write el z).station n = { s.station n with
      volume := ((s.write el z).station n).volume, duck := ((s.write el z).station n).duck } := by
  cases el with
  | station m | duck m => simp only [State.write, modStation_station]; split <;> rfl
  | _ => rfl

theorem directWrite_station (el : Element) (z : Int) (s : State) (n : Fin 32) :
    (directWrite el z s).station n = { s.station n with
      volume := ((directWrite el z s).station n).volume, duck := ((directWrite el z s).station n).duck } := by
  have stands : (removeEntry el s).station n = s.station n := by simp [State.station]
  have h := write_station el z (removeEntry el s) n
  rwa [stands] at h

/-- A fade request writes no field of a station but its volume and its duck. -/
theorem fadeRequest_station (el : Element) (z : Int) (d : Nat) (o : FadeOwner) (s : State) (n : Fin 32) :
    (fadeRequest el z d o s).2.station n = { s.station n with
      volume := ((fadeRequest el z d o s).2.station n).volume, duck := ((fadeRequest el z d o s).2.station n).duck } := by
  rcases fadeRequest_spec el z d o s with ⟨-, e⟩ | ⟨cur, -, ⟨-, e⟩ | ⟨-, -, ⟨old, -, e⟩ | ⟨-, -, e⟩ | ⟨-, -, e⟩⟩⟩ <;>
    rw [e]
  · exact directWrite_station ..
  · simp [State.station]
  · simp [State.station]
  · exact directWrite_station el _ s n

/-! ## The handover (R128) -/

/-- A handover writes no record of the Relay Unit but the stations. -/
theorem write_duck_relay (n : Fin 32) (z : Int) (s : State) :
    (s.write (.duck n) z).relay = { s.relay with stations := (s.write (.duck n) z).relay.stations } := rfl

theorem directWrite_duck_relay (n : Fin 32) (z : Int) (s : State) :
    (directWrite (.duck n) z s).relay = { s.relay with stations := (directWrite (.duck n) z s).relay.stations } := by
  have h := write_duck_relay n z (removeEntry (.duck n) s)
  rwa [removeEntry_relay] at h

theorem fadeRequest_duck_relay (n : Fin 32) (z : Int) (d : Nat) (o : FadeOwner) (s : State) :
    (fadeRequest (.duck n) z d o s).2.relay =
      { s.relay with stations := (fadeRequest (.duck n) z d o s).2.relay.stations } := by
  rcases fadeRequest_spec (.duck n) z d o s with ⟨-, e⟩ | ⟨cur, -, ⟨-, e⟩ | ⟨-, -, ⟨old, -, e⟩ | ⟨-, -, e⟩ | ⟨-, -, e⟩⟩⟩ <;>
    rw [e]
  · exact directWrite_duck_relay ..
  · simp
  · simp
  · exact directWrite_duck_relay n _ s

theorem handoverStation_relay (o n : BitVec 32) (depth : Int) (s : State) (st : Fin 32) :
    (handoverStation o n depth s st).relay = { s.relay with stations := (handoverStation o n depth s st).relay.stations } := by
  rcases handoverStation_cases o n depth s st with ⟨-, e⟩ | ⟨-, -, e⟩ | ⟨-, -, e⟩ <;> rw [e]
  · rw [fadeRequest_duck_relay]; rfl
  · rw [fadeRequest_duck_relay]; rfl

/-- The records of the Relay Unit but the stations. -/
def programme (s : State) : Relay := { s.relay with stations := Table.replicate 32 {} }

theorem programme_handoverStation (o n : BitVec 32) (depth : Int) (s : State) (st : Fin 32) :
    programme (handoverStation o n depth s st) = programme s := by
  rw [programme, handoverStation_relay]
  rfl

theorem programme_handover (o n : BitVec 32) (depth : Int) (s : State) : programme (handover o n depth s) = programme s :=
  foldl_keeps programme (programme_handoverStation o n depth) _ s

theorem handover_relay (o n : BitVec 32) (depth : Int) (s : State) :
    (handover o n depth s).relay = { s.relay with stations := (handover o n depth s).relay.stations } := by
  calc (handover o n depth s).relay
      = { programme (handover o n depth s) with stations := (handover o n depth s).relay.stations } := rfl
    _ = { s.relay with stations := (handover o n depth s).relay.stations } := by rw [programme_handover]; rfl

/-- The settings of a station stand at a handover. -/
theorem handover_calls (o n : BitVec 32) (depth : Int) (s : State) (m : Fin 32) :
    ((handover o n depth s).station m).calls = (s.station m).calls := by
  refine foldl_keeps (fun u => (u.station m).calls) (fun u st => ?_) _ s
  rcases handoverStation_cases o n depth u st with ⟨-, e⟩ | ⟨-, -, e⟩ | ⟨-, -, e⟩ <;> rw [e]
  · rw [fadeRequest_station, modStation_station]
    split <;> rfl
  · rw [fadeRequest_station, modStation_station]
    split <;> rfl

/-! ## An advance (R127, R129) -/

/-- The calls passed over are reported, which is no change of the Relay Unit. -/
theorem reported_relay (l : List (Fin 16)) (why : EndReason) (s : State) :
    (l.foldl (fun s p => raiseCallChange p why s) s).relay = s.relay := by
  exact foldl_keeps (f := fun s p => raiseCallChange p why s) (fun u => u.relay) (fun _ _ => rfl) l s

theorem advance_relay (o : BitVec 32) (calls : List Call) (s : State) :
    (advance o calls s).relay =
      { s.relay with
        active := (pickCall s calls).1, queue := (pickCall s calls).2.1
        stations := (advance o calls s).relay.stations } := by
  rw [advance_eq, handover_relay]
  simp only [modRelay_relay, reported_relay]

theorem advance_calls (o : BitVec 32) (calls : List Call) (s : State) (m : Fin 32) :
    ((advance o calls s).station m).calls = (s.station m).calls := by
  rw [advance_eq, handover_calls]
  simp only [State.station, modRelay_relay, reported_relay]

end Sys2Proof.Machine
end

section
/-! The call queue and more than 2^32 arrivals in one step (R122, R126): a pending call whose serial has come round to that of
a call which joins after it. -/

namespace Sys2Proof.Machine

variable {s t : State}

/-! ## The presets and the calls -/

/-- Presets 1 and 2 hold every station at STANDARD, preset 3 none at URGENT, and the others every station at ROUTINE. -/
def roundPreset (p : Fin 16) : Preset :=
  if p = 2 then { source := some 0, target := .stations 0#32, priority := .urgent }
  else { source := some 0, target := .all, priority := if p = 0 ∨ p = 1 then .standard else .routine }

/-- The call of a cue on preset `p` that is the `n`th accepted. -/
def roundCall (p : Fin 16) (n : Nat) : Call := ⟨p, .cue, BitVec.ofNat 32 n, (roundPreset p).priority⟩

/-- The presets stand, every station takes calls, and `n` calls have been accepted, of which `q` are pending. -/
structure Rounds (q : List Call) (n : Nat) (s : State) : Prop where
  presets : ∀ p, s.preset p = roundPreset p
  stations : ∀ m, (s.station m).calls = true
  queue : s.relay.queue = q
  arrivals : s.relay.arrivals = BitVec.ofNat 32 n

/-- The same with the call of preset `a` active at STANDARD. -/
def RoundsOn (a : Fin 16) (q : List Call) (n : Nat) (s : State) : Prop :=
  Rounds q n s ∧ ∃ x, s.relay.active = some x ∧ x.call.preset = a ∧ x.call.priority = .standard

theorem Rounds.newCall_eq {q : List Call} {n : Nat} (h : Rounds q n s) (p : Fin 16) :
    newCall p .cue s = roundCall p (n + 1) := by
  simp only [newCall, h.arrivals, h.presets, roundCall]
  rw [BitVec.ofNat_add]

/-- Preset 3 resolves to no station, and every other to some. -/
theorem Rounds.resolve_iff {q : List Call} {n : Nat} (h : Rounds q n s) (p : Fin 16) :
    resolve p s = 0#32 ↔ p = 2 := by
  have sets : resolve p s = setWhere (fun n => targets (roundPreset p).target n s) := by
    simp only [resolve, h.stations, h.presets, Bool.true_and]
  rw [sets]
  by_cases hp : p = 2
  · subst hp
    simp only [roundPreset, if_true, targets, iff_true]
    decide
  · simp only [roundPreset, hp, if_false, targets, iff_false]
    decide

theorem Rounds.of_fields {q q' : List Call} {n m : Nat} (h : Rounds q n s) (presets : t.relay.presets = s.relay.presets)
    (stations : ∀ m, (t.station m).calls = (s.station m).calls) (queue : t.relay.queue = q')
    (arrivals : t.relay.arrivals = BitVec.ofNat 32 m) : Rounds q' m t := by
  refine ⟨fun p => ?_, fun m => (stations m).trans (h.stations m), queue, arrivals⟩
  rw [← h.presets p]
  simp only [State.preset, presets]

theorem Rounds.congr {q : List Call} {n : Nat} (h : Rounds q n s) (relay : t.relay = s.relay) : Rounds q n t :=
  h.of_fields (by rw [relay]) (fun m => by simp only [State.station, relay]) (by rw [relay, h.queue]) (by rw [relay, h.arrivals])

theorem RoundsOn.congr {a : Fin 16} {q : List Call} {n : Nat} (h : RoundsOn a q n s) (relay : t.relay = s.relay) :
    RoundsOn a q n t := by
  obtain ⟨rounds, x, active, named⟩ := h
  exact ⟨rounds.congr relay, x, by rw [relay, active], named⟩

/-! ## What each call makes of them -/

/-- The first call is activated. -/
theorem Rounds.activate {n : Nat} {p : Fin 16} (h : Rounds [] n s) (none : s.relay.active = none) (hp : p = 0 ∨ p = 1) :
    RoundsOn p [] (n + 1) (callRequest p .cue s).2 := by
  have source : (s.preset p).source.isNone = false := by
    rw [h.presets, roundPreset]
    split <;> rfl
  have lives : callLives p s = false := by simp [callLives, callActive, callPending, none, h.queue]
  have stations : resolve p (countArrival s) ≠ 0#32 := fun z => by
    have := (h.resolve_iff p).1 z
    subst this
    exact absurd hp (by decide)
  have leaves : (callRequest p .cue s).2 = advance 0#32 (roundCall p (n + 1) :: []) (countArrival s) := by
    rcases callRequest_spec p .cue s with ⟨h', -⟩ | ⟨-, -, ⟨-, e⟩ | ⟨a, active, -⟩⟩
    · simp [source, lives] at h'
    · rw [e, h.newCall_eq, h.queue]
    · rw [none] at active; cases active
  have picked : pickCall (countArrival s) [roundCall p (n + 1)] =
      (some ⟨roundCall p (n + 1), resolve p (countArrival s), 0, 0⟩, [], []) := by
    simp [pickCall, roundCall, stations]
  rw [leaves]
  refine ⟨h.of_fields ?_ (fun m => advance_calls ..) ?_ ?_, ⟨roundCall p (n + 1), resolve p (countArrival s), 0, 0⟩, ?_, rfl, ?_⟩
  · rw [advance_relay]; rfl
  · rw [advance_relay, picked]
  · rw [advance_relay]
    show s.relay.arrivals + 1#32 = _
    rw [h.arrivals, BitVec.ofNat_add]
  · rw [advance_relay, picked]
  · rcases hp with rfl | rfl <;> rfl

theorem RoundsOn.source {a : Fin 16} {q : List Call} {n : Nat} (h : RoundsOn a q n s) (p : Fin 16) :
    (s.preset p).source.isNone = false := by
  rw [h.1.presets, roundPreset]
  split <;> rfl

theorem RoundsOn.lives {a p : Fin 16} {q : List Call} {n : Nat} (h : RoundsOn a q n s) (other : p ≠ a)
    (idle : ∀ c ∈ q, c.preset ≠ p) : callLives p s = false := by
  obtain ⟨rounds, x, active, rfl, -⟩ := h
  simpa [callLives, callActive, callPending, active, rounds.queue, other.symm] using idle

/-- A call that is not URGENT joins the queue. -/
theorem RoundsOn.join {a p : Fin 16} {q : List Call} {n : Nat} (h : RoundsOn a q n s) (other : p ≠ a)
    (idle : ∀ c ∈ q, c.preset ≠ p) (calm : p ≠ 2) (room : q.length < 8) :
    RoundsOn a (enqueue (roundCall p (n + 1)) q) (n + 1) (callRequest p .cue s).2 := by
  have source := h.source p
  have lives := h.lives other idle
  obtain ⟨rounds, x, active, named, standard⟩ := h
  have priority : (s.preset p).priority ≠ .urgent := by
    rw [rounds.presets]
    simp only [roundPreset, calm, if_false]
    split <;> simp
  have joins : (callRequest p .cue s).2 =
      countArrival (s.modRelay (fun x => { x with queue := enqueue (roundCall p (n + 1)) x.queue })) := by
    have call := rounds.newCall_eq p
    simp only [newCall] at call
    have room' : s.relay.queue.length < Config.callPlaces := by rw [rounds.queue]; exact room
    simp only [callRequest, source, lives, active, call, priority, joinQueue, room', Bool.false_eq_true, if_false,
      false_and, if_true]
  rw [joins]
  refine ⟨rounds.of_fields rfl (fun _ => rfl) ?_ ?_, x, active, named, standard⟩
  · show enqueue _ s.relay.queue = _
    rw [rounds.queue]
  · show s.relay.arrivals + 1#32 = _
    rw [rounds.arrivals, BitVec.ofNat_add]

/-- The URGENT call preempts the active one, holds no station, and ends; the head of the queue takes over. -/
theorem RoundsOn.preempt {a : Fin 16} {c : Call} {q : List Call} {n : Nat} (h : RoundsOn a (c :: q) n s) (other : 2 ≠ a)
    (idle : ∀ d ∈ c :: q, d.preset ≠ 2) (standard : c.priority = .standard) :
    RoundsOn c.preset q (n + 1) (callRequest 2 .cue s).2 := by
  have source := h.source 2
  have lives := h.lives other idle
  obtain ⟨rounds, x, active, named, hx⟩ := h
  have urgent : (s.preset 2).priority = .urgent ∧ rank x.call.priority < rank .urgent := by
    rw [rounds.presets, hx]; decide
  have call := rounds.newCall_eq 2
  simp only [newCall, urgent] at call
  have leaves : (callRequest 2 .cue s).2 = advance x.stations (roundCall 2 (n + 1) :: c :: q)
      (raiseCallChange x.call.preset .preempted (countArrival s)) := by
    simp only [callRequest, source, lives, active, urgent, call, Bool.false_eq_true, if_false, if_true, and_self,
      rounds.queue]
  generalize hv : raiseCallChange x.call.preset .preempted (countArrival s) = v at leaves
  have rounds' : Rounds (c :: q) (n + 1) v := by
    subst hv
    refine rounds.of_fields rfl (fun _ => rfl) rounds.queue ?_
    show s.relay.arrivals + 1#32 = _
    rw [rounds.arrivals, BitVec.ofNat_add]
  have none : resolve 2 v = 0#32 := (rounds'.resolve_iff 2).2 rfl
  have some : resolve c.preset v ≠ 0#32 := fun z => idle c (by simp) ((rounds'.resolve_iff _).1 z)
  have picked : pickCall v (roundCall 2 (n + 1) :: c :: q) = (Option.some ⟨c, resolve c.preset v, 0, 0⟩, q, [2]) := by
    simp only [pickCall, roundCall, none, if_true, some, if_false]
  rw [leaves]
  refine ⟨rounds'.of_fields ?_ (fun m => advance_calls ..) ?_ ?_, ⟨c, resolve c.preset v, 0, 0⟩, ?_, rfl, standard⟩
  · rw [advance_relay]
  · rw [advance_relay, picked]
  · rw [advance_relay]; exact rounds'.arrivals
  · rw [advance_relay, picked]

/-! ## The cue -/

/-- A CALL of delay 0. -/
def callNow (p : Fin 16) : PendingAction := ⟨⟨0, .call p⟩, 0⟩

theorem skipAction_relay (k : Fin 8) (s : State) : (skipAction k s).relay = s.relay := rfl

/-- A call request that is turned away changes nothing (R123). -/
theorem callRequest_refused {p : Fin 16} {o : Origin} (h : (callRequest p o s).1.isAccepted = false) :
    (callRequest p o s).2 = s := by
  unfold callRequest at h ⊢
  split
  · rfl
  split
  · rfl
  rename_i source lives
  simp only [source, lives, if_false, Bool.false_eq_true] at h
  cases active : s.relay.active with
  | none => simp [active, CallReply.isAccepted] at h
  | some a =>
    simp only [active] at h ⊢
    split
    · rename_i urgent
      simp [urgent, CallReply.isAccepted] at h
    · rename_i calm
      simp only [calm, if_false] at h
      cases join : joinQueue ⟨p, o, s.relay.arrivals + 1#32, (s.preset p).priority⟩ s with
      | none => rfl
      | some x => simp [join, CallReply.isAccepted] at h

/-- A CALL leaves the calls that its request leaves (R88, R89). -/
theorem takeBy_callNow_relay (k : Fin 8) (p : Fin 16) (s : State) :
    (takeBy due k s (callNow p)).relay = (callRequest p .cue s).2.relay := by
  rw [takeBy, settleOthers_relay]
  show (execAction k false ⟨0, .call p⟩ s).relay = _
  show (actOn k false (.call p) s).relay = _
  cases accepted : (callRequest p .cue s).1.isAccepted with
  | true => simp only [actOn, accepted, if_true]
  | false => simp only [actOn, accepted, Bool.false_eq_true, if_false, skipAction_relay, callRequest_refused accepted]

/-- The calls of the presets in turn, each a CALL of delay 0 of slot 1. -/
def calls (l : List (Fin 16)) (s : State) : State := (l.map callNow).foldl (takeBy due 0) s

theorem calls_append (l m : List (Fin 16)) (s : State) : calls (l ++ m) s = calls m (calls l s) := by
  simp only [calls, List.map_append, List.foldl_append]

theorem calls_cons (p : Fin 16) (l : List (Fin 16)) (s : State) :
    calls (p :: l) s = calls l (takeBy due 0 s (callNow p)) := by
  simp only [calls, List.map_cons, List.foldl_cons]

theorem calls_nil (s : State) : calls [] s = s := by simp only [calls, List.map_nil, List.foldl_nil]

theorem RoundsOn.take {b p : Fin 16} {r : List Call} {m : Nat} (h : RoundsOn b r m (callRequest p .cue s).2) :
    RoundsOn b r m (takeBy due 0 s (callNow p)) :=
  h.congr (takeBy_callNow_relay 0 p s)

/-- The call that waits while the others come and go. -/
def waiting : Call := roundCall 3 2

/-- The call of preset 1 is active and that of preset 4 waits. -/
theorem Rounds.start (h : Rounds [] 0 s) (none : s.relay.active = none) : RoundsOn 0 [waiting] 2 (calls [0, 3] s) := by
  rw [calls_cons, calls_cons, calls_nil]
  exact ((h.activate none (.inl rfl)).take.join (p := 3) (by decide) (by simp) (by decide) (by decide)).take

/-- A call joins, the URGENT call ends the active one and itself, and the call that joined takes over. -/
theorem RoundsOn.swap {a b : Fin 16} {n : Nat} (h : RoundsOn a [waiting] n s) (ha : a = 0 ∨ a = 1) (hb : b = 0 ∨ b = 1)
    (other : b ≠ a) : RoundsOn b [waiting] (n + 2) (calls [b, 2] s) := by
  have urgent : 2 ≠ a := by rcases ha with rfl | rfl <;> decide
  have calm : b ≠ 2 := by rcases hb with rfl | rfl <;> decide
  have third : b ≠ 3 := by rcases hb with rfl | rfl <;> decide
  have standard : (roundCall b (n + 1)).priority = .standard := by rcases hb with rfl | rfl <;> rfl
  have first : enqueue (roundCall b (n + 1)) [waiting] = [roundCall b (n + 1), waiting] := by
    rcases hb with rfl | rfl <;> rfl
  have joined := (h.join other (by simpa [waiting, roundCall] using third.symm) calm (by decide)).take
  rw [first] at joined
  rw [calls_cons, calls_cons, calls_nil]
  exact (joined.preempt urgent (by simpa [waiting, roundCall] using calm) standard).take

/-- Four calls leave the active call and the queue as they stood. -/
theorem RoundsOn.round {n : Nat} (h : RoundsOn 0 [waiting] n s) : RoundsOn 0 [waiting] (n + 4) (calls [1, 2, 0, 2] s) := by
  have two := (h.swap (b := 1) (.inl rfl) (.inr rfl) (by decide)).swap (.inr rfl) (.inl rfl) (by decide)
  rwa [← calls_append] at two

theorem RoundsOn.rounds {n : Nat} (k : Nat) (h : RoundsOn 0 [waiting] n s) :
    RoundsOn 0 [waiting] (n + 4 * k) (calls (List.replicate k [1, 2, 0, 2]).flatten s) := by
  induction k generalizing n s with
  | zero => exact h
  | succ k ih =>
    rw [List.replicate_succ, List.flatten_cons, calls_append, Nat.mul_succ, Nat.add_comm (4 * k), ← Nat.add_assoc]
    exact ih h.round

/-- At last preset 1 joins before the call that waits, and preset 5 after it. -/
theorem RoundsOn.last {n : Nat} (h : RoundsOn 0 [waiting] n s) :
    RoundsOn 1 [roundCall 0 (n + 3), waiting, roundCall 4 (n + 4)] (n + 4) (calls [1, 2, 0, 4] s) := by
  have joined := ((h.swap (b := 1) (.inl rfl) (.inr rfl) (by decide)).join (p := 0) (by decide)
    (by simp [waiting, roundCall]) (by decide) (by decide)).take
  have first : enqueue (roundCall 0 (n + 2 + 1)) [waiting] = [roundCall 0 (n + 3), waiting] := rfl
  rw [first] at joined
  have ends : enqueue (roundCall 4 (n + 3 + 1)) [roundCall 0 (n + 3), waiting] =
    [roundCall 0 (n + 3), waiting, roundCall 4 (n + 4)] := rfl
  rw [show ([1, 2, 0, 4] : List (Fin 16)) = [1, 2] ++ [0, 4] from rfl, calls_append, calls_cons 0, calls_cons, calls_nil, ← ends]
  exact (joined.join (p := 4) (by decide) (by simp [waiting, roundCall]) (by decide) (by simp)).take

/-! ## The state -/

/-- The presets that the cue calls, in turn: 2^32 + 2 of them where `k` is 2^30 - 1. -/
def callOrder (k : Nat) : List (Fin 16) := [0, 3] ++ ((List.replicate k [1, 2, 0, 2]).flatten ++ [1, 2, 0, 4])

/-- The cue of these calls. -/
def roundCue (k : Nat) : Cue := ⟨1, [], none, (callOrder k).map (fun p => ⟨0, .call p⟩)⟩

/-- After a reset, with the presets, the cue in standby, and a GO that waits. -/
def roundState (k : Nat) : State := { State.reset with
  relay := { State.reset.relay with presets := Table.ofFn roundPreset }
  cues := ⟨[roundCue k], some 1⟩
  pending := [.go] }

theorem Rounds.order (k : Nat) (h : Rounds [] 0 s) (none : s.relay.active = none) :
    RoundsOn 1 [roundCall 0 (2 + 4 * k + 3), waiting, roundCall 4 (2 + 4 * k + 4)] (2 + 4 * k + 4)
      (calls (callOrder k) s) := by
  rw [callOrder, calls_append, calls_append]
  exact ((h.start none).rounds k).last

theorem roundState_accepts (k : Nat) : accepts { roundState k with pending := [] } := ⟨rfl, rfl, rfl⟩

theorem roundState_go (k : Nat) : goRequest { roundState k with pending := [] } =
    .ok (goFields (fireGo .port (roundCue k) { roundState k with pending := [] }).1,
      (fireGo .port (roundCue k) { roundState k with pending := [] }).2) := rfl

/-- The GO runs the calls of the cue in slot 1. -/
theorem fireGo_roundCue_relay (k : Nat) (h : freeSlot s = some 0) :
    (fireGo .port (roundCue k) s).2.relay = (calls (callOrder k) (startCue 0 .port (roundCue k) s)).relay := by
  have room : makeRoom s = (none, s) := by simp only [makeRoom, h]
  have pending : ((startCue 0 .port (roundCue k) s).slot 0).actions = (callOrder k).map callNow := by
    rw [startCue_slot]
    simp only [firedSlot, roundCue, List.map_map]
    rfl
  have due : ((callOrder k).map callNow).filter due = (callOrder k).map callNow :=
    List.filter_eq_self.2 fun x hx => by
      obtain ⟨p, -, rfl⟩ := List.mem_map.1 hx
      rfl
  have runs : runDue 0 (startCue 0 .port (roundCue k) s) = calls (callOrder k) (startCue 0 .port (roundCue k) s) := by
    rw [runDue_eq, pending, due, calls]
  rw [fireGo_eq, room, h, Option.getD_some, settle_relay, ← runs]
  rfl

theorem startCue_rounds (k : Nat) : Rounds [] 0 (startCue 0 .port (roundCue k) { roundState k with pending := [] }) := by
  refine ⟨fun p => ?_, fun m => ?_, rfl, rfl⟩
  · show (Table.ofFn roundPreset).get p = _
    rw [Table.get_ofFn]
  · show ((Table.replicate 32 {} : Table Station 32).get m).calls = true
    rw [Table.get_replicate]

/-- The step leaves the call of preset 1, the call that waits, and that of preset 5. -/
theorem roundState_step (k : Nat) : ∃ t, step (roundState k) = .next t ∧
    t.relay.queue = [roundCall 0 (2 + 4 * k + 3), waiting, roundCall 4 (2 + 4 * k + 4)] := by
  refine ⟨_, congrArg Host.Outcome.next ((request_ok (roundState_accepts k)).trans (congrArg (respond 25 _) (roundState_go k))), ?_⟩
  show (fireGo .port (roundCue k) { roundState k with pending := [] }).2.relay.queue = _
  rw [fireGo_roundCue_relay k rfl]
  exact ((startCue_rounds k).order k rfl).1.queue

end Sys2Proof.Machine

open Sys2Proof.Machine

/-- Refutes O8: a cue of 2^32 + 2 CALL actions, more than CUE_STORE takes but no more than the record may hold. The 2nd call it
accepts waits while the others come and go, and the last one joins behind it with the same serial, and so the same age. Before
the step the queue is empty, so that no age of it comes round to 0. -/
theorem not_callLawKept : ¬ Obligations.CallLawKept := by
  unfold Obligations.CallLawKept
  intro law
  obtain ⟨k, hk⟩ : ∃ k, 4 * k + 4 = 2 ^ 32 := ⟨2 ^ 30 - 1, by norm_num⟩
  obtain ⟨t, step, queue⟩ := roundState_step k
  have empty : (roundState k).relay.queue = [] := rfl
  have ordered : queueLaw (roundState k) := by rw [queueLaw, empty]; exact .nil
  have fit : agesFit (roundState k) := by rw [agesFit, empty]; nofun
  have aged : arrivalLaw (roundState k) := by rw [arrivalLaw, empty]; exact .nil
  have after := ((law _ t step).2 ordered).2.2 fit aged
  rw [arrivalLaw, queue] at after
  have older := (List.pairwise_cons.1 (List.pairwise_cons.1 after).2).1 (roundCall 4 (2 + 4 * k + 4)) (by simp) rfl
  have serial : (roundCall 4 (2 + 4 * k + 4)).serial = waiting.serial := by
    show BitVec.ofNat 32 (2 + 4 * k + 4) = BitVec.ofNat 32 2
    rw [Nat.add_assoc, hk]
    rfl
  rw [callAge, callAge, serial] at older
  exact Nat.lt_irrefl _ older
end

section
/-! The control port: how a request is answered, which commands meet nothing, and what a payload spells (10.1, 10.3). -/

namespace Sys2Proof.Machine

variable {s t u : State} {c me : Instr} {code : Nat} {body : State → Answer} {fields : List Field}

/-! ## What a request checks before it answers (R163) -/

theorem ok_bind {α β : Type} (a : α) (f : α → Except Status β) : (Except.ok a >>= f) = f a := rfl

theorem error_bind {α β : Type} (st : Status) (f : α → Except Status β) : (Except.error st >>= f) = .error st := rfl

theorem require_true (st : Status) : require true st = .ok () := rfl

theorem require_false (st : Status) : require false st = .error st := rfl

theorem need_some {α : Type} (st : Status) (a : α) : need st (some a) = .ok a := rfl

theorem need_none {α : Type} (st : Status) : need st (none : Option α) = .error st := rfl

/-! ## The answer of a request (R161 to R163) -/

theorem request_answered (h : accepts s) (ok : body s = .ok (fields, t)) : request code me body s = answered code fields t := by
  rw [request_ok h, ok]
  rfl

theorem request_refused {st : Status} (h : accepts s) (no : body s = .error st) :
    request code me body s = refusedWith st code s := by
  rw [request_ok h, no]
  rfl

/-- An answer is no record of an element. -/
@[simp] theorem value_answered (code : Nat) (fields : List Field) (s : State) (el : Element) :
    (answered code fields s).value? el = s.value? el := by
  cases el <;> rfl

/-- The command of a request is answered with what its body answers. -/
theorem next_answered (h : accepts s) (ok : body s = .ok (fields, t)) :
    (.next (request code me body s) : Out) = .next (answered code fields t) := by
  rw [request_answered h ok]

theorem next_refused {st : Status} (h : accepts s) (no : body s = .error st) :
    (.next (request code me body s) : Out) = .next (refusedWith st code s) := by
  rw [request_refused h no]

/-- Whatever a request's body answers, a READY response echoes the code. -/
theorem respond_ready (code : Nat) (s : State) (a : Answer) :
    ∃ r, (respond code s a).port.response = .ready r ∧ r.code = code := by
  cases a <;> exact ⟨_, rfl, rfl⟩

/-- A request that is accepted is answered, and one that is refused changes nothing else (R163). -/
theorem request_ready (h : accepts s) : ∃ r, (request code me body s).port.response = .ready r ∧ r.code = code ∧
    (r.status ≠ .ok → r.fields = [] ∧ request code me body s = withResponse r s) := by
  rw [request_ok h]
  rcases respond_cases code s (body s) with ⟨st, -, e⟩ | ⟨fields, t, -, e⟩ <;> rw [e]
  · exact ⟨⟨st, code, []⟩, rfl, rfl, fun _ => ⟨rfl, rfl⟩⟩
  · exact ⟨⟨.ok, code, fields⟩, rfl, rfl, fun no => absurd rfl no⟩

/-- A request that is being executed runs to its answer (R161). -/
theorem request_finishes {k : Nat} (live : s.inReset = false) (h : s.port.response = .executing k me) :
    ∃ r, (request code me body s).port.response = .ready r ∧ r.code = code := by
  rcases request_cases code me body s with e | ⟨-, e⟩ | ⟨-, dead | ⟨j, other, h', no⟩⟩
  · rw [e]; exact respond_ready ..
  · rw [e]; exact respond_ready ..
  · rw [live] at dead; cases dead
  · rw [h] at h'
    cases h'
    exact absurd rfl no

/-! ## Commands that meet nothing (R161, R162, R170) -/

theorem request_inReset (h : s.inReset = true) : request code me body s = s := by simp only [request, h, if_true]

theorem request_executingOther {k : Nat} {other : Instr} (h : s.port.response = .executing k other) (no : other ≠ me) :
    request code me body s = s := by
  simp only [request, h, no, if_false, ite_self]

theorem outsideReset_inReset {f : State → State} (h : s.inReset = true) : outsideReset f s = .next s := by
  simp [outsideReset, h]

theorem event_inReset {f : State → State} (h : s.inReset = true) : event f s = .next s := outsideReset_inReset h

theorem lineEdge_inReset {f : State → State} {l : Sampled} (h : s.inReset = true) : lineEdge l f s = .next s :=
  outsideReset_inReset h

theorem exec_inReset (h : s.inReset = true) (hc : actsInReset c = false) : exec c s = .next s := by
  by_cases isRequest : (requestCode c).isSome
  · obtain ⟨code, hcode⟩ := Option.isSome_iff_exists.1 isRequest
    obtain ⟨body, runs, -⟩ := exec_request hcode
    rw [runs, request_inReset h]
  · cases c with
    | frame | controlIntervalEnd | fadeComplete | actionDue | followGo | callTimeout | callSilent | monitorTrip =>
      exact outsideReset_inReset h
    | goNPress | holdNPress | callNPress | callNRelease => exact lineEdge_inReset h
    | linkFrameArrival | partialFrameDiscard | linkLost | fallback | returnToWck | returnAbandoned
    | frameSync => exact event_inReset h
    | outputLinkFrame n => exact event_inReset (f := fun s => if paused s then s else sendFrame n s) h
    | transaction | transactionBegin | powerCause | supplyCause | pinCause | causeEnd | clkroleLatch | resetProcedureEnd =>
      cases hc
    | _ => exact absurd rfl isRequest

/-! ## Numbers and levels (R164) -/

/-- What a reader has taken is given on to what reads the rest. -/
theorem reader_bind {α β : Type} {x : Reader α} {f : α → Reader β} {a : α} {bytes rest : List Byte}
    (h : x bytes = some (a, rest)) : (x >>= f) bytes = f a rest := by
  show Option.bind (x bytes) _ = _
  rw [h]
  rfl

theorem readByte_cons (b : Byte) (rest : List Byte) : readByte (b :: rest) = some (b.toNat, rest) := rfl

/-- Only the bits below the width are written. -/
theorem readUint_bytesOf_mod (n v : Nat) (rest : List Byte) : readUint n (bytesOf n v ++ rest) = some (v % 256 ^ n, rest) := by
  induction n with
  | zero => rw [Nat.pow_zero, Nat.mod_one]; rfl
  | succ n ih =>
    have value : (BitVec.ofNat 8 (v / 256 ^ n)).toNat * 256 ^ n + v % 256 ^ n = v % 256 ^ (n + 1) := by
      rw [BitVec.toNat_ofNat, Nat.pow_succ 256, Nat.mod_mul, Nat.mul_comm, Nat.add_comm]
    rw [bytesOf, List.cons_append, readUint, reader_bind (readByte_cons ..), reader_bind ih, value]
    rfl

theorem readUint_bytesOf {n v : Nat} (h : v < 256 ^ n) (rest : List Byte) :
    readUint n (bytesOf n v ++ rest) = some (v, rest) := by
  rw [readUint_bytesOf_mod, Nat.mod_eq_of_lt h]

theorem levelBits_eq {z : Int} (lo : -32768 ≤ z) (hi : z ≤ 32767) :
    levelBits z < 256 ^ 2 ∧ (if levelBits z < 32768 then (levelBits z : Int) else (levelBits z : Int) - 65536) = z := by
  have h : levelBits z = (z % 65536).toNat := by
    rw [levelBits, BitVec.toNat_ofInt]
    rfl
  rw [h]
  split <;> omega

theorem readLevel_levelBits {z : Int} (lo : -32768 ≤ z) (hi : z ≤ 32767) (rest : List Byte) :
    readLevel (fieldBytes (.level z) ++ rest) = some (z, rest) := by
  obtain ⟨fits, value⟩ := levelBits_eq lo hi
  have read := readUint_bytesOf fits rest
  rw [fieldBytes, readLevel, reader_bind read, value]
  rfl

/-! ## Labels (R164) -/

theorem readByte_bytesOf {v : Nat} (h : v < 256) (rest : List Byte) : readByte (bytesOf 1 v ++ rest) = some (v, rest) := by
  have : (BitVec.ofNat 8 (v / 256 ^ 0)).toNat = v := by
    rw [BitVec.toNat_ofNat, Nat.pow_zero, Nat.div_one]
    exact Nat.mod_eq_of_lt h
  show some (_, rest) = _
  rw [this]

theorem readTimes_bytes (l : List Nat) (rest : List Byte) (h : ∀ v ∈ l, v < 256) :
    readTimes readByte l.length (l.flatMap (bytesOf 1) ++ rest) = some (l, rest) := by
  induction l with
  | nil => rfl
  | cons v l ih =>
    have first := readByte_bytesOf (h v (by simp)) (l.flatMap (bytesOf 1) ++ rest)
    rw [List.flatMap_cons, List.append_assoc]
    rw [List.length_cons, readTimes, reader_bind first, reader_bind (ih fun w hw => h w (by simp [hw]))]
    rfl

theorem readLabel_label {l : Label} (h : labelFits l = true) (rest : List Byte) :
    readLabel (fieldBytes (.label l) ++ rest) = some (l, rest) := by
  simp only [labelFits, Bool.and_eq_true, List.all_eq_true, fits, decide_eq_true_eq, Nat.pow_one] at h
  obtain ⟨length, bytes⟩ := h
  have first := readByte_bytesOf length (l.flatMap (bytesOf 1) ++ rest)
  rw [fieldBytes, List.append_assoc, readLabel, readList, reader_bind first]
  exact readTimes_bytes l rest bytes

/-! ## Element addresses (R164) -/

theorem readElemAddr_bytes {a : ElemAddr} (h : a.fits = true) (rest : List Byte) :
    readElemAddr (bytesOf 1 a.kind ++ (bytesOf 1 a.index ++ (bytesOf 1 a.srcKind ++ (bytesOf 1 a.srcIndex ++ rest)))) =
      some (a, rest) := by
  simp only [ElemAddr.fits, fits, Bool.and_eq_true, decide_eq_true_eq, Nat.pow_one] at h
  obtain ⟨⟨⟨kind, index⟩, srcKind⟩, srcIndex⟩ := h
  rw [readElemAddr, reader_bind (readByte_bytesOf kind _), reader_bind (readByte_bytesOf index _),
    reader_bind (readByte_bytesOf srcKind _), reader_bind (readByte_bytesOf srcIndex _)]
  rfl

theorem num_lt {n : Nat} (i : Fin n) (h : n < 256) : num i < 256 := by
  have := i.isLt
  simp only [num]
  omega

theorem addrOf_fits (el : Element) : (addrOf el).fits = true := by
  simp only [ElemAddr.fits, fits, Bool.and_eq_true, decide_eq_true_eq, Nat.pow_one]
  cases el with
  | send f src => cases src <;> simp [addrOf, sourceKind, sourceIndex, num_lt]
  | relaySend src => cases src <;> simp [addrOf, relaySourceKind, relaySourceIndex, num_lt]
  | _ => simp [addrOf, num_lt]

theorem sourceOf_source (src : Source) : sourceOf (sourceKind src) (sourceIndex src) = some src := by
  cases src <;> simp [sourceOf, sourceKind, sourceIndex, idx_num]

theorem relaySourceOf_source (src : RelaySource) :
    relaySourceOf (relaySourceKind src) (relaySourceIndex src) = some src := by
  cases src <;> simp [relaySourceOf, relaySourceKind, relaySourceIndex, idx_num]

theorem srcIndexOk_source (src : Source) : srcIndexOk (sourceKind src) (sourceIndex src) = true := by
  cases src <;> simp [srcIndexOk, sourceKind, sourceIndex, idx_num]

theorem srcIndexOk_relaySource (src : RelaySource) : srcIndexOk (relaySourceKind src) (relaySourceIndex src) = true := by
  cases src <;> simp [srcIndexOk, relaySourceKind, relaySourceIndex, idx_num]

/-- The address of an element names it. -/
theorem elementOf_addrOf (el : Element) : elementOf (addrOf el) = some el := by
  cases el <;> simp [elementOf, addrOf, idx_num, sourceOf_source, relaySourceOf_source]

theorem addrIndexOk_addrOf (el : Element) : addrIndexOk (addrOf el) = true := by
  cases el <;> simp [addrIndexOk, addrOf, kindCount, idx_num, srcIndexOk_source, srcIndexOk_relaySource]

theorem addrFields_bytes (el : Element) (rest : List Byte) :
    readElemAddr ((addrFields el).flatMap fieldBytes ++ rest) = some (addrOf el, rest) := by
  have h := readElemAddr_bytes (addrOf_fits el) rest
  simpa only [addrFields, List.flatMap_cons, List.flatMap_nil, fieldBytes, List.append_assoc, List.append_nil] using h

/-! ## Frames that are no request (R162) -/

theorem readRequest_above {n : Nat} (h : 61 ≤ n) : readRequest n = none := by
  obtain ⟨m, rfl⟩ := Nat.exists_eq_add_of_le' h
  rfl

theorem readFrame_unknown {code hi lo : Byte} {payload : List Byte} (h : code = 0#8 ∨ 61 ≤ code.toNat) :
    readFrame code hi lo payload = none := by
  have none : readRequest code.toNat = none := by
    rcases h with rfl | h
    · rfl
    · exact readRequest_above h
  simp only [readFrame, none, ite_self]

theorem readFrame_length {code hi lo : Byte} {payload : List Byte}
    (h : 252 < hi.toNat * 256 + lo.toNat ∨ payload.length ≠ hi.toNat * 256 + lo.toNat) :
    readFrame code hi lo payload = none := by
  have no : ¬ (hi.toNat * 256 + lo.toNat ≤ 252 ∧ payload.length = hi.toNat * 256 + lo.toNat) := by omega
  simp only [readFrame, no, if_false]

/-- The frame checks of a request. -/
theorem classifyFrame_request {code hi lo : Byte} {payload : List Byte} (bits : Fin 8) (h : code ≠ 3#8)
    (no : bits ≠ 0 ∨ readFrame code hi lo payload = none) :
    classifyFrame (code :: hi :: lo :: payload) bits = .bad code.toNat := by
  simp only [classifyFrame, h, if_false]
  split
  · rfl
  · rename_i whole
    rw [no.resolve_left whole]

theorem classifyFrame_short {code : Byte} {rest : List Byte} (bits : Fin 8) (h : code ≠ 3#8) (short : rest.length < 2) :
    classifyFrame (code :: rest) bits = .bad code.toNat := by
  simp only [classifyFrame, h, if_false]
  split
  · rfl
  · match rest, short with
    | [], _ => rfl
    | [_], _ => rfl

end Sys2Proof.Machine

open Sys2Proof.Machine

/-- Settles O1, by the model's definition of a step. -/
theorem stepRunsFront : Obligations.StepRunsFront := by
  unfold Obligations.StepRunsFront
  refine ⟨fun c rest s h => ?_, fun s h => ?_⟩
  · rw [step, h]
  · rw [step, h]
    show (∀ code i, _ → idle s = exec i s) ∧ (_ → idle s = .next s)
    cases response : s.port.response with
    | empty => exact ⟨nofun, fun _ => by rw [idle, response]⟩
    | ready r => exact ⟨nofun, fun _ => by rw [idle, response]⟩
    | executing k i =>
      refine ⟨fun code j e => ?_, nofun⟩
      cases e
      rw [idle, response]

/-- Settles O13: in a reset procedure every gate but those of resets and of SEL_N is shut, and a request that meets another
that executes is discarded. -/
theorem commandsThatMeetNothing : Obligations.CommandsThatMeetNothing := by
  unfold Obligations.CommandsThatMeetNothing
  refine ⟨fun c s h hc => exec_inReset h hc, fun c i code k s hc response other => ?_⟩
  obtain ⟨body, runs, -⟩ := exec_request hc
  rw [runs, request_executingOther response other]

/-- Settles O14, by the gate of requests. -/
theorem refusedRequestChangesNothing : Obligations.RefusedRequestChangesNothing := by
  unfold Obligations.RefusedRequestChangesNothing
  intro c code s hc
  obtain ⟨body, runs, -⟩ := exec_request hc
  refine ⟨fun h => ?_, fun k live response => ?_⟩
  · obtain ⟨r, ready, code, refused⟩ := request_ready (code := code) (me := c) (body := body) h
    exact ⟨_, r, runs s, ready, code, refused⟩
  · obtain ⟨r, ready, code⟩ := request_finishes (code := code) (body := body) live response
    refine ⟨?_, _, r, runs s, ready, code⟩
    rw [runs, runs, request_executing live response]
    rfl

/-- Settles O15, by reading each field's bytes one by one. -/
theorem payloadsReadBack : Obligations.PayloadsReadBack := by
  unfold Obligations.PayloadsReadBack
  exact ⟨fun n v rest h => readUint_bytesOf h rest, fun z rest lo hi => readLevel_levelBits lo hi rest,
    fun l rest h => readLabel_label h rest,
    fun el rest => ⟨elementOf_addrOf el, addrIndexOk_addrOf el, addrFields_bytes el rest⟩⟩

/-- Settles O16, by the frame checks in their order. -/
theorem malformedFramesRefused : Obligations.MalformedFramesRefused := by
  unfold Obligations.MalformedFramesRefused
  refine ⟨fun bits => rfl, fun rest bits => rfl, fun code rest bits h bad => ?_⟩
  match rest with
  | [] => exact classifyFrame_short bits h (by simp)
  | [hi] => exact classifyFrame_short bits h (by simp)
  | hi :: lo :: payload =>
    refine classifyFrame_request bits h ?_
    rcases bad with bits | short | none | unknown | ⟨hi', lo', payload', e, length⟩
    · exact .inl bits
    · simp at short
    · exact .inr (readFrame_unknown (.inl none))
    · exact .inr (readFrame_unknown (.inr unknown))
    · cases e
      exact .inr (readFrame_length length)

/-- Settles O17, by the cases of the pending response and of the transaction. -/
theorem transactionsRun : Obligations.TransactionsRun := by
  unfold Obligations.TransactionsRun
  refine ⟨fun s live closed => ?_, fun bytes bits s live => ⟨fun opened => ?_, fun opened => ?_⟩⟩
  · have begins : exec .transactionBegin s = .next (beginTransaction s) := by
      show Host.Outcome.next _ = _
      simp only [live, closed, Bool.false_eq_true, if_false]
    rw [begins, beginTransaction]
    refine ⟨fun h => ?_, fun r h => ?_, fun code i h => ?_⟩
    · rw [h]; rfl
    · rw [h]; rfl
    · rw [h]
      have header : responseBytes (shownResponse (.executing code i)) = [1, BitVec.ofNat 8 code, 0, 0] := by
        have payload : payloadBytes ⟨.notReady, code, []⟩ = [] := rfl
        simp only [shownResponse, responseBytes, payload, bytesOf, Nat.pow_zero, Nat.div_one]
        rfl
      rw [header]
      rfl
  · show Host.Outcome.next _ = _
    simp only [live, endTransaction, opened, Bool.false_eq_true, if_false]
    rfl
  · show Host.Outcome.next _ = _
    simp only [live, endTransaction, opened, Bool.false_eq_true, if_false, takeRequest]
    cases Sys2Proof.classifyFrame bytes bits <;> rfl

/-- Settles O18, by the answers of the four requests. -/
theorem portRequestsAnswer : Obligations.PortRequestsAnswer := by
  unfold Obligations.PortRequestsAnswer
  intro s h
  exact ⟨next_answered h rfl, next_answered h rfl, next_answered h rfl, ⟨.ok, 2, identityFields⟩, next_answered h rfl, rfl⟩
end

section
/-! The state after a reset, attention, CLEAR_SHOW and the reset procedures (10.4, 10.5). -/

namespace Sys2Proof.Machine

variable {s t : State}

/-! ## The records after a reset -/

section
variable (c r : Fin 64) (g : Fin 16) (k : Fin 8) (f : Fin 12) (x : Fin 2) (n : Fin 32) (p m : Fin 16) (l : Fin 4)

@[simp] theorem reset_channel : State.reset.channel c = {} := Table.get_replicate _ c
@[simp] theorem reset_role : State.reset.role r = {} := Table.get_replicate _ r
@[simp] theorem reset_group : State.reset.group g = {} := Table.get_replicate _ g
@[simp] theorem reset_slot : State.reset.slot k = {} := Table.get_replicate _ k
@[simp] theorem reset_mix : State.reset.mix f = {} := Table.get_replicate _ f
@[simp] theorem reset_talkback : State.reset.talkback x = {} := Table.get_replicate _ x
@[simp] theorem reset_station : State.reset.station n = {} := Table.get_replicate _ n
@[simp] theorem reset_preset : State.reset.preset p = {} := Table.get_replicate _ p
@[simp] theorem reset_monitor : State.reset.monitor m = {} := Table.get_replicate _ m
@[simp] theorem reset_receiver : State.reset.receiver l = {} := Table.get_replicate _ l
@[simp] theorem reset_output : State.reset.output l = {} := Table.get_replicate _ l

end

/-- Every element after a reset stands in its range (R40). -/
theorem levelLaw_reset : levelLaw State.reset := by
  intro el v h
  cases el with
  | send f src =>
    rw [State.value?, reset_mix] at h
    cases h
  | relaySend src => cases h
  | _ =>
    simp only [State.value?, reset_group, reset_role, reset_mix, reset_station, reset_receiver] at h
    cases h
    simp [elemLo, elemHi, off]

theorem bindingLaw_reset : bindingLaw State.reset := by
  intro c r
  simp

/-! ## A show input after a reset (R75, R76) -/

theorem sampleInput_unprimed {i : ShowInput} (h : i.primed = false) :
    sampleInput i = ({ i with accepted := i.line, primed := true, count := 0 }, none) := by
  simp [sampleInput, h]

theorem inputAfterReset_resetInput (e : ActingEdge) (i : ShowInput) : inputAfterReset e (resetInput e i) :=
  ⟨rfl, rfl, rfl, rfl, rfl, rfl⟩

/-! ## The end of a procedure (R169, R170) -/

theorem map_replicate {α β : Type} (n : Nat) (a : α) (f : α → β) : (Table.replicate n a).map f = Table.replicate n (f a) :=
  Table.ext_get fun i => by simp

theorem dropTransaction_twice (x : Transaction) : dropTransaction (dropTransaction x) = dropTransaction x := by
  cases x <;> rfl

/-- After a reset nothing is in flight that a procedure's start would abandon. -/
theorem abandon_stateAfterReset (high : Bool) (c : Cause) (s : State) :
    abandon (stateAfterReset high c s) = stateAfterReset high c s := by
  simp only [abandon, stateAfterReset, map_replicate, dropTransaction_twice]
  rfl

theorem startWaiting_stateAfterReset (high : Bool) (c : Cause) (s : State) : startWaiting (stateAfterReset high c s) =
    { stateAfterReset high c s with resets := { s.resets with
      procedure := (presentCause s.resets).map fun x => { cause := x } } } := by
  rw [startWaiting, presentCause_stateAfterReset]
  cases presentCause s.resets with
  | none => rfl
  | some x =>
    simp only [abandon_stateAfterReset]
    rfl

/-- The procedure of the highest cause that is present. -/
theorem waitingProcedure (r : Resets) : ((presentCause r).map fun x => ({ cause := x } : Procedure)) =
    if r.power = true then some ⟨.power, false, none⟩
    else if r.supply = true then some ⟨.supply, false, none⟩
    else if r.pin = true then some ⟨.pin, false, none⟩
    else none := by
  unfold presentCause
  split
  · rfl
  · split
    · rfl
    · split <;> rfl

/-- A procedure's start touches no block that a reset has just left. -/
theorem leftByReset_stateAfterReset (c : Cause) (high : Bool) (s : State) (r : Resets) :
    leftByReset c high s { stateAfterReset high c s with resets := r } := by
  refine ⟨rfl, rfl, rfl, rfl, rfl, rfl, rfl, rfl, rfl, rfl, rfl, rfl, rfl, rfl, rfl, inputAfterReset_resetInput ..,
    inputAfterReset_resetInput .., inputAfterReset_resetInput .., rfl, rfl, rfl, rfl, rfl, rfl, ?_, rfl, rfl, rfl, ?_, rfl, rfl,
    rfl⟩
  · cases high <;> rfl
  · cases c <;> rfl

/-! ## The start of a procedure (R169, R170) -/

/-- A mark of a cause, as it arrives. -/
theorem causeArrives_fresh (c : Cause) (h : s.resets.procedure = none) : causeArrives c s =
    setProcedure c (abandon { s with resets := markCause c true s.resets }) := by
  rw [causeArrives, h]

theorem causeArrives_over {p : Procedure} (c : Cause) (h : s.resets.procedure = some p) (le : causeRank p.cause ≤ causeRank c) :
    causeArrives c s = setProcedure c { s with resets := markCause c true s.resets } := by
  simp only [causeArrives, h, le, if_true]

theorem causeArrives_waits {p : Procedure} (c : Cause) (h : s.resets.procedure = some p) (lt : causeRank c < causeRank p.cause) :
    causeArrives c s = { s with resets := markCause c true s.resets } := by
  simp only [causeArrives, h, Nat.not_le.2 lt, if_false]

/-- Whether a cause is present. -/
def marked (c : Cause) (r : Resets) : Bool :=
  match c with
  | .power => r.power
  | .supply => r.supply
  | .pin => r.pin

theorem marked_markCause (c : Cause) (b : Bool) (r : Resets) : marked c (markCause c b r) = b := by cases c <;> rfl

theorem markCause_procedure (c : Cause) (b : Bool) (r : Resets) : (markCause c b r).procedure = r.procedure := by
  cases c <;> rfl

theorem marked_setProcedure (c d : Cause) (s : State) : marked c (setProcedure d s).resets = marked c s.resets := by
  cases c <;> rfl

theorem marked_causeArrives (c : Cause) (s : State) : marked c (causeArrives c s).resets = true := by
  cases h : s.resets.procedure with
  | none => rw [causeArrives_fresh c h, marked_setProcedure]; exact marked_markCause ..
  | some p =>
    rcases Nat.lt_or_ge (causeRank c) (causeRank p.cause) with lt | le
    · rw [causeArrives_waits c h lt]; exact marked_markCause ..
    · rw [causeArrives_over c h le, marked_setProcedure]; exact marked_markCause ..

theorem stopCounting_count (m : Monitor) : (stopCounting m).count = 0 := rfl

theorem dropExecuting_idle (x : PortResponse) : isExecuting (dropExecuting x) = false := by cases x <;> rfl

/-- What a cause makes of a part that runs no procedure (R170). -/
theorem causeArrives_abandons (c : Cause) (h : s.resets.procedure = none) :
    (causeArrives c s).resets.procedure = some ⟨c, false, none⟩ ∧
      (causeArrives c s).fades = [] ∧ (causeArrives c s).relay.active = none ∧ (causeArrives c s).relay.queue = [] ∧
      (∀ k, ((causeArrives c s).slot k).running = false) ∧ (∀ m, ((causeArrives c s).monitor m).count = 0) ∧
      (causeArrives c s).links.clock.returnWaiting = false ∧ isExecuting (causeArrives c s).port.response = false ∧
      (causeArrives c s).port.sdo = none ∧ attnLow (causeArrives c s) = false ∧
      (causeArrives c s).attention = s.attention := by
  rw [causeArrives_fresh c h]
  refine ⟨rfl, rfl, rfl, rfl, fun k => ?_, fun m => ?_, rfl, dropExecuting_idle _, rfl, attnLow_of_inReset rfl, rfl⟩
  · show ((Table.replicate 8 {} : Table Slot 8).get k).running = false
    rw [Table.get_replicate]
  · show ((s.monitors.map stopCounting).get m).count = 0
    rw [Table.get_map, stopCounting_count]

/-- What a cause makes of a procedure that runs (R169). -/
theorem causeArrives_meets {p : Procedure} (c : Cause) (h : s.resets.procedure = some p) :
    (causeRank p.cause ≤ causeRank c → (causeArrives c s).resets.procedure = some ⟨c, false, none⟩) ∧
      (causeRank c < causeRank p.cause → (causeArrives c s).resets.procedure = some p) ∧
      causeArrives c s = { s with resets := (causeArrives c s).resets } := by
  rcases Nat.lt_or_ge (causeRank c) (causeRank p.cause) with lt | le
  · rw [causeArrives_waits c h lt]
    exact ⟨fun le => absurd le (Nat.not_le.2 lt), fun _ => (markCause_procedure ..).trans h, rfl⟩
  · rw [causeArrives_over c h le]
    exact ⟨fun _ => rfl, fun lt => absurd le (Nat.not_le.2 lt), rfl⟩

/-! ## Attention (R166, R167) -/

/-- The details by the bit of their condition are those by its name. -/
theorem detailBytes_condBit (d : Details) (c : Condition) : detailBytes d (condBit c).val = detailFields d c := by
  cases c with
  | cueDone =>
    show (match d.done with | none => _ | some (cue, skipped) => _) = _
    cases h : d.done <;> simp [detailFields, h]
  | goIgnored =>
    show [Field.byte _] = _
    cases h : d.ignored with
    | none => simp [detailFields, h]
    | some why => cases why <;> simp [detailFields, h, ignoreReasonNum]
  | callChange =>
    show (match d.call with | none => _ | some (p, why) => _) = _
    cases h : d.call with
    | none => simp [detailFields, h, optNum]
    | some x =>
      obtain ⟨p, why⟩ := x
      cases why <;> simp [detailFields, h, optNum, num, reasonNumber, endReasonNum]
  | holdChange =>
    show [Field.byte _] = _
    cases h : d.hold with
    | none => simp [detailFields, h, onOff]
    | some b => cases b <;> simp [detailFields, h, onOff]
  | _ => rfl

/-- The conditions stand in bit order. -/
theorem conditions_bits : conditions.map (fun c => (condBit c).val) = List.range 16 := by decide

theorem detailBytes_range (d : Details) : (List.range 16).flatMap (detailBytes d) = conditions.flatMap (detailFields d) := by
  rw [← conditions_bits, List.flatMap_map]
  simp only [detailBytes_condBit]

theorem detailBytes_selected (m : BitVec 16) (d : Details) :
    ((List.range 16).filter (fun i => m.getLsbD i)).flatMap (detailBytes d) =
      (conditions.filter (fun c => inSet m (condBit c))).flatMap (detailFields d) := by
  rw [← conditions_bits, List.filter_map, List.flatMap_map]
  simp only [detailBytes_condBit]
  rfl

/-! ## CLEAR_SHOW (R136, R172) -/

/-- The calls that end are reported, and nothing else changes. -/
theorem reported_attention (l : List Call) (s : State) :
    l.foldl (fun s c => raiseCallChange c.preset .cleared s) s =
      { s with attention := (l.foldl (fun s c => raiseCallChange c.preset .cleared s) s).attention } := by
  induction l generalizing s with
  | nil => rfl
  | cons c l ih =>
    rw [List.foldl_cons, ih]
    rfl

theorem clearCalls_attention (s : State) : clearCalls s = { s with attention := (clearCalls s).attention } := by
  unfold clearCalls
  dsimp only
  split
  · exact reported_attention ..
  · rw [reported_attention]
    rfl

/-- What no report of a call touches: the flags but for CALL_CHANGE, the enables, and every detail but that of a call. -/
def callsAside (a : Attention) : Attention :=
  { flags := a.flags ||| only (condBit .callChange), enables := a.enables, details := { a.details with call := none } }

theorem callsAside_raise (p : Fin 16) (why : EndReason) (s : State) :
    callsAside (raiseCallChange p why s).attention = callsAside s.attention := by
  simp only [callsAside, raiseCallChange, raise_flags, raise_enables, raise_details, BitVec.or_assoc, BitVec.or_self]

theorem callsAside_clearCalls (s : State) : callsAside (clearCalls s).attention = callsAside s.attention := by
  have pending := foldl_keeps (f := fun s (c : Call) => raiseCallChange c.preset .cleared s)
    (fun u => callsAside u.attention) (fun u c => callsAside_raise ..) s.relay.queue s
  unfold clearCalls
  dsimp only
  split
  · exact pending
  · exact (callsAside_raise ..).trans pending

theorem callsAside_flags {a b : Attention} (h : callsAside a = callsAside b) :
    a.flags ||| 0x1000#16 = b.flags ||| 0x1000#16 := congrArg Attention.flags h

theorem callsAside_enables {a b : Attention} (h : callsAside a = callsAside b) : a.enables = b.enables :=
  congrArg (fun c => c.enables) h

theorem callsAside_details {a b : Attention} (h : callsAside a = callsAside b) (x : Option (Fin 16 × EndReason)) :
    { a.details with call := x } = { b.details with call := x } := congrArg (fun c => { c.details with call := x }) h

/-- The active call is reported last. -/
theorem clearCalls_active {a : ActiveCall} (h : s.relay.active = some a) :
    (clearCalls s).attention.details.call = some (a.call.preset, .cleared) ∧
      (clearCalls s).attention.flags = s.attention.flags ||| 0x1000#16 := by
  have flags : (clearCalls s).attention.flags = (clearCalls s).attention.flags ||| 0x1000#16 := by
    rw [clearCalls, h]
    simp only [raiseCallChange, raise_flags]
    rw [BitVec.or_assoc]
    rfl
  refine ⟨by rw [clearCalls, h]; rfl, ?_⟩
  rw [flags, callsAside_flags (callsAside_clearCalls s)]

theorem onLink_iff (e : FadeEntry) : onLink e = true ↔ ∃ n, e.element = .link n := by
  rw [onLink]
  cases e.element <;> simp

end Sys2Proof.Machine

open Sys2Proof.Machine

/-- Settles O2, record by record. -/
theorem resetState : Obligations.ResetState := by
  unfold Obligations.ResetState
  refine ⟨reset_channel, reset_role, reset_group, rfl, rfl, reset_slot, rfl, rfl, rfl, rfl, rfl, rfl, rfl,
    ⟨rfl, rfl, rfl, rfl, rfl, rfl⟩, ⟨rfl, rfl, rfl, rfl, rfl, rfl⟩, ⟨rfl, rfl, rfl, rfl, rfl, rfl⟩, reset_mix, reset_talkback,
    reset_station, reset_preset, rfl, rfl, rfl, rfl, rfl, rfl, rfl, reset_monitor, Sys2Proof.Table.get_replicate _,
    Sys2Proof.Table.get_replicate _,
    rfl, fun n => ?_, fun n => ?_, rfl, rfl, rfl, rfl, rfl, rfl, rfl, rfl, rfl, rfl⟩
  · rw [reset_receiver]
    exact ⟨rfl, rfl, rfl, rfl, rfl, rfl, rfl⟩
  · rw [reset_output]
    exact ⟨rfl, rfl⟩

/-- Settles O3, law by law. -/
theorem lawsHoldAtReset : Obligations.LawsHoldAtReset := by
  refine ⟨⟨Nat.zero_le _, .nil⟩, ⟨Nat.zero_le _, .nil, nofun⟩, bindingLaw_reset, fun f => ?_, levelLaw_reset,
    ⟨Nat.zero_le _, .nil, fun n => ?_⟩, ⟨fun f => ?_, Nat.zero_le _, .nil⟩, Nat.zero_le _, ⟨nofun, nofun, fun k => ?_⟩,
    fun k => ?_, nofun, .nil, .nil⟩
  · rw [reset_mix]; exact Nat.zero_le _
  · rw [reset_station]; nofun
  · rw [reset_mix]; exact ⟨Nat.zero_le _, .nil⟩
  · rw [reset_slot]; nofun
  · rw [reset_slot]; exact ⟨rfl, fun _ => rfl⟩

/-- Settles O19: the calls are reported, the active one last, and then every show record is cleared. -/
theorem clearShowClears : Obligations.ClearShowClears := by
  unfold Obligations.ClearShowClears
  intro s h
  have calls := clearCalls_attention s
  have aside := callsAside_clearCalls s
  refine ⟨_, next_answered h rfl, rfl, rfl, rfl, rfl, ?_, fun e => ?_, ?_, callsAside_enables aside,
    fun a active => clearCalls_active active, fun active queue => ?_, callsAside_details aside _, ?_⟩
  · show ({ arrivals := (clearCalls s).relay.arrivals } : Relay) = _
    rw [calls]
    rfl
  · show e ∈ (clearCalls s).fades.filter onLink ↔ _
    rw [calls, List.mem_filter, onLink_iff]
  · show clearEngine (clearCalls s).engine = _
    rw [calls]
    rfl
  · show (clearCalls s).attention = s.attention
    rw [clearCalls, active, queue]
    rfl
  · show answered 4 [] (clearRecords (clearCalls s)) = _
    rw [calls]
    rfl

/-- Settles O20, by the details in bit order. -/
theorem attentionRequests : Obligations.AttentionRequests := by
  unfold Obligations.AttentionRequests
  intro m s h
  refine ⟨?_, next_answered h ?_, _, next_answered h (t := clearConditions m s) (fields := selectedFields m s) ?_, rfl, rfl, ?_, ?_⟩
  · rw [detailBytes_range]
    exact next_answered h rfl
  · rw [attentionEnable, maskOf_toNat]
    rfl
  · rw [attentionClear, maskOf_toNat]
    rfl
  · rfl
  · rw [detailBytes_selected]
    rfl

/-- Settles O22, by the three things a cause can do. -/
theorem proceduresRun : Obligations.ProceduresRun := by
  unfold Obligations.ProceduresRun
  refine ⟨fun c s => ⟨causeArrives c s, by cases c <;> rfl, ?_, causeArrives_abandons c, fun p => causeArrives_meets c⟩,
    fun p s h => ⟨⟨_, rfl, ?_, rfl⟩, fun c other => ⟨_, rfl, ?_, rfl⟩, fun high => ?_⟩⟩
  · have := marked_causeArrives c s
    cases c <;> exact this
  · show s.resets.procedure.map (endCause p.cause) = _
    rw [h, Option.map_some, endCause, if_pos rfl]
  · show s.resets.procedure.map (endCause c) = _
    rw [h, Option.map_some, endCause, if_neg other.symm]
  · show Host.Outcome.next { s with resets := { s.resets with procedure := s.resets.procedure.map (latchStrap high) } } = _
    rw [h, Option.map_some, latchStrap]
    simp only [Option.isNone_iff_eq_none]

/-- Settles O23: after the reset there is nothing to abandon, so that the procedure of a cause that is present begins on the
values after reset. -/
theorem resetProcedureEnds : Obligations.ResetProcedureEnds := by
  unfold Obligations.ResetProcedureEnds
  intro p s h
  have runs : exec .resetProcedureEnd s = .next (if p.ended then endProcedure p s else s) := by
    show Host.Outcome.next _ = _
    rw [h]
  refine ⟨fun no => ?_, fun ended => ?_⟩
  · rw [runs, no]
    rfl
  · rw [runs, ended, if_pos rfl, endProcedure, ← waitingProcedure]
    cases strap : p.strap with
    | some high =>
      simp only [startWaiting_stateAfterReset]
      exact ⟨high, _, rfl, leftByReset_stateAfterReset .., fun latched e => ⟨Option.some.inj e, rfl⟩, nofun, rfl⟩
    | none =>
      simp only [startWaiting_stateAfterReset]
      exact ⟨_, _, rfl, leftByReset_stateAfterReset p.cause _ s.readFree _, nofun, fun _ => ⟨rfl, rfl⟩, rfl⟩
end

section
/-! The cue list: what a store and a deletion make of the cues that are found (4.3, 4.4). -/

namespace Sys2Proof.Machine

variable {s t : State}

/-! ## The place of a number (R60, R66) -/

theorem find_insertCue (c : Cue) (l : List Cue) (n : Nat) : (insertCue c l).find? (fun d => d.number = n) =
    if c.number = n then some c else l.find? (fun d => d.number = n) := by
  induction l with
  | nil =>
    by_cases h : c.number = n <;> simp [insertCue, h]
  | cons x rest ih =>
    simp only [insertCue]
    split
    · by_cases h : c.number = n <;> simp [List.find?_cons, h]
    · split
      · rename_i same
        by_cases h : c.number = n
        · simp [h]
        · have other : x.number ≠ n := same ▸ h
          simp [h, other]
      · rename_i other
        by_cases h : x.number = n
        · have new : c.number ≠ n := fun e => other (e.trans h.symm)
          simp [h, new]
        · simp [h, ih]

/-- A number that no cue bears is not found. -/
theorem findCue_isSome {n : Nat} : (findCue n s).isSome = true ↔ n ∈ s.cues.cues.map (fun c => c.number) := by
  simp [findCue, List.find?_isSome]

/-! ## The least number above a range (R67, R71) -/

theorem nextAbove_least {n m : Nat} {l : List Cue} (ordered : (l.map (fun c => c.number)).Pairwise (· < ·))
    (h : nextAbove n l = some m) : ∀ c ∈ l, n < c.number → m ≤ c.number := by
  induction l with
  | nil => cases h
  | cons x rest ih =>
    rw [List.map_cons, List.pairwise_cons] at ordered
    obtain ⟨first, ordered⟩ := ordered
    intro c hc lt
    rw [nextAbove, List.find?_cons] at h
    split at h
    · cases h
      rcases List.mem_cons.1 hc with rfl | hc
      · exact Nat.le_refl _
      · exact Nat.le_of_lt (first c.number (List.mem_map_of_mem hc))
    · rename_i below
      rcases List.mem_cons.1 hc with rfl | hc
      · simp [lt] at below
      · exact ih ordered h c hc lt

theorem nextAbove_none {n : Nat} {l : List Cue} (h : nextAbove n l = none) : ∀ c ∈ l, c.number ≤ n := by
  intro c hc
  simpa using List.find?_eq_none.1 (Option.map_eq_none_iff.1 h) c hc

theorem mem_outsideRange {first last : Nat} {l : List Cue} {c : Cue} :
    c ∈ outsideRange first last l ↔ c ∈ l ∧ ¬ (first ≤ c.number ∧ c.number ≤ last) := by
  simp only [outsideRange, inRange, List.mem_filter, Bool.not_eq_true', decide_eq_false_iff_not]

theorem find_outsideRange (first last : Nat) (l : List Cue) (n : Nat) :
    (outsideRange first last l).find? (fun c => c.number = n) =
      if first ≤ n ∧ n ≤ last then none else l.find? (fun c => c.number = n) := by
  rw [outsideRange, List.find?_filter]
  split
  · rename_i inside
    refine List.find?_eq_none.2 fun c _ => ?_
    simp only [inRange, Bool.not_eq_true', decide_eq_false_iff_not, decide_eq_true_eq]
    rintro ⟨outside, rfl⟩
    exact outside inside
  · rename_i outside
    congr 1
    funext c
    by_cases h : c.number = n
    · simp [h, inRange, outside]
    · simp [h]

/-- Where standby stands when a deletion has taken its cue (R67). -/
theorem standbyAfter_inside {first last n : Nat} (l : List Cue) (h : first ≤ n) (h' : n ≤ last) :
    standbyAfter first last l (some n) = nextAbove last l := by
  simp [standbyAfter, inRange, h, h']

theorem standbyAfter_outside {first last n : Nat} (l : List Cue) (h : n < first ∨ last < n) :
    standbyAfter first last l (some n) = some n := by
  have : ¬ (first ≤ n ∧ n ≤ last) := by omega
  simp [standbyAfter, inRange, this]

/-! ## The requests -/

theorem cueStore_ok {raw : RawCue} {c : Cue} (index : cueIndexOk raw = true) (h : cueOf raw = some c)
    (room : (findCue c.number s).isSome = true ∨ s.cues.cues.length < Config.cuePlaces) :
    cueStore raw s = .ok (storeFields (findCue c.number s).isSome (insertCue c s.cues.cues) s,
      setCues (insertCue c s.cues.cues) s) := by
  simp only [cueStore, bind_ok, require_exists, need_ok, answer_ok]
  exact ⟨index, c, h, by simpa using room, rfl⟩

theorem cueStore_full {raw : RawCue} {c : Cue} (index : cueIndexOk raw = true) (h : cueOf raw = some c)
    (new : findCue c.number s = none) (full : Config.cuePlaces ≤ s.cues.cues.length) : cueStore raw s = .error .full := by
  have room : ((findCue c.number s).isSome || decide (s.cues.cues.length < Config.cuePlaces)) = false := by
    simp [new, full]
  simp only [cueStore, index, h, room, ok_bind, require_true, need_some, require_false, error_bind]

theorem cueDelete_ok {first last : Nat} (h1 : 1 ≤ first) (h2 : first ≤ last) (h3 : last ≤ 9999)
    (some : ∃ c ∈ s.cues.cues, first ≤ c.number ∧ c.number ≤ last) :
    let left := outsideRange first last s.cues.cues
    let standby := standbyAfter first last left s.cues.standby
    cueDelete first last s = .ok ([.two (s.cues.cues.length - left.length), .two left.length, .two (standby.getD 0)],
      { s with cues := { cues := left, standby := standby } }) := by
  have range : ∀ n, 1 ≤ n → n ≤ 9999 → cueNumberOk n = true := fun n lo hi => by simp [cueNumberOk, lo, hi]
  have any : s.cues.cues.any (fun c => inRange first last c.number) = true := by simpa [inRange] using some
  simp only [cueDelete, range first h1 (h2.trans h3), range last (h1.trans h2) h3, h2, any, Bool.and_self, decide_true, ok_bind,
    require_true]

end Sys2Proof.Machine

open Sys2Proof.Machine

/-- Settles O34: what is found in the list after the store. -/
theorem cueStoreStores : Obligations.CueStoreStores := by
  unfold Obligations.CueStoreStores
  intro raw c s h law index hc
  refine ⟨fun room => ?_, fun new full => next_refused h (cueStore_full index hc new full)⟩
  refine ⟨_, next_answered h (cueStore_ok index hc room), ?_, fun n other => ?_, rfl, ?_⟩
  · exact (find_insertCue c s.cues.cues c.number).trans (if_pos rfl)
  · exact (find_insertCue c s.cues.cues n).trans (if_neg other.symm)
  · simp only [storeFields, onOff]
    rfl

/-- Settles O35: what is found in the list after the deletion, and the least number above its range. -/
theorem cueDeleteDeletes : Obligations.CueDeleteDeletes := by
  unfold Obligations.CueDeleteDeletes
  intro first last s h law h1 h2 h3 some
  obtain ⟨-, ordered, -⟩ := law
  have left : ((outsideRange first last s.cues.cues).map (fun c => c.number)).Pairwise (· < ·) :=
    ordered.sublist (List.filter_sublist.map _)
  have above : ∀ c ∈ s.cues.cues, last < c.number → c ∈ outsideRange first last s.cues.cues := fun c hc lt =>
    mem_outsideRange.2 ⟨hc, by omega⟩
  refine ⟨_, next_answered h (cueDelete_ok h1 h2 h3 some), find_outsideRange first last s.cues.cues, fun n hn out => ?_,
    fun n m hn lo hi hm => ?_, fun n hn lo hi hm => ?_, fun hn => ?_, rfl⟩
  · show standbyAfter first last _ s.cues.standby = _
    rw [hn, standbyAfter_outside _ out]
  · have next : nextAbove last (outsideRange first last s.cues.cues) = Option.some m := by
      rw [← standbyAfter_inside (outsideRange first last s.cues.cues) lo hi, ← hn]
      exact hm
    obtain ⟨mem, lt⟩ := nextAbove_mem next
    exact ⟨lt, findCue_isSome.2 ((List.filter_sublist.map _).subset mem), fun c hc lt =>
      nextAbove_least left next c (above c hc lt) lt⟩
  · have none : nextAbove last (outsideRange first last s.cues.cues) = Option.none := by
      rw [← standbyAfter_inside (outsideRange first last s.cues.cues) lo hi, ← hn]
      exact hm
    intro c hc
    by_contra lt
    exact lt (nextAbove_none none c (above c hc (Nat.not_le.1 lt)))
  · show standbyAfter first last _ s.cues.standby = _
    rw [hn]
    rfl
end

section
/-! The Cue Engine's HOLD, safes, and show inputs (5.1, 5.6, 5.8). -/

namespace Sys2Proof.Machine

variable {G : Prop} {s t : State} {p : Part}

/-! ## What actions, fades and completions leave -/

/-- The records that no action of a cue, no fade and no completion writes. -/
def settings (s : State) : State :=
  { s with
    table := {}, fades := [], attention := {}, ending := {}
    engine := { s.engine with slots := Table.replicate 8 {}, triggers := [] }
    foldback := { s.foldback with mixes := Table.replicate 12 {} }
    relay := { presets := s.relay.presets }
    links := { s.links with receivers := Table.replicate 4 {} } }

/-- The parts that actions, fades and completions write. -/
def Part.acts : Part → Bool
  | .raised _ | .triggers | .skips _ | .slot _ | .fade _ _ | .complete _ _ | .write _ | .advance _ | .role | .release _ | .calls
  | .inCall | .ending => true
  | _ => false

theorem Change.settings (h : Change G p s t) (hp : p.acts = true) : settings t = settings s := by
  cases h with
  | fade | write | remove => simp [Machine.settings]
  | complete => simp [Machine.settings, completed]
  | advance => simp [Machine.settings, stepOn]
  | raised | triggers | skips | slot | free | role | release | calls | inCall | ending => rfl
  | _ => cases hp

/-- All that a fired GO does but for starting its slot (R81). -/
theorem firing_acts (h : p ∈ firing) (start : p ≠ .start) : p.acts = true := by
  rcases h with rfl | rfl | rfl | ⟨k, h | ⟨el, h⟩⟩
  · exact absurd rfl start
  · rfl
  · rfl
  · rcases h with ((rfl | rfl | rfl | ⟨n, rfl⟩) | rfl | rfl | rfl | rfl | rfl | ⟨el, rfl⟩) | rfl | ⟨j, rfl⟩ <;> rfl
  · rcases h with rfl | ⟨r, -, rfl | rfl⟩ <;> rfl

theorem start_not_taking (k : Fin 8) : .start ∉ taking k := by
  rintro (((h | h | h | ⟨n, h⟩) | h | h | h | h | h | ⟨el, h⟩) | h | ⟨j, h⟩) <;> cases h

theorem taking_acts {k : Fin 8} (h : p ∈ taking k) : p.acts = true :=
  firing_acts (taking_sub_firing k h) fun e => start_not_taking k (e ▸ h)

theorem settings_countSlots (s : State) : settings (countSlots s) = settings s :=
  (run_countSlots (G := True)).stands (g := settings) fun _ hp _ _ c => by
    obtain ⟨k, h⟩ := hp
    exact c.settings (taking_acts h)

/-! ## Changes of the fade table alone -/

/-- The state but for the fade table, the slots, and what completions raise. -/
def besidesFades (s : State) : State :=
  { s with fades := [], engine := { s.engine with slots := Table.replicate 8 {} }, attention := {} }

theorem besidesFades_engine (h : besidesFades t = besidesFades s) :
    { t.engine with slots := s.engine.slots } = s.engine :=
  congrArg (fun u => { u.engine with slots := s.engine.slots }) h

theorem besidesFades_removeEntry (el : Element) (s : State) : besidesFades (removeEntry el s) = besidesFades s := by
  simp [besidesFades]

theorem besidesFades_settleAll (s : State) : besidesFades (settleAll s) = besidesFades s := by
  simp [besidesFades]

/-! ## SAFE_SET (R49, R92) -/

theorem besidesFades_removeCueEntry (el : Element) (s : State) : besidesFades (removeCueEntry el s) = besidesFades s := by
  rcases removeCueEntry_cases el s with ⟨-, e⟩ | ⟨_, _, -, -, e⟩ <;> rw [e]
  exact besidesFades_removeEntry ..

theorem value_removeCueEntry (el x : Element) (s : State) : (removeCueEntry el s).value? x = s.value? x := by
  rcases removeCueEntry_cases el s with ⟨-, e⟩ | ⟨_, _, -, -, e⟩ <;> rw [e]
  exact value_removeEntry ..

/-- The entry that a removal of a CUE entry takes is the one on the element, if it is a cue's. -/
theorem mem_removeCueEntry (law : fadeLaw s) (el : Element) (e : FadeEntry) :
    e ∈ (removeCueEntry el s).fades ↔ e ∈ s.fades ∧ ¬ ((∃ k, e.owner = .cue k) ∧ e.element = el) := by
  rcases removeCueEntry_cases el s with ⟨none, eq⟩ | ⟨x, k, found, owner, eq⟩ <;> rw [eq]
  · refine ⟨fun h => ⟨h, ?_⟩, fun h => h.1⟩
    rintro ⟨⟨k, owner⟩, rfl⟩
    exact none e (entry_of_mem law h) k owner
  · rw [removeEntry_fades, List.mem_filter]
    refine and_congr_right fun h => ?_
    simp only [ne_eq, decide_eq_true_eq]
    refine not_congr ⟨?_, fun h => h.2⟩
    rintro rfl
    have same := entry_of_mem law h
    rw [found] at same
    cases same
    exact ⟨⟨k, owner⟩, rfl⟩

theorem fadeLaw_removeCueEntry (law : fadeLaw s) (el : Element) : fadeLaw (removeCueEntry el s) :=
  (run_removeCueEntry el (G := True)).fadeLaw law

theorem mem_removeCueEntries (law : fadeLaw s) (l : List Element) (e : FadeEntry) :
    e ∈ (l.foldl (fun s el => removeCueEntry el s) s).fades ↔ e ∈ s.fades ∧ ¬ ((∃ k, e.owner = .cue k) ∧ e.element ∈ l) := by
  induction l generalizing s with
  | nil => simp
  | cons el l ih =>
    rw [List.foldl_cons, ih (fadeLaw_removeCueEntry law el), mem_removeCueEntry law]
    simp only [List.mem_cons]
    tauto

/-- The CUE entries on newly covered elements leave the table (R49, R92). -/
theorem mem_setSafes (law : fadeLaw s) (after : BitVec 125) (e : FadeEntry) :
    e ∈ (setSafes after s).fades ↔
      e ∈ s.fades ∧ ¬ ((∃ k, e.owner = .cue k) ∧ newlySafe s.engine.safes after e.element = true) := by
  have law' : fadeLaw (s.modEngine (fun x => { x with safes := after })) := law
  rw [setSafes, settleAll_fades, dropSafeEntries, mem_removeCueEntries law', List.mem_filter]
  refine and_congr_right fun h => not_congr (and_congr_right fun _ => and_iff_right (List.mem_map_of_mem h))

theorem besidesFades_setSafes (after : BitVec 125) (s : State) :
    besidesFades (setSafes after s) = besidesFades (s.modEngine (fun x => { x with safes := after })) := by
  rw [setSafes, besidesFades_settleAll]
  exact foldl_keeps besidesFades (fun u el => besidesFades_removeCueEntry el u) _ _

theorem value_setSafes (after : BitVec 125) (s : State) (el : Element) : (setSafes after s).value? el = s.value? el := by
  rw [setSafes, value_settleAll]
  exact foldl_keeps (fun u => u.value? el) (fun u x => value_removeCueEntry x el u) _ _

theorem setSafes_safes (after : BitVec 125) (s : State) : (setSafes after s).engine.safes = after := by
  have engine := besidesFades_engine (besidesFades_setSafes after s)
  rw [CueEngine.mk.injEq] at engine
  exact engine.2.2.2.2.2.1

/-- The answer leaves all but the fade table, the slots, the flags and what completions raise. -/
theorem answered_safes {u : State} {after : BitVec 125} (code : Nat) (fields : List Field)
    (h : besidesFades u = besidesFades (s.modEngine (fun x => { x with safes := after }))) :
    let t := answered code fields u
    t = { s with
      fades := t.fades, engine := { s.engine with slots := t.engine.slots, safes := t.engine.safes },
      attention := t.attention, port := t.port } :=
  congrArg (fun x => { x with
    fades := u.fades, engine := { x.engine with slots := u.engine.slots, safes := u.engine.safes },
    attention := u.attention, port := (answered code fields u).port }) h

theorem safeSet_ok (sel val : BitVec 125) (s : State) : safeSet sel.toNat val.toNat s =
    .ok ([.set 16 ((s.engine.safes &&& ~~~sel) ||| (val &&& sel)).toNat],
      setSafes ((s.engine.safes &&& ~~~sel) ||| (val &&& sel)) s) := by
  simp only [safeSet, maskOf_toNat, ok_bind]

/-- A selected flag takes its value, and another stands. -/
theorem inSet_selected {n : Nat} (old sel val : BitVec n) (i : Fin n) :
    inSet ((old &&& ~~~sel) ||| (val &&& sel)) i = if inSet sel i then inSet val i else inSet old i := by
  have bits : inSet ((old &&& ~~~sel) ||| (val &&& sel)) i = (inSet old i && !inSet sel i || inSet val i && inSet sel i) := by
    simp only [inSet, BitVec.getLsbD_or, BitVec.getLsbD_and, BitVec.getLsbD_not, i.isLt, decide_true, Bool.true_and]
  rw [bits]
  cases inSet sel i <;> simp

/-! ## Edges (R76, R80, R97) -/

theorem takeHold_held (h : s.engine.hold = true) : takeHold s = s := by simp [takeHold, h]

theorem takeHold_free (h : s.engine.hold = false) :
    takeHold s = raiseHoldChange true (s.modEngine (fun x => { x with hold := true })) := by simp [takeHold, h]

theorem releaseHold_free (h : s.engine.hold = false) : releaseHold s = s := by simp [releaseHold, h]

theorem releaseHold_held (h : s.engine.hold = true) :
    releaseHold s = raiseHoldChange false (s.modEngine (fun x => { x with hold := false })) := by simp [releaseHold, h]

theorem holdPress_acts {e : Edge} (h : edgeActs s.engine.holdInput e = true) :
    holdPress e s = takeHold (s.modEngine (fun x => { x with holdInput := acceptEdge e x.holdInput })) := by
  have acts : edgeActs (acceptEdge e s.engine.holdInput) e = true := h
  simp only [holdPress, holdEdge, modEngine_engine, acts, if_true]

theorem holdPress_idle {e : Edge} (h : edgeActs s.engine.holdInput e = false) :
    holdPress e s = s.modEngine (fun x => { x with holdInput := acceptEdge e x.holdInput }) := by
  have acts : edgeActs (acceptEdge e s.engine.holdInput) e = false := h
  simp only [holdPress, holdEdge, modEngine_engine, acts, Bool.false_eq_true, if_false]

theorem goPress_acts {e : Edge} (h : edgeActs s.engine.goInput e = true) :
    goPress e s = goUnasked .line (s.modEngine (fun x => { x with goInput := acceptEdge e x.goInput })) := by
  have acts : edgeActs (acceptEdge e s.engine.goInput) e = true := h
  simp only [goPress, goEdge, modEngine_engine, acts, if_true]

theorem goPress_idle {e : Edge} (h : edgeActs s.engine.goInput e = false) :
    goPress e s = s.modEngine (fun x => { x with goInput := acceptEdge e x.goInput }) := by
  have acts : edgeActs (acceptEdge e s.engine.goInput) e = false := h
  simp only [goPress, goEdge, modEngine_engine, acts, Bool.false_eq_true, if_false]

theorem callKey_idle {e : Edge} (h : edgeActs s.engine.callInput e = false) :
    callKey e s = s.modEngine (fun x => { x with callInput := acceptEdge e x.callInput }) := by
  have acts : edgeActs (acceptEdge e s.engine.callInput) e = false := h
  simp only [callKey, callEdge, modEngine_engine, acts, Bool.false_eq_true, if_false]

/-! ## A GO that is turned away (R80) -/

theorem standbyCue_end (h : s.cues.standby = none) : standbyCue s = none := by simp [standbyCue, h]

theorem goEvent_held (src : GoSource) (h : s.engine.hold = true) : goEvent src s = .error .held := by simp [goEvent, h]

theorem goEvent_end (src : GoSource) (h : s.engine.hold = false) (none : standbyCue s = none) :
    goEvent src s = .error .ended := by simp [goEvent, h, none]

theorem goEvent_fires {cue : Cue} (src : GoSource) (h : s.engine.hold = false) (standby : standbyCue s = some cue) :
    goEvent src s = .ok (fireGo src cue s) := by simp [goEvent, h, standby]

theorem goUnasked_held (src : GoSource) (h : s.engine.hold = true) : goUnasked src s = raiseGoIgnored .held s := by
  rw [goUnasked, goEvent_held src h]

theorem goUnasked_end (src : GoSource) (h : s.engine.hold = false) (none : standbyCue s = none) :
    goUnasked src s = raiseGoIgnored .ended s := by
  rw [goUnasked, goEvent_end src h none]

theorem goRequest_held (h : s.engine.hold = true) : goRequest s = .error .held := by
  rw [goRequest, goEvent_held .port h]
  rfl

theorem goRequest_end (h : s.engine.hold = false) (none : standbyCue s = none) : goRequest s = .error .endOfList := by
  rw [goRequest, goEvent_end .port h none]
  rfl

/-! ## The follow compare (R94, R95) -/

/-- The compare reaches its time at the end that counts. -/
theorem countTimer_reached {time : Nat} (hold : s.engine.hold = false) (armed : s.engine.follow = some time)
    (reached : max time 1 ≤ s.engine.timer + 1) (below : s.engine.timer < Config.timerTop) :
    countTimer s = fireFollow (s.modEngine (fun x => { x with timer := x.timer + 1 })) := by
  have counts : min (s.engine.timer + 1) Config.timerTop = s.engine.timer + 1 := Nat.min_eq_left below
  simp only [countTimer, hold, modEngine_engine, armed, counts, followReached_some reached, if_true, Bool.false_eq_true,
    if_false]
  simp only [State.modEngine, counts]

theorem followGo_reached {time : Nat} (hold : s.engine.hold = false) (counted : s.ending.counted = false)
    (armed : s.engine.follow = some time) (reached : max time 1 ≤ s.engine.timer + 1) :
    followGo s = takeCounts (beginBlock .cue s) := by
  simp [followGo, hold, counted, armed, followReached_some reached]

/-- Stages 1 and 2 at an end where the compare reaches its time with standby at END: the compare disarms (R95). -/
theorem takeCounts_end {time : Nat} (hold : s.engine.hold = false) (armed : s.engine.follow = some time)
    (reached : max time 1 ≤ s.engine.timer + 1) (below : s.engine.timer < Config.timerTop) (none : s.cues.standby = none) :
    let u := countSlots s
    takeCounts s = { u with
      engine := { u.engine with timer := s.engine.timer + 1, follow := Option.none }
      attention := { u.attention with
        flags := u.attention.flags ||| 0x400#16
        details := { u.attention.details with ignored := some .ended } }
      ending := { u.ending with counted := true } } := by
  obtain ⟨cues, timer, follow, held⟩ := followView_eq_iff.1 (followView_countSlots s)
  have fires := countTimer_reached (s := countSlots s) (by rw [held, hold]) (by rw [follow, armed]) (by rwa [timer]) (by rwa [timer])
  rw [takeCounts, fires]
  unfold fireFollow
  rw [goUnasked_end .follow (by rw [modEngine_engine, modEngine_engine, held, hold])
    (standbyCue_end (by rw [modEngine_cues, modEngine_cues, cues, none])), ← timer]
  rfl

end Sys2Proof.Machine

open Sys2Proof.Machine

/-- Settles O39: a GO that is turned away, by the host, the follow compare and the line. -/
theorem goTurnedAway : Obligations.GoTurnedAway := by
  unfold Obligations.GoTurnedAway
  intro e s
  refine ⟨fun h held => next_refused h (goRequest_held held),
    fun h free none => next_refused h (goRequest_end free (standbyCue_end none)),
    fun time parts counted free armed reached below none => ?_, fun takes => lineEdge_ok takes, fun acts turned => ?_⟩
  · refine ⟨?_, ?_, ?_, ?_⟩
    · show exec .followGo s = _
      rw [exec_followGo, blockPart_ok parts, followGo_reached free counted armed reached,
        takeCounts_end (s := beginBlock .cue s) free armed reached below none]
      rfl
    · exact congrArg (fun u => u.cues) (settings_countSlots (beginBlock .cue s))
    · exact congrArg (fun u => u.engine.serial) (settings_countSlots (beginBlock .cue s))
    · exact congrArg (fun u => u.engine.lastInterval) (settings_countSlots (beginBlock .cue s))
  · refine ⟨_, rfl, ?_⟩
    rw [goPress_acts acts]
    by_cases held : s.engine.hold = true
    · have ignored := goUnasked_held (s := s.modEngine (fun x => { x with goInput := acceptEdge e x.goInput })) .line held
      rw [ignored, if_pos held]
      exact ⟨rfl, rfl, rfl⟩
    · have ignored := goUnasked_end (s := s.modEngine (fun x => { x with goInput := acceptEdge e x.goInput })) .line
        (Bool.eq_false_iff.2 held) (standbyCue_end (turned.resolve_left held))
      rw [ignored, if_neg held]
      exact ⟨rfl, rfl, rfl⟩

/-- Settles O40: what HOLD and RESUME find, and the edge of HOLD_N. -/
theorem holdAndResume : Obligations.HoldAndResume := by
  unfold Obligations.HoldAndResume
  intro e s
  refine ⟨fun h held => next_answered h ?_, fun h free => next_answered h ?_, fun h free => ?_, fun h held => ?_,
    fun takes => lineEdge_ok takes, fun free acts => ?_, fun held acts => ?_, rfl, fun h => ⟨_, next_answered h rfl, ?_⟩⟩
  · rw [takeHold_held held]
  · rw [releaseHold_free free]
  · exact next_answered h (congrArg (fun u => Except.ok ([], u)) (takeHold_free free))
  · exact next_answered h (congrArg (fun u => Except.ok ([], u)) (releaseHold_held held))
  · rw [holdPress_acts acts, takeHold_free (by exact free)]
    rfl
  · rw [holdPress_acts acts, takeHold_held (by exact held)]
    rfl
  · show (clearCalls s).engine.hold = _
    rw [clearCalls_attention]

/-- Settles O41: the entries that leave are those of cues on the newly covered elements. -/
theorem safeSetWrites : Obligations.SafeSetWrites := by
  unfold Obligations.SafeSetWrites
  intro sel val s h law
  obtain ⟨after, hafter⟩ : ∃ x, x = (s.engine.safes &&& ~~~sel) ||| (val &&& sel) := ⟨_, rfl⟩
  have ok := safeSet_ok sel val s
  have safes := setSafes_safes after s
  have mem := mem_setSafes law after
  have values := value_setSafes after s
  have aside := besidesFades_setSafes after s
  rw [← hafter] at ok
  generalize setSafes after s = u at *
  refine ⟨_, next_answered h ok, fun i => ?_, fun e => ?_, fun el => (value_answered ..).trans (values el), ?_,
    answered_safes _ _ aside⟩
  · show inSet u.engine.safes i = _
    rw [safes, hafter, inSet_selected]
  · show e ∈ u.fades ↔ _ ∧ ¬ (_ ∧ newlySafe _ u.engine.safes _ = true)
    rw [safes, mem]
  · show PortResponse.ready _ = .ready ⟨.ok, 28, [.set 16 u.engine.safes.toNat]⟩
    rw [safes]
end

section
/-! What the end of an interval leaves, and how far each block's part brings it (R82, R148). -/

namespace Sys2Proof.Machine

variable {G : Prop} {K : Set Part} {s t : State} {p : Part}

/-! ## The records that no part of an end writes -/

def besidesEnd (s : State) : State :=
  { s with
    table := { groups := s.table.groups.map (fun x => { x with level := 0 }) }
    mixer := {}, fades := [], cues := { cues := s.cues.cues }, engine := { safes := s.engine.safes }
    foldback := { talkbacks := s.foldback.talkbacks }, relay := { presets := s.relay.presets }, monitors := Table.replicate 16 {}
    links := { s.links with receivers := Table.replicate 4 {} }, attention := {}, ending := {} }

/-- The parts that an end writes. -/
def Part.ofEnd : Part → Bool
  | .raised _ | .ending | .mixer | .monitors | .inputs | .counters | .hold | .triggers | .skips _ | .slot _ | .start
  | .fade _ _ | .complete _ _ | .write _ | .advance _ | .channel | .role | .release _ | .protect | .relay | .calls
  | .inCall => true
  | _ => false

/-- A write of an element leaves the labels of the groups. -/
theorem groups_modify_level (t : Table Group 16) (g : Fin 16) (z : Int) :
    (t.modify g (fun x => { x with level := z })).map (fun x => { x with level := 0 }) =
      t.map (fun x => { x with level := 0 }) := by
  refine Table.ext_get fun i => ?_
  rw [Table.get_map, Table.get_map, Table.get_modify]
  split <;> rfl

theorem besidesEnd_write (el : Element) (z : Int) (s : State) : besidesEnd (s.write el z) = besidesEnd s := by
  cases el with
  | group g =>
    simp only [besidesEnd, State.write, State.modGroup, groups_modify_level]
  | _ => rfl

theorem besidesEnd_removeEntry (el : Element) (s : State) : besidesEnd (removeEntry el s) = besidesEnd s := by
  simp [besidesEnd]

theorem besidesEnd_fadeRequest (el : Element) (z : Int) (d : Nat) (o : FadeOwner) (s : State) :
    besidesEnd (fadeRequest el z d o s).2 = besidesEnd s := by
  rcases fadeRequest_spec el z d o s with ⟨-, e⟩ | ⟨cur, -, ⟨-, e⟩ | ⟨-, -, ⟨old, -, e⟩ | ⟨-, -, e⟩ | ⟨-, -, e⟩⟩⟩ <;> rw [e]
  · rw [directWrite, besidesEnd_write, besidesEnd_removeEntry]
  · simp [besidesEnd]
  · simp [besidesEnd]
  · rw [snapTo]
    show besidesEnd (directWrite el _ s) = _
    rw [directWrite, besidesEnd_write, besidesEnd_removeEntry]

theorem besidesEnd_lossReport (o : FadeOwner) (s : State) : besidesEnd (lossReport o s) = besidesEnd s := by
  simp [besidesEnd]

theorem Change.besidesEnd (h : Change G p s t) (hp : p.ofEnd = true) : besidesEnd t = besidesEnd s := by
  cases h with
  | fade => exact besidesEnd_fadeRequest ..
  | write => rw [directWrite, besidesEnd_write, besidesEnd_removeEntry]
  | remove => exact besidesEnd_removeEntry ..
  | complete => rw [completed, besidesEnd_lossReport, besidesEnd_write]; rfl
  | advance => rw [stepOn, besidesEnd_write]; rfl
  | release => simp [Machine.besidesEnd]
  | raised | ending | mixer | monitors | inputs | counters | hold | triggers | skips | slot | free | start | channel | role
  | protect | relay | calls | inCall => rfl
  | _ => cases hp

theorem fadesEnd_ofEnd (h : p ∈ fadesEnd) : p.ofEnd = true := by
  rcases h with ⟨el, rfl | ⟨o, rfl | ⟨r, -, rfl | rfl⟩⟩⟩ | rfl | ⟨j, rfl⟩ <;> rfl

theorem limiting_ofEnd (h : p ∈ limiting) : p.ofEnd = true := by rcases h with rfl | rfl <;> rfl

theorem monitoring_ofEnd (h : p ∈ monitoring) : p.ofEnd = true := by rcases h with rfl | rfl | rfl | rfl <;> rfl

theorem calling_ofEnd (h : p ∈ calling) : p.ofEnd = true := by rcases h with rfl | rfl | rfl | ⟨n, rfl⟩ <;> rfl

theorem taking_ofEnd {k : Fin 8} (h : p ∈ taking k) : p.ofEnd = true := by
  rcases h with (h | rfl | rfl | rfl | rfl | rfl | ⟨el, rfl⟩) | rfl | ⟨j, rfl⟩
  · exact calling_ofEnd h
  all_goals rfl

theorem firing_ofEnd (h : p ∈ firing) : p.ofEnd = true := by
  rcases h with rfl | rfl | rfl | ⟨k, h | ⟨el, rfl | ⟨r, -, rfl | rfl⟩⟩⟩
  any_goals rfl
  exact taking_ofEnd h

theorem going_ofEnd (h : p ∈ going) : p.ofEnd = true := by
  rcases h with rfl | h
  · rfl
  · exact firing_ofEnd h

theorem counting_ofEnd (h : p ∈ counting) : p.ofEnd = true := by
  rcases h with rfl | h
  · rfl
  · exact going_ofEnd h

theorem sampling_ofEnd (h : p ∈ sampling) : p.ofEnd = true := by
  rcases h with rfl | h | (rfl | rfl) | h
  any_goals rfl
  · exact calling_ofEnd h
  · exact going_ofEnd h

theorem ends_ofEnd (h : p ∈ ends) : p.ofEnd = true := by
  rcases h with rfl | rfl | h | h | h | h | h | h
  · rfl
  · rfl
  · exact fadesEnd_ofEnd h
  · exact limiting_ofEnd h
  · exact monitoring_ofEnd h
  · exact calling_ofEnd h
  · exact counting_ofEnd h
  · exact sampling_ofEnd h

/-- The run of an end leaves these records. -/
theorem Run.besidesEnd (h : Run G ends s t) : Machine.besidesEnd t = Machine.besidesEnd s :=
  h.stands fun _ hp _ _ c => c.besidesEnd (ends_ofEnd hp)

theorem besidesEnd_inReset (h : besidesEnd t = besidesEnd s) : t.inReset = s.inReset :=
  congrArg (fun u => u.inReset) h

theorem besidesEnd_paused (h : besidesEnd t = besidesEnd s) : paused t = paused s := by
  show paused (besidesEnd t) = paused (besidesEnd s)
  rw [h]

/-! ## The peaks (R37, R38) -/

/-- The part that writes the samples, the largest magnitudes and the peaks. -/
def Part.measures : Part → Bool
  | .mixer | .reset => true
  | _ => false

theorem Change.mixer_stands (h : Change G p s t) (hp : p.measures = false) : t.mixer = s.mixer := by
  cases h with
  | mixer | reset => cases hp
  | fade | write | remove => simp
  | complete => simp [completed]
  | advance => simp [stepOn]
  | _ => rfl

theorem takePeaks_of (h : s.ending.measured = true) : takePeaks s = s := by simp [takePeaks, h]

theorem takePeaks_measured (s : State) : (takePeaks s).ending.measured = true := by
  unfold takePeaks
  split
  · assumption
  · rfl

/-! ## How far an end is taken (R148) -/

/-- The parts that say how far an end is taken. -/
def Part.timing : Part → Bool
  | .ending | .reset => true
  | _ => false

theorem fadeRequest_fresh (el : Element) (z : Int) (d : Nat) (o : FadeOwner) (s : State) :
    (fadeRequest el z d o s).2.ending = { s.ending with fresh := (fadeRequest el z d o s).2.ending.fresh } := by
  rcases fadeRequest_spec el z d o s with ⟨-, e⟩ | ⟨cur, -, ⟨-, e⟩ | ⟨-, -, ⟨old, -, e⟩ | ⟨-, -, e⟩ | ⟨-, -, e⟩⟩⟩ <;> rw [e]
  · simp
  · rw [replaceEntry_ending]; split <;> rfl
  · rw [newEntry_ending]; split <;> rfl
  · simp

/-- A fade that starts while an end is due is noted as a fade of the interval that follows, and nothing else changes of how far
the end is taken (R47). -/
theorem Change.ending_stands (h : Change G p s t) (hp : p.timing = false) :
    t.ending = { s.ending with fresh := t.ending.fresh } := by
  cases h with
  | ending | reset => cases hp
  | fade => exact fadeRequest_fresh ..
  | write | remove => simp
  | complete => simp [completed]
  | advance => simp [stepOn]
  | _ => rfl

/-- Where a run says nothing of how far the end is taken, only fades that start are noted (R47). -/
theorem Run.ending_stands (h : Run G K s t) (timing : ∀ p ∈ K, p.timing = false) :
    t.ending = { s.ending with fresh := t.ending.fresh } :=
  h.keeps (P := fun u => u.ending = { s.ending with fresh := u.ending.fresh })
    (fun p hp a b c ha => by rw [c.ending_stands (timing p hp), ha]) rfl

theorem fadesEnd_timing (h : p ∈ fadesEnd) : p.timing = false := by
  rcases h with ⟨el, rfl | ⟨o, rfl | ⟨r, -, rfl | rfl⟩⟩⟩ | rfl | ⟨j, rfl⟩ <;> rfl

theorem monitoring_timing (h : p ∈ monitoring) : p.timing = false := by rcases h with rfl | rfl | rfl | rfl <;> rfl

theorem calling_timing (h : p ∈ calling) : p.timing = false := by rcases h with rfl | rfl | rfl | ⟨n, rfl⟩ <;> rfl

theorem taking_timing {k : Fin 8} (h : p ∈ taking k) : p.timing = false := by
  rcases h with (h | rfl | rfl | rfl | rfl | rfl | ⟨el, rfl⟩) | rfl | ⟨j, rfl⟩
  · exact calling_timing h
  all_goals rfl

theorem firing_timing (h : p ∈ firing) : p.timing = false := by
  rcases h with rfl | rfl | rfl | ⟨k, h | ⟨el, rfl | ⟨r, -, rfl | rfl⟩⟩⟩
  any_goals rfl
  exact taking_timing h

theorem going_timing (h : p ∈ going) : p.timing = false := by
  rcases h with rfl | h
  · rfl
  · exact firing_timing h

theorem counting_timing (h : p ∈ counting) : p.timing = false := by
  rcases h with rfl | h
  · rfl
  · exact going_timing h

theorem sampling_timing (h : p ∈ sampling) : p.timing = false := by
  rcases h with rfl | h | (rfl | rfl) | h
  any_goals rfl
  · exact calling_timing h
  · exact going_timing h

theorem stepFades_ending (s : State) : (stepFades s).ending = { s.ending with fresh := (stepFades s).ending.fresh } :=
  (run_stepFades (G := False)).ending_stands fun _ => fadesEnd_timing

theorem stepMonitors_ending (s : State) :
    (stepMonitors s).ending = { s.ending with fresh := (stepMonitors s).ending.fresh } :=
  (run_stepMonitors (G := False)).ending_stands fun _ => monitoring_timing

theorem countCall_ending (s : State) : (countCall s).ending = { s.ending with fresh := (countCall s).ending.fresh } :=
  (run_countCall (G := False)).ending_stands fun _ => calling_timing

/-- Stages 1 and 2 are counted at one end once (R82). -/
theorem takeCounts_ending (s : State) :
    (takeCounts s).ending = { s.ending with fresh := (takeCounts s).ending.fresh, counted := true } := by
  have slots := (run_countSlots (G := False) (s := s)).ending_stands fun _ hp => by
    obtain ⟨k, h⟩ := hp
    exact taking_timing h
  have timer := (run_countTimer (G := False) (s := countSlots s) nofun).ending_stands fun _ => counting_timing
  rw [takeCounts, modEnding_ending, timer, slots]

theorem linesLeft_ending (l : Sampled) (s : State) :
    (linesLeft l s).ending = { s.ending with fresh := (linesLeft l s).ending.fresh } := by
  have hold : ∀ u : State, (sampleHold u).ending = { u.ending with fresh := (sampleHold u).ending.fresh } := fun u =>
    ((run_sampleHold (G := False) (s := u))).ending_stands fun _ => sampling_timing
  have go : ∀ u : State, (sampleGo u).ending = { u.ending with fresh := (sampleGo u).ending.fresh } := fun u =>
    (run_sampleGo (G := False) (s := u) nofun).ending_stands fun _ => sampling_timing
  have call : ∀ u : State, (sampleCall u).ending = { u.ending with fresh := (sampleCall u).ending.fresh } := fun u =>
    (run_sampleCall (G := False) (s := u)).ending_stands fun _ => sampling_timing
  cases l with
  | none => rw [linesLeft, sampleInputs, call, go, hold]
  | hold => rw [linesLeft, call, go]
  | go => rw [linesLeft, call]
  | all => rfl

/-- The end that a block finishes its part of is still due. -/
theorem finishBlock_due (b : EndBlock) (s : State) : (finishBlock b s).ending.due = s.ending.due := by
  cases b with
  | fades =>
    simp only [finishBlock, finishFades]
    split
    · rfl
    · rw [modEnding_ending, stepFades_ending]
  | monitors => rw [finishBlock, finishMonitors, modEnding_ending, stepMonitors_ending]
  | relay =>
    simp only [finishBlock, finishRelay]
    split
    · rfl
    · rw [modEnding_ending, countCall_ending]
  | cue =>
    simp only [finishBlock, finishCue]
    split
    · rfl
    · rw [modEnding_ending, linesLeft_ending]
      simp only [cueCounts]
      split
      · rfl
      · rw [takeCounts_ending]

theorem takePeaks_due (s : State) : (takePeaks s).ending.due = s.ending.due := by
  unfold takePeaks
  split <;> rfl

theorem finishOpen_due (s : State) : (finishOpen s).ending.due = s.ending.due := by
  rcases finishOpen_cases s with ⟨-, e⟩ | ⟨b, -, e⟩ <;> rw [e]
  rw [modEnding_ending, finishBlock_due, takePeaks_due]

theorem meetBlock_due (b : EndBlock) (s : State) : (meetBlock b s).ending.due = s.ending.due := by
  rcases meetBlock_cases b s with ⟨-, e⟩ | ⟨-, e⟩ <;> rw [e]
  exact finishOpen_due s

theorem besidesEnd_meetBlock (b : EndBlock) (s : State) : besidesEnd (meetBlock b s) = besidesEnd s :=
  (run_meetBlock (G := False) b nofun).besidesEnd

/-! ## CONTROL_INTERVAL_END (R147, R148) -/

theorem exec_controlIntervalEnd {g h c : Option Line} (live : s.inReset = false) (due : s.ending.due = true)
    (runs : paused s = false) : exec (.controlIntervalEnd g h c) s = .next (intervalEnd g h c s) := by
  show outsideReset (controlEnd g h c) s = _
  rw [outsideReset_ok live, controlEnd, endOpen, due, runs]
  rfl

theorem exec_controlIntervalEnd_none {g h c : Option Line} (live : s.inReset = false)
    (none : s.ending.due = false ∨ paused s = true) :
    exec (.controlIntervalEnd g h c) s = .next (moveLines g h c s) := by
  show outsideReset (controlEnd g h c) s = _
  have shut : endOpen s = false := by rcases none with h | h <;> simp [endOpen, h]
  rw [outsideReset_ok live, controlEnd, shut]
  rfl

end Sys2Proof.Machine
end

section
/-! The layouts of the reads' answers (10.3). -/

namespace Sys2Proof.Machine

variable {s t : State}

/-! ## One field at a time (R164) -/

theorem coverNum_eq (x : Cover) : coverNum x = coverNumber x := by cases x <;> rfl

theorem onOff_decide (P : Prop) [Decidable P] : onOff (decide P) = .byte (if P then 1 else 0) := by
  by_cases h : P <;> simp [onOff, h]

theorem indexByte_eq {n : Nat} (i : Option (Fin n)) : indexByte i = .byte (optNum i) := by cases i <;> rfl

theorem sourceBytes_eq (src : Source) : sourceBytes src = [.byte (sourceKind src), .byte (sourceIndex src)] := by
  cases src <;> rfl

theorem relaySourceBytes_eq (src : RelaySource) :
    relaySourceBytes src = [.byte (relaySourceKind src), .byte (relaySourceIndex src)] := by
  cases src <;> rfl

theorem addressBytes_eq : addressBytes = addrFields := by
  funext el
  cases el with
  | send f src => cases src <;> rfl
  | relaySend src => cases src <;> rfl
  | _ => rfl

theorem kindByte_eq (b : ActionBody) : kindByte b = .byte (bodyKind b) := by cases b <;> rfl

theorem bodyBytes_eq (b : ActionBody) : bodyBytes b = bodyFields b := by
  cases b with
  | member r g => rw [bodyBytes, indexByte_eq]; rfl
  | level el z time => rw [bodyBytes, addressBytes_eq]; rfl
  | _ => rfl

theorem linkStateByte_eq (x : LinkState) : linkStateByte x = .byte (linkStateNum x) := by cases x <;> rfl

theorem classByte_eq (e : Option FadeEntry) : classByte e = .byte (classNum e) := by
  cases e with
  | none => rfl
  | some e =>
    obtain ⟨_, o, _⟩ := e
    cases o <;> rfl

theorem inputBytes_eq (i : ShowInput) : inputBytes i = inputFields i := by
  obtain ⟨_, accepted, _, _, _, _, edge⟩ := i
  cases accepted <;> cases edge <;> rfl

theorem pointBytes_eq (p : Point) : pointBytes p = pointFields p := by cases p <;> rfl

theorem callBytes_eq : callBytes = callFields := by
  funext c
  obtain ⟨_, origin, _, priority⟩ := c
  cases origin <;> cases priority <;> rfl

theorem talkbackBytes_eq (x : Talkback) : talkbackBytes x = talkbackFields x := by
  rw [talkbackBytes, indexByte_eq]
  rfl

theorem depthAsked_eq (f : Fin 12) (s : State) : depthAsked f s = requiredDepth f s := by
  simp only [depthAsked, requiredDepth, depthOn, Bool.and_eq_true]

theorem slotByte_eq (x : SlotSource) : slotByte x = .byte (slotSourceNum x) := by
  cases x <;> simp [slotByte, slotSourceNum, num] <;> omega

/-! ## Points (R164) -/

theorem pointIndexOk_pointAddr (p : Point) : pointIndexOk (pointAddr p) = true := by
  cases p <;> simp [pointIndexOk, pointAddr, idx_num]

theorem pointOf_pointAddr (p : Point) : pointOf (pointAddr p) = some p := by
  cases p <;> simp [pointOf, pointAddr, idx_num]

theorem pointsOf_pointAddr (ps : List Point) : pointsOf (ps.map pointAddr) = some ps := by
  induction ps with
  | nil => rfl
  | cons p ps ih => simp [pointsOf, pointOf_pointAddr, ih]

/-! ## The order of addresses (R58; log 32) -/

theorem insertByKey_perm (el : Element) (l : List Element) : (insertByKey el l).Perm (el :: l) := by
  induction l with
  | nil => exact .refl _
  | cons x rest ih =>
    simp only [insertByKey]
    split
    · exact .refl _
    · exact (ih.cons x).trans (.swap el x rest)

theorem insertByKey_sorted (el : Element) {l : List Element} (h : l.Pairwise (fun x y => addrKey x ≤ addrKey y)) :
    (insertByKey el l).Pairwise (fun x y => addrKey x ≤ addrKey y) := by
  induction l with
  | nil => simp [insertByKey]
  | cons x rest ih =>
    obtain ⟨first, ordered⟩ := List.pairwise_cons.1 h
    simp only [insertByKey]
    split
    · rename_i before
      refine List.pairwise_cons.2 ⟨fun y hy => ?_, h⟩
      rcases List.mem_cons.1 hy with rfl | hy
      · exact before
      · exact before.trans (first y hy)
    · rename_i after
      refine List.pairwise_cons.2 ⟨fun y hy => ?_, ih ordered⟩
      rcases List.mem_cons.1 ((insertByKey_perm el rest).subset hy) with rfl | hy
      · omega
      · exact first y hy

theorem foldr_insertByKey_perm (l : List Element) : (l.foldr insertByKey []).Perm l := by
  induction l with
  | nil => exact .refl _
  | cons el l ih => exact (insertByKey_perm el _).trans (ih.cons el)

theorem foldr_insertByKey_sorted (l : List Element) :
    (l.foldr insertByKey []).Pairwise (fun x y => addrKey x ≤ addrKey y) := by
  induction l with
  | nil => exact .nil
  | cons el l ih => exact insertByKey_sorted el ih

/-- The key of an address is its four bytes, read as one number. -/
theorem addrKey_eq (el : Element) :
    (addressBytes el).foldl (fun n b => match b with | .byte m => n * 256 + m | _ => n) 0 = addrKey el := by
  rw [addressBytes_eq, addrKey, addrFields]
  simp

end Sys2Proof.Machine

open Sys2Proof.Machine

/-- Settles O44, read by read: what each lays out, field by field. -/
theorem tableReadsAnswer : Obligations.TableReadsAnswer := by
  unfold Obligations.TableReadsAnswer
  intro r c g k s h
  refine ⟨next_answered h ?_, next_answered h ?_, next_answered h ?_, fun p covers performer lo hi => next_answered h ?_,
    fun el stands => next_answered h ?_, next_answered h ?_, ⟨ownedElements k s, foldr_insertByKey_perm _, ?_, next_answered h ?_⟩,
    fun n cue lo hi found => next_answered h ?_, fun n page lo hi first last => next_answered h ?_, next_answered h ?_,
    next_answered h ?_⟩
  · rw [roleRead, index_num, ok_bind, roleFields, coverNum_eq]
    rfl
  · rw [channelRead, index_num, ok_bind, channelFields, channelLinkState, linkStateByte_eq]
    generalize s.channel c = x
    obtain ⟨_, polarity, _, _, _, _, binding⟩ := x
    cases polarity <;> cases binding <;> rfl
  · rw [groupRead, index_num, ok_bind]
    rfl
  · have asked : (decide (p ≤ 999) && decide (1 ≤ covers ∧ covers ≤ 7)) = true := by simp [performer, lo, hi]
    simp only [roleFind, asked, require_true, ok_bind, castMatches, coverNum_eq]
    rfl
  · simp only [fadeRead, addrIndexOk_addrOf, elementOf_addrOf, stands, require_true, need_some, ok_bind, fadeElement,
      addressBytes_eq]
    cases s.entry? el with
    | none => rfl
    | some e =>
      obtain ⟨el', o, start, target, duration, elapsed⟩ := e
      cases o with
      | cue j => simp only [entryFields, frozen, Bool.and_true]; rfl
      | host | system => simp only [entryFields, frozen, Bool.and_false]; rfl
  · have running : ∀ o : FadeOwner, decide (ownerClassNum o = 0) =
        (match o with | .cue _ => true | .host => false | .system => false) := fun o => by cases o <;> rfl
    simp only [fadeRead, fadeSummary, ownedBy, running]
    rfl
  · exact (foldr_insertByKey_sorted _).imp fun {x y} le => (addrKey_eq x).le.trans (le.trans (addrKey_eq y).ge)
  · rw [addressBytes_eq, fadeRead, index_num, ok_bind]
    rfl
  · have number : cueNumberOk n = true := by simp [cueNumberOk, lo, hi]
    simp only [cueRead, number, found, require_true, need_some, ok_bind, cueFields, kindByte_eq, bodyBytes_eq]
    by_cases standby : s.cues.standby = some n <;> simp only [standby] <;> rfl
  · have start : cueNumberOk n = true := by simp [cueNumberOk, lo, hi]
    have paged : decide (1 ≤ page ∧ page ≤ 64) = true := by simp [first, last]
    simp only [cueList, start, paged, require_true, ok_bind, onOff_decide]
    rfl
  · rw [runningRead, index_num, ok_bind, slotFields]
    simp only [kindByte_eq, bodyBytes_eq]
    generalize s.slot k = x
    obtain ⟨_, _, _, source, _⟩ := x
    cases source with
    | none => rfl
    | some o => cases o <;> rfl
  · simp only [engineFields, inputBytes_eq]
    cases s.engine.follow <;> rfl

/-- Settles O45, read by read: what each lays out, field by field. -/
theorem unitReadsAnswer : Obligations.UnitReadsAnswer := by
  unfold Obligations.UnitReadsAnswer
  intro f r n p m s h
  refine ⟨next_answered h ?_, next_answered h ?_, next_answered h ?_, next_answered h ?_, next_answered h ?_, next_answered h ?_,
    next_answered h ?_, next_answered h ?_, fun ps some few => next_answered h ?_, next_answered h ?_,
    _, next_answered (t := clearSlips s) (fields := linkStatusFields s) h rfl, fun l => ?_, ?_⟩
  · rw [mixRead, index_num, ok_bind, mixFields]
    simp only [depthAsked_eq, sourceBytes_eq, classByte_eq]
    cases (s.mix f).listener with
    | none => rfl
    | some q => simp only [listenerFields, indexByte_eq, coverNum_eq]; rfl
  · rw [mixFind, index_num, ok_bind]
    rfl
  · simp only [talkbackBytes_eq, depthAsked_eq]
  · simp only [relaySourceBytes_eq, classByte_eq, indexByte_eq, relayFields]
    cases s.relay.selection <;> rfl
  · rw [stationRead, index_num, ok_bind, stationFields]
    simp only [classByte_eq, indexByte_eq]
    rfl
  · rw [presetRead, index_num, ok_bind, presetFields, presetCallFields, callPending]
    simp only [indexByte_eq]
    generalize s.preset p = x
    obtain ⟨source, target, priority, _⟩ := x
    have active : callActive p s = s.relay.active.any (fun a => decide (a.call.preset = p)) := by
      cases h : s.relay.active <;> simp [callActive, h]
    rw [active]
    cases target <;> cases priority <;> rfl
  · rw [callBytes_eq]
    cases s.relay.active <;> rfl
  · rw [monitorRead, index_num, ok_bind, monitorFields]
    simp only [pointBytes_eq]
    generalize s.monitor m = x
    obtain ⟨_, _, _, _, condition, _, action, state, _⟩ := x
    cases condition <;> cases action <;> cases state <;> rfl
  · have points : (ps.map pointAddr).all pointIndexOk = true := by
      simp [pointIndexOk_pointAddr]
    have count : decide (1 ≤ (ps.map pointAddr).length ∧ (ps.map pointAddr).length ≤ 64) = true := by simp [some, few]
    simp only [meterRead, points, count, require_true, pointsOf_pointAddr, need_some, ok_bind]
    rfl
  · simp only [linkRead, linkMapFields, slotByte_eq]
    rfl
  · show (s.links.receivers.map _).get l = _
    rw [Sys2Proof.Table.get_map]
    rfl
  · refine congrArg (fun fields => answered 59 fields (clearSlips s)) ?_
    have outputs : waitingFields s = fun l => markByte (s.output l).enable ::
        (match (s.output l).waitingEnable with
         | none => [.byte 0]
         | some v => [.byte 1, markByte v]) := by
      funext l
      rw [waitingFields]
      cases (s.output l).waitingEnable <;> rfl
    rw [linkStatusFields, outputs]
    simp only [linkStateByte_eq]
    cases s.links.clock.role <;> cases s.links.clock.source <;> rfl
end

section
/-! The requests of the Role Table that write records: settings, retirement (1.7, 1.8). -/

namespace Sys2Proof.Machine

variable {s t : State}

/-! ## Writing every member of a set -/

theorem mem_members {n : Nat} {m : BitVec n} {i : Fin n} : i ∈ members m ↔ inSet m i = true := by
  simp [members, inSet]

theorem nodup_members {n : Nat} (m : BitVec n) : (members m).Nodup := (List.nodup_finRange n).filter _

/-- What a fold over distinct items makes of a field that only one of them writes. -/
theorem foldl_once {α β : Type} [DecidableEq β] {f : State → β → State} {get : State → α} {i : β} {g : α → α} {l : List β}
    (own : ∀ u, get (f u i) = g (get u)) (other : ∀ u, ∀ j ∈ l, j ≠ i → get (f u j) = get u) (distinct : l.Nodup)
    (s : State) : get (l.foldl f s) = if i ∈ l then g (get s) else get s := by
  induction l generalizing s with
  | nil => rfl
  | cons j l ih =>
    obtain ⟨fresh, distinct⟩ := List.nodup_cons.1 distinct
    rw [List.foldl_cons, ih (fun u x hx => other u x (List.mem_cons_of_mem j hx)) distinct]
    by_cases h : j = i
    · subst h
      rw [if_neg fresh, if_pos List.mem_cons_self, own]
    · simp only [List.mem_cons, Ne.symm h, false_or, other s j List.mem_cons_self h]

theorem foldl_members {α : Type} {n : Nat} {f : State → Fin n → State} {get : State → α} {i : Fin n} {g : α → α}
    (own : ∀ u, get (f u i) = g (get u)) (other : ∀ u j, j ≠ i → get (f u j) = get u) (m : BitVec n) (s : State) :
    get ((members m).foldl f s) = if inSet m i = true then g (get s) else get s := by
  rw [foldl_once own (fun u j _ => other u j) (nodup_members m)]
  simp only [mem_members]

theorem pick_eq {α : Type} (old : α) (new : Option α) : pick old new = new.getD old := by cases new <;> rfl

theorem performerOf_eq : performerOf = fun n => if n = 0 then none else some n := rfl

/-! ## A selected level is a direct write (R13, R15) -/

theorem entry_writeSelected (el : Element) (z : Option Int) (s : State) (x : Element) :
    (writeSelected el z s).entry? x = if z.isSome ∧ x = el then none else s.entry? x := by
  cases z with
  | none => simp [writeSelected]
  | some z => simp [writeSelected, entry_directWrite]

theorem role_writeSelected (r q : Fin 64) (z : Option Int) (s : State) :
    (writeSelected (.role r) z s).role q =
      if r = q then { s.role q with level := (z.map (clampCode off 40)).getD (s.role q).level } else s.role q := by
  cases z with
  | none =>
    show s.role q = if r = q then s.role q else s.role q
    rw [ite_self]
  | some z =>
    show ((removeEntry (.role r) s).modRole r _).role q = _
    rw [modRole_role, removeEntry_role]
    rfl

theorem group_writeSelected (g h : Fin 16) (z : Option Int) (s : State) :
    (writeSelected (.group g) z s).group h =
      if g = h then { s.group h with level := (z.map (clampCode off 40)).getD (s.group h).level } else s.group h := by
  cases z with
  | none =>
    show s.group h = if g = h then s.group h else s.group h
    rw [ite_self]
  | some z =>
    show ((removeEntry (.group g) s).modGroup g _).group h = _
    rw [modGroup_group]
    simp only [State.group, removeEntry_table]
    rfl

/-! ## What the requests leave -/

/-- The state but for the roles, the fade table, the slots, and what completions raise. -/
def besidesRoles (s : State) : State := besidesFades { s with table := { s.table with roles := Table.replicate 64 {} } }

/-- The state but for the groups, the fade table, the slots, and what completions raise. -/
def besidesGroups (s : State) : State := besidesFades { s with table := { s.table with groups := Table.replicate 16 {} } }

/-- The state but for the casting of roles, the listeners of mixes, the fade table, the slots, and what completions raise. -/
def besidesCasting (s : State) : State :=
  besidesFades { s with
    table := { s.table with roles := Table.replicate 64 {}, channels := Table.replicate 64 {} }
    foldback := { s.foldback with mixes := Table.replicate 12 {} } }

theorem besidesRoles_settleAll (s : State) : besidesRoles (settleAll s) = besidesRoles s := by
  simp [besidesRoles, besidesFades]

theorem besidesGroups_settleAll (s : State) : besidesGroups (settleAll s) = besidesGroups s := by
  simp [besidesGroups, besidesFades]

@[simp] theorem role_settleAll (s : State) (r : Fin 64) : (settleAll s).role r = s.role r := by simp [State.role]

@[simp] theorem channel_settleAll (s : State) (c : Fin 64) : (settleAll s).channel c = s.channel c := by simp [State.channel]

@[simp] theorem group_settleAll (s : State) (g : Fin 16) : (settleAll s).group g = s.group g := by simp [State.group]

theorem besidesRoles_writeSelected (r : Fin 64) (z : Option Int) (s : State) :
    besidesRoles (writeSelected (.role r) z s) = besidesRoles s := by
  cases z with
  | none => rfl
  | some z => simp [besidesRoles, besidesFades, writeSelected, directWrite, State.write]

theorem besidesGroups_writeSelected (g : Fin 16) (z : Option Int) (s : State) :
    besidesGroups (writeSelected (.group g) z s) = besidesGroups s := by
  cases z with
  | none => rfl
  | some z => simp [besidesGroups, besidesFades, writeSelected, directWrite, State.write]

/-! ## ROLE_MODIFY (R13) -/

section
variable (f : RoleFields) (group : Option (Option (Fin 16))) (station : Option (Option (Fin 32))) (buses : Option (BitVec 8))

/-- One role of a ROLE_MODIFY. -/
def modifyRole (s : State) (r : Fin 64) : State :=
  writeSelected (.role r) f.level (s.modRole r (applyRole f group station buses))

theorem roleModify_ok {m : BitVec 64} (h : m ≠ 0#64) (values : roleValuesOk f = true) (hg : opt (indexOpt 16) f.group = .ok group)
    (hs : opt (indexOpt 32) f.station = .ok station) (hb : opt (maskOf 8) f.buses = .ok buses)
    (cast : ∀ r, inSet m r = true → (s.role r).active = true) :
    roleModify m.toNat f s = .ok ([], settleAll ((members m).foldl (modifyRole f group station buses) s)) := by
  have some : decide (m.toNat ≠ 0) = true := decide_eq_true fun e => h (BitVec.eq_of_toNat_eq e)
  have all : (members m).all (fun r => (s.role r).active) = true := List.all_eq_true.2 fun r hr => cast r (mem_members.1 hr)
  simp only [roleModify, maskOf_toNat, ok_bind, hg, hs, hb, some, values, Bool.and_self, require_true, all]
  rfl

theorem modifyRole_role (s : State) (r q : Fin 64) :
    (modifyRole f group station buses s r).role q =
      if r = q then { applyRole f group station buses (s.role q) with
        level := (f.level.map (clampCode off 40)).getD (s.role q).level } else s.role q := by
  rw [modifyRole, role_writeSelected, modRole_role]
  split <;> rfl

theorem modifyRole_entry (s : State) (r : Fin 64) (el : Element) :
    (modifyRole f group station buses s r).entry? el =
      if f.level.isSome ∧ el = .role r then none else s.entry? el := by
  rw [modifyRole, entry_writeSelected, modRole_entry]

theorem besidesRoles_modifyRole (s : State) (r : Fin 64) :
    besidesRoles (modifyRole f group station buses s r) = besidesRoles s :=
  besidesRoles_writeSelected r f.level _

theorem modifyRoles_role (m : BitVec 64) (s : State) (q : Fin 64) :
    ((members m).foldl (modifyRole f group station buses) s).role q =
      if inSet m q = true then { applyRole f group station buses (s.role q) with
        level := (f.level.map (clampCode off 40)).getD (s.role q).level } else s.role q :=
  foldl_members (get := fun u => u.role q) (g := fun x => { applyRole f group station buses x with
    level := (f.level.map (clampCode off 40)).getD x.level })
    (fun u => (modifyRole_role f group station buses u q q).trans (if_pos rfl))
    (fun u j hj => (modifyRole_role f group station buses u j q).trans (if_neg hj)) m s

/-- The entry on a role of the set leaves when a level is selected. -/
theorem modifyRoles_entry (m : BitVec 64) (s : State) (el : Element) :
    ((members m).foldl (modifyRole f group station buses) s).entry? el =
      if f.level.isSome ∧ ∃ r, el = .role r ∧ inSet m r = true then none else s.entry? el := by
  by_cases isRole : ∃ r, el = .role r
  · obtain ⟨r, rfl⟩ := isRole
    have fold := foldl_members (f := modifyRole f group station buses) (get := fun u => u.entry? (.role r)) (i := r)
      (g := fun e => if f.level.isSome then none else e) (fun u => by rw [modifyRole_entry]; simp)
      (fun u j hj => by rw [modifyRole_entry, if_neg]; simp [Ne.symm hj]) m s
    rw [fold]
    by_cases hr : inSet m r = true <;> simp [hr]
  · rw [if_neg fun h => isRole ⟨_, h.2.choose_spec.1⟩]
    refine foldl_keeps (fun u => u.entry? el) (fun u r => ?_) _ _
    rw [modifyRole_entry, if_neg fun h => isRole ⟨r, h.2⟩]

end

/-! ## GROUP_SET (R15) -/

/-- The group that a GROUP_SET leaves. -/
theorem groupSet_ok {g : Fin 16} {f : GroupFields} (inside : f.beyond = false) (any : f.level.isSome ∨ f.label.isSome)
    (label : optOk (labelOk 12) f.label = true) :
    groupSet (num g) f s = .ok ([], settleAll (writeSelected (.group g) f.level
      (s.modGroup g (fun x => { x with label := pick x.label f.label })))) := by
  have any : (f.level.isSome || f.label.isSome) = true := by simpa using any
  simp only [groupSet, index_num, ok_bind, any, inside, label, Bool.not_false, Bool.and_self, require_true]

/-! ## CHANNEL_SET (R14) -/

theorem channelSet_ok {m : BitVec 64} {f : ChannelFields} {group : Option (Option (Fin 16))} {buses : Option (BitVec 8)}
    (h : m ≠ 0#64) (values : channelValuesOk f = true) (hg : opt (indexOpt 16) f.group = .ok group)
    (hb : opt (maskOf 8) f.buses = .ok buses) :
    channelSet m.toNat f s =
      .ok ([], (members m).foldl (fun s c => s.modChannel c (applyChannel f group buses)) s) := by
  have some : decide (m.toNat ≠ 0) = true := decide_eq_true fun e => h (BitVec.eq_of_toNat_eq e)
  simp only [channelSet, maskOf_toNat, ok_bind, hg, hb, some, values, Bool.and_self, require_true]

/-! ## ROLE_SET (R12) -/

theorem roleSet_checks {r : Fin 64} {label : Label} {p n : Nat} {cover : Cover} (short : label.length ≤ 12)
    (printable : ∀ x ∈ label, 32 ≤ x ∧ x ≤ 126) (performer : p ≤ 999) (hc : coverOf n = some cover) :
    roleSet (num r) label p n s = if (s.role r).active then .error .inUse else
      .ok ([], s.modRole r (fun _ => { active := true, label := label, performer := performerOf p, cover := cover })) := by
  have fits : labelOk 12 label = true := by simpa [labelOk, short] using printable
  simp only [roleSet, index_num, ok_bind, fits, performer, decide_true, Bool.and_self, require_true, hc, need_some]
  cases (s.role r).active <;> rfl

/-! ## ROLE_RETIRE (R16) -/

theorem besidesCasting_retireRole (r : Fin 64) (s : State) : besidesCasting (retireRole r s) = besidesCasting s := by
  rw [retireRole_eq]
  simp [besidesCasting, besidesFades, clearListeners]

theorem retireRole_role (r q : Fin 64) (s : State) : (retireRole r s).role q = if r = q then {} else s.role q := by
  rw [retireRole_eq, State.role, settleAll_table]
  exact vacated_role r q s

theorem retireRole_channel (r c : Fin 64) (s : State) :
    (retireRole r s).channel c =
      if (s.role r).channel = some c ∨ (s.role r).releasing = some c then { s.channel c with binding := .none }
      else s.channel c := by
  rw [retireRole_eq, State.channel, settleAll_table]
  exact vacated_channel r c s

theorem retireRole_entry (r : Fin 64) (s : State) (el : Element) :
    (retireRole r s).entry? el = if el = .role r ∨ el = .xout r ∨ el = .xin r then none else s.entry? el := by
  rw [retireRole_eq, entry_settleAll]
  show (removeEntry (.xin r) (removeEntry (.xout r) (removeEntry (.role r) s))).entry? el = _
  simp only [entry_removeEntry]
  grind

theorem retireRole_mix (r : Fin 64) (s : State) (f : Fin 12) :
    (retireRole r s).mix f =
      { s.mix f with listener := if (s.mix f).listener = some r then none else (s.mix f).listener } := by
  rw [retireRole_eq, State.mix, settleAll_foldback]
  show ((removeEntry (.xin r) (removeEntry (.xout r) (removeEntry (.role r) s))).foldback.mixes.map _).get f = _
  rw [Table.get_map]
  simp only [removeEntry_foldback]
  rfl

end Sys2Proof.Machine

open Sys2Proof Sys2Proof.Machine

/-- Settles O46. -/
theorem roleSetAndChannelSet : Obligations.RoleSetAndChannelSet := by
  unfold Obligations.RoleSetAndChannelSet
  refine ⟨fun r label p n cover s h short printable performer hc => ?_, fun m f group buses s h some values hg hb => ?_⟩
  · have checks := roleSet_checks (s := s) (r := r) short printable performer hc
    refine ⟨fun cast => next_refused h (by rw [checks, if_pos cast]),
      fun vacant => ⟨_, next_answered h (checks.trans (if_neg (by simp [vacant]))), ?_, fun q hq => ?_, rfl⟩⟩
    · exact (modRole_role ..).trans (if_pos rfl)
    · exact (modRole_role ..).trans (if_neg (Ne.symm hq))
  · have record : ∀ c, ((members m).foldl (fun s c => s.modChannel c (applyChannel f group buses)) s).channel c =
        if inSet m c = true then applyChannel f group buses (s.channel c) else s.channel c := fun c =>
      foldl_members (get := fun u => u.channel c) (g := applyChannel f group buses)
        (fun u => (modChannel_channel ..).trans (if_pos rfl)) (fun u j hj => (modChannel_channel ..).trans (if_neg hj)) m s
    have frame := foldl_keeps (f := fun s c => s.modChannel c (applyChannel f group buses))
      (fun u => { u with table := { u.table with channels := Table.replicate 64 {} } }) (fun _ _ => rfl) (members m) s
    have ok := channelSet_ok (s := s) some values hg hb
    generalize (members m).foldl (fun s c => s.modChannel c (applyChannel f group buses)) s = u at *
    refine ⟨_, next_answered h ok, fun c hc => ?_, fun c hc => ?_,
      congrArg (fun x => answered 14 [] { x with table := { x.table with channels := u.table.channels } }) frame⟩
    · exact (record c).trans (if_neg (by simp [hc]))
    · have new : (answered 14 [] u).channel c = applyChannel f group buses (s.channel c) := (record c).trans (if_pos hc)
      rw [new]
      simp [applyChannel, pick_eq, off]

/-- Settles O47: each role of the set is written once, and a selected level takes the entry on it away. -/
theorem roleModifyAndGroupSet : Obligations.RoleModifyAndGroupSet := by
  unfold Obligations.RoleModifyAndGroupSet
  refine ⟨fun m f group station buses s h some values hg hs hb cast => ?_, fun g f s h inside any label => ?_⟩
  · have ok := roleModify_ok f group station buses some values hg hs hb cast
    have record := modifyRoles_role f group station buses m s
    have entries := modifyRoles_entry f group station buses m s
    have frame := foldl_keeps besidesRoles (besidesRoles_modifyRole f group station buses) (members m) s
    generalize (members m).foldl (modifyRole f group station buses) s = v at *
    rw [← besidesRoles_settleAll] at frame
    simp only [← role_settleAll v] at record
    simp only [← entry_settleAll v] at entries
    generalize settleAll v = u at *
    refine ⟨_, next_answered h ok, fun r hr => (record r).trans (if_neg (by simp [hr])), fun r hr => ?_, entries, rfl,
      congrArg (fun x => { x with
        table := { x.table with roles := u.table.roles }, fades := u.fades, attention := u.attention
        engine := { x.engine with slots := u.engine.slots }, port := (answered 13 [] u).port }) frame⟩
    refine ((record r).trans (if_pos hr)).trans ?_
    simp only [applyRole, pick_eq, performerOf_eq]
    rfl
  · have ok := groupSet_ok (s := s) inside any label (g := g)
    have record := group_writeSelected (s := s.modGroup g (fun x => { x with label := pick x.label f.label })) g
    have entries := entry_writeSelected (.group g) f.level (s.modGroup g (fun x => { x with label := pick x.label f.label }))
    have frame := besidesGroups_writeSelected g f.level (s.modGroup g (fun x => { x with label := pick x.label f.label }))
    specialize record (z := f.level)
    generalize writeSelected (.group g) f.level (s.modGroup g (fun x => { x with label := pick x.label f.label })) = v at *
    rw [← besidesGroups_settleAll] at frame
    simp only [← group_settleAll v] at record
    simp only [← entry_settleAll v] at entries
    generalize settleAll v = u at *
    refine ⟨_, next_answered h ok, ?_, fun i hi => ?_, entries, rfl, congrArg (fun x => { x with
        table := { x.table with groups := u.table.groups }, fades := u.fades, attention := u.attention
        engine := { x.engine with slots := u.engine.slots }, port := (answered 15 [] u).port }) frame⟩
    · refine ((record g).trans (if_pos rfl)).trans ?_
      rw [modGroup_group, if_pos rfl, pick_eq]
      rfl
    · refine ((record i).trans (if_neg (Ne.symm hi))).trans ?_
      rw [modGroup_group, if_neg (Ne.symm hi)]

/-- Settles O48. -/
theorem roleRetireVacates : Obligations.RoleRetireVacates := by
  unfold Obligations.RoleRetireVacates
  intro r s h
  refine ⟨fun vacant => next_refused h ?_, fun cast => ?_⟩
  · simp only [roleRetire, index_num, ok_bind, vacant]
    rfl
  · have ok : roleRetire (num r) s = .ok ([], retireRole r s) := by
      simp only [roleRetire, index_num, ok_bind, cast, require_true]
    have roles := retireRole_role r (s := s)
    have channels := retireRole_channel r (s := s)
    have entries := retireRole_entry r s
    have mixes := retireRole_mix r s
    have frame := besidesCasting_retireRole r s
    generalize retireRole r s = u at *
    refine ⟨_, next_answered h ok, (roles r).trans (if_pos rfl), fun q hq => (roles q).trans (if_neg (Ne.symm hq)),
      fun c => (channels c).trans ?_, entries, mixes, rfl, congrArg (fun x => { x with
        table := { x.table with roles := u.table.roles, channels := u.table.channels }, fades := u.fades
        foldback := { x.foldback with mixes := u.foldback.mixes }, attention := u.attention
        engine := { x.engine with slots := u.engine.slots }, port := (answered 16 [] u).port }) frame⟩
    split <;> rfl
end

section
/-! ROLE_REBIND: the instant rebind, the crossfade, and the earlier crossfade that it completes (1.9). -/

namespace Sys2Proof.Machine

variable {s t : State} {el : Element} {cur z : Int} {d : Nat} {o : FadeOwner}

/-! ## The cases of a fade request (R45) -/

theorem fadeRequest_set (hv : s.value? el = some cur) (direct : d = 0 ∨ elemClamp el z = cur) :
    fadeRequest el z d o s = (.set, directWrite el (elemClamp el z) s) := by
  rcases fadeRequest_spec el z d o s with ⟨none, -⟩ | ⟨v, hv', ⟨-, e⟩ | ⟨hd, hz, -⟩⟩
  · rw [hv] at none; cases none
  · exact e
  · rw [hv] at hv'; cases hv'
    exact absurd direct (not_or.2 ⟨hd, hz⟩)

theorem fadeRequest_replaces {old : FadeEntry} (hv : s.value? el = some cur) (hd : d ≠ 0) (hz : elemClamp el z ≠ cur)
    (found : s.entry? el = some old) : fadeRequest el z d o s = (.fading, replaceEntry old (fadeEntry el cur z d o) s) := by
  rcases fadeRequest_spec el z d o s with ⟨none, -⟩ | ⟨v, hv', ⟨direct, -⟩ | ⟨-, -, ⟨e, he, eq⟩ | ⟨none, -⟩ | ⟨none, -⟩⟩⟩
  · rw [hv] at none; cases none
  · rw [hv] at hv'; cases hv'
    exact absurd direct (not_or.2 ⟨hd, hz⟩)
  · rw [hv] at hv'; cases hv'
    rw [found] at he; cases he
    exact eq
  all_goals rw [found] at none; cases none

theorem fadeRequest_new (hv : s.value? el = some cur) (hd : d ≠ 0) (hz : elemClamp el z ≠ cur)
    (fresh : s.entry? el = none) (room : s.fades.length < Config.fadePlaces) :
    fadeRequest el z d o s = (.fading, newEntry (fadeEntry el cur z d o) s) := by
  rcases fadeRequest_spec el z d o s with ⟨none, -⟩ | ⟨v, hv', ⟨direct, -⟩ | ⟨-, -, ⟨e, he, -⟩ | ⟨-, -, eq⟩ | ⟨-, full, -⟩⟩⟩
  · rw [hv] at none; cases none
  · rw [hv] at hv'; cases hv'
    exact absurd direct (not_or.2 ⟨hd, hz⟩)
  · rw [fresh] at he; cases he
  · rw [hv] at hv'; cases hv'
    exact eq
  · omega

theorem fadeRequest_snaps (hv : s.value? el = some cur) (hd : d ≠ 0) (hz : elemClamp el z ≠ cur)
    (fresh : s.entry? el = none) (full : Config.fadePlaces ≤ s.fades.length) :
    fadeRequest el z d o s = (.snapped, snapTo el (elemClamp el z) s) := by
  rcases fadeRequest_spec el z d o s with ⟨none, -⟩ | ⟨v, hv', ⟨direct, -⟩ | ⟨-, -, ⟨e, he, -⟩ | ⟨-, room, -⟩ | ⟨-, -, eq⟩⟩⟩
  · rw [hv] at none; cases none
  · rw [hv] at hv'; cases hv'
    exact absurd direct (not_or.2 ⟨hd, hz⟩)
  · rw [fresh] at he; cases he
  · omega
  · exact eq

/-! ## Writing XOUT and XIN -/

theorem directWrite_xout_role (r q : Fin 64) (z : Int) (s : State) :
    (directWrite (.xout r) z s).role q = if r = q then { s.role q with xout := clampCode off 0 z } else s.role q := by
  show ((removeEntry (.xout r) s).modRole r _).role q = _
  rw [modRole_role, removeEntry_role]
  rfl

theorem directWrite_xin_role (r q : Fin 64) (z : Int) (s : State) :
    (directWrite (.xin r) z s).role q = if r = q then { s.role q with xin := clampCode off 0 z } else s.role q := by
  show ((removeEntry (.xin r) s).modRole r _).role q = _
  rw [modRole_role, removeEntry_role]
  rfl

@[simp] theorem directWrite_channel (el : Element) (z : Int) (s : State) (c : Fin 64) :
    (directWrite el z s).channel c = s.channel c := by simp [State.channel]

@[simp] theorem newEntry_role (e : FadeEntry) (s : State) (r : Fin 64) : (newEntry e s).role r = s.role r := by
  simp [State.role]

@[simp] theorem newEntry_channel (e : FadeEntry) (s : State) (c : Fin 64) : (newEntry e s).channel c = s.channel c := by
  simp [State.channel]

/-- Both crossfade elements of a role at 0 (R18, R19). -/
def crossElementsAtZero (r : Fin 64) (s : State) : State := directWrite (.xin r) 0 (directWrite (.xout r) 0 s)

theorem crossElementsAtZero_role (r q : Fin 64) (s : State) :
    (crossElementsAtZero r s).role q = if r = q then { s.role q with xout := 0, xin := 0 } else s.role q := by
  simp only [crossElementsAtZero, directWrite_xin_role, directWrite_xout_role]
  split <;> rfl

theorem crossElementsAtZero_channel (r c : Fin 64) (s : State) : (crossElementsAtZero r s).channel c = s.channel c := by
  simp [crossElementsAtZero]

theorem crossElementsAtZero_entry (r : Fin 64) (s : State) (el : Element) :
    (crossElementsAtZero r s).entry? el = if el = .xout r ∨ el = .xin r then none else s.entry? el := by
  simp only [crossElementsAtZero, entry_directWrite]
  grind

theorem mem_crossElementsAtZero (r : Fin 64) (s : State) (e : FadeEntry) :
    e ∈ (crossElementsAtZero r s).fades ↔ e ∈ s.fades ∧ e.element ≠ .xout r ∧ e.element ≠ .xin r := by
  simp only [crossElementsAtZero, directWrite_fades, List.mem_filter, decide_eq_true_eq]
  tauto

theorem crossElementsAtZero_attention (r : Fin 64) (s : State) : (crossElementsAtZero r s).attention = s.attention := by
  simp [crossElementsAtZero]

theorem besidesCasting_crossElementsAtZero (r : Fin 64) (s : State) :
    besidesCasting (crossElementsAtZero r s) = besidesCasting s := by
  simp [crossElementsAtZero, besidesCasting, besidesFades, directWrite, State.write]

theorem crossElementsAtZero_foldback (r : Fin 64) (s : State) : (crossElementsAtZero r s).foldback = s.foldback := by
  simp [crossElementsAtZero, directWrite, State.write]

/-! ## The earlier crossfade (R18) -/

theorem finishEarlier_none {r : Fin 64} (h : (s.role r).releasing = none) : finishEarlier r s = s := by
  simp only [finishEarlier, h]

theorem finishEarlier_some {r c : Fin 64} (h : (s.role r).releasing = some c) :
    finishEarlier r s = crossElementsAtZero r { s with table := releasedTable r s } := finishEarlier_eq h

section
variable {r c : Fin 64} (h : (s.role r).releasing = some c)
include h

theorem finishEarlier_role (q : Fin 64) :
    (finishEarlier r s).role q = if r = q then { s.role q with releasing := none, xout := 0, xin := 0 } else s.role q := by
  rw [finishEarlier_some h, crossElementsAtZero_role, released_role]
  split <;> rfl

theorem finishEarlier_channel (x : Fin 64) :
    (finishEarlier r s).channel x = if c = x then { s.channel x with binding := .none } else s.channel x := by
  rw [finishEarlier_some h, crossElementsAtZero_channel, released_channel, h]
  simp only [Option.some.injEq]

theorem finishEarlier_entry (el : Element) :
    (finishEarlier r s).entry? el = if el = .xout r ∨ el = .xin r then none else s.entry? el := by
  rw [finishEarlier_some h, crossElementsAtZero_entry]
  rfl

theorem mem_finishEarlier (e : FadeEntry) :
    e ∈ (finishEarlier r s).fades ↔ e ∈ s.fades ∧ e.element ≠ .xout r ∧ e.element ≠ .xin r := by
  rw [finishEarlier_some h, mem_crossElementsAtZero]

theorem finishEarlier_frame : finishEarlier r s = { s with
    table := { s.table with roles := (finishEarlier r s).table.roles, channels := (finishEarlier r s).table.channels }
    fades := (finishEarlier r s).fades
    engine := { s.engine with slots := (finishEarlier r s).engine.slots } } := by
  rw [finishEarlier_some h]
  have frame : besidesCasting (crossElementsAtZero r { s with table := releasedTable r s }) = besidesCasting s := by
    rw [besidesCasting_crossElementsAtZero]
    simp [besidesCasting]
  have attention := crossElementsAtZero_attention r { s with table := releasedTable r s }
  have foldback := crossElementsAtZero_foldback r { s with table := releasedTable r s }
  generalize crossElementsAtZero r { s with table := releasedTable r s } = u at *
  have eq : u = { s with
      table := { s.table with roles := u.table.roles, channels := u.table.channels }, fades := u.fades
      engine := { s.engine with slots := u.engine.slots }, attention := u.attention, foldback := u.foldback } :=
    congrArg (fun x => { x with
      table := { x.table with roles := u.table.roles, channels := u.table.channels }, fades := u.fades
      engine := { x.engine with slots := u.engine.slots }, attention := u.attention, foldback := u.foldback }) frame
  rwa [attention, foldback] at eq

end

/-! ## Which rebind it is (R17, R19, R20, R22) -/

theorem indexOpt_optNum {n : Nat} (i : Option (Fin n)) : indexOpt n (optNum i) = .ok i := by
  cases i with
  | none => rfl
  | some i => exact indexOpt_num i

section
variable {r : Fin 64} {new : Option (Fin 64)} {time : Nat} (cast : (s.role r).active = true)
include cast

theorem roleRebind_free (free : heldByOther r new s = false) :
    roleRebind (num r) (optNum new) time s =
      if (s.role r).channel = new then .ok ([.byte 2, .byte 0], s)
      else .ok ([.byte (rebindOutcomeNum (rebindStage r new (min time Config.longestCrossfade) (finishEarlier r s)).1),
          onOff (s.role r).releasing.isSome], (rebindStage r new (min time Config.longestCrossfade) (finishEarlier r s)).2) := by
  simp only [roleRebind, index_num, ok_bind, indexOpt_optNum, cast, require_true, free, Bool.not_false]
  rfl

theorem roleRebind_unchanged (free : heldByOther r new s = false) (same : (s.role r).channel = new) :
    roleRebind (num r) (optNum new) time s = .ok ([.byte 2, .byte 0], s) := by rw [roleRebind_free cast free, if_pos same]

theorem roleRebind_inUse (held : heldByOther r new s = true) :
    roleRebind (num r) (optNum new) time s = .error .inUse := by
  simp only [roleRebind, index_num, ok_bind, indexOpt_optNum, cast, require_true, held, Bool.not_true]
  rfl

theorem roleRebind_settled (free : heldByOther r new s = false) (other : (s.role r).channel ≠ new)
    (settled : (s.role r).releasing = none) :
    roleRebind (num r) (optNum new) time s =
      .ok ([.byte (rebindOutcomeNum (rebindStage r new (min time Config.longestCrossfade) s).1), .byte 0],
        (rebindStage r new (min time Config.longestCrossfade) s).2) := by
  rw [roleRebind_free cast free, if_neg other, finishEarlier_none settled, settled]
  rfl

end

/-! ## The instant rebind (R19, R22) -/

section
variable {r : Fin 64} {new : Option (Fin 64)}

theorem rebindInstant_at (r : Fin 64) (new : Option (Fin 64)) (s : State) :
    rebindInstant r new s = crossElementsAtZero r { s with table := movedTable r new s } := rebindInstant_eq r new s

theorem rebindInstant_role (q : Fin 64) :
    (rebindInstant r new s).role q = if r = q then { s.role q with channel := new, xout := 0, xin := 0 } else s.role q := by
  rw [rebindInstant_at, crossElementsAtZero_role, moved_role]
  split <;> rfl

theorem rebindInstant_channel (c : Fin 64) :
    (rebindInstant r new s).channel c = { s.channel c with
      binding := if new = some c then .current r else if (s.role r).channel = some c then .none else (s.channel c).binding } := by
  rw [rebindInstant_at, crossElementsAtZero_channel, moved_channel]
  split
  · rfl
  · split <;> rfl

theorem rebindInstant_entry (el : Element) :
    (rebindInstant r new s).entry? el = if el = .xout r ∨ el = .xin r then none else s.entry? el := by
  rw [rebindInstant_at, crossElementsAtZero_entry]
  rfl

theorem rebindInstant_attention : (rebindInstant r new s).attention = s.attention := by
  rw [rebindInstant_at, crossElementsAtZero_attention]

/-- A rebind that is not crossfaded raises a snap for each entry that it lacks, and only for those (R22). -/
theorem rebindStage_instant {d : Nat}
    (h : d = 0 ∨ (s.role r).channel = none ∨ Config.fadePlaces < s.fades.length + entriesNeeded new) :
    rebindStage r new d s = (.instant, if d = 0 ∨ (s.role r).channel = none then rebindInstant r new s
      else raiseFadeSnap (entriesNeeded new) (rebindInstant r new s)) := by
  unfold rebindStage
  by_cases direct : d = 0 ∨ (s.role r).channel = none
  · rw [if_pos (by simpa using direct), if_pos direct]
  · obtain ⟨hd, hc⟩ := not_or.1 direct
    have full : ¬ s.fades.length + entriesNeeded new ≤ Config.fadePlaces := by
      rcases h with h | h | h
      · exact absurd h hd
      · exact absurd h hc
      · omega
    rw [if_neg (by simpa using direct), if_neg full, if_neg direct]

/-! ## The crossfade (R20) -/

theorem rebindStage_crossfade {d : Nat} (hd : d ≠ 0) (bound : (s.role r).channel ≠ none)
    (room : s.fades.length + entriesNeeded new ≤ Config.fadePlaces) :
    rebindStage r new d s = (.crossfade, rebindCrossfade r new d s) := by
  unfold rebindStage
  rw [if_neg (by simp [hd, bound]), if_pos room]

/-- The fade of XOUT that a crossfade starts, with the bindings it moves. -/
def crossingOut (r : Fin 64) (new : Option (Fin 64)) (d : Nat) (s : State) : State :=
  newEntry (fadeEntry (.xout r) 0 off d .system) { s with table := crossedTable r new s }

section
variable {d : Nat} (hd : d ≠ 0) (atZero : (s.role r).xout = 0) (free : s.entry? (.xout r) = none)
  (room : s.fades.length < Config.fadePlaces)
include hd atZero free room

theorem fadeRequest_crossingOut :
    (fadeRequest (.xout r) off d .system { s with table := crossedTable r new s }).2 = crossingOut r new d s := by
  have value : ({ s with table := crossedTable r new s } : State).value? (.xout r) = some 0 := by
    rw [State.value?, crossed_role, if_pos rfl, atZero]
  rw [fadeRequest_new value hd (by show (-400 : Int) ≠ 0; decide) free room]
  rfl

theorem rebindCrossfade_none : rebindCrossfade r none d s = crossingOut r none d s := by
  rw [rebindCrossfade_eq, fadeRequest_crossingOut hd atZero free room]
  rfl

end

theorem crossingOut_role (d : Nat) (q : Fin 64) :
    (crossingOut r new d s).role q =
      if r = q then { s.role q with channel := new, releasing := (s.role r).channel } else s.role q := by
  rw [crossingOut, newEntry_role, crossed_role]

theorem crossingOut_channel (d : Nat) (c : Fin 64) :
    (crossingOut r new d s).channel c =
      if new = some c then { s.channel c with binding := .current r }
      else if (s.role r).channel = some c then { s.channel c with binding := .releasing r } else s.channel c := by
  rw [crossingOut, newEntry_channel, crossed_channel]

theorem crossingOut_entry {d : Nat} (free : s.entry? (.xout r) = none) (el : Element) :
    (crossingOut r new d s).entry? el =
      if el = .xout r then some ⟨.xout r, .system, 0, -400, min d Config.longestFade, 0⟩ else s.entry? el :=
  entry_newEntry _ _ free el

/-- The fades of XOUT and XIN that a crossfade to a channel starts. -/
theorem rebindCrossfade_some {d : Nat} {c : Fin 64} (hd : d ≠ 0) (atZero : (s.role r).xout = 0)
    (freeOut : s.entry? (.xout r) = none) (room : s.fades.length + 2 ≤ Config.fadePlaces) :
    rebindCrossfade r (some c) d s =
      newEntry (fadeEntry (.xin r) off 0 d .system) (directWrite (.xin r) off (crossingOut r (some c) d s)) := by
  rw [rebindCrossfade_eq, fadeRequest_crossingOut hd atZero freeOut (by omega)]
  have value : (directWrite (.xin r) off (crossingOut r (some c) d s)).value? (.xin r) = some off := by
    rw [value_directWrite, if_pos rfl]
    rfl
  have places : (directWrite (.xin r) off (crossingOut r (some c) d s)).fades.length < Config.fadePlaces := by
    have length : (crossingOut r (some c) d s).fades.length = s.fades.length + 1 := by
      rw [crossingOut, newEntry_fades, List.length_append]
      rfl
    have := List.length_filter_le (fun x => decide (x.element ≠ .xin r)) (crossingOut r (some c) d s).fades
    rw [directWrite_fades]
    omega
  have gone : (directWrite (.xin r) off (crossingOut r (some c) d s)).entry? (.xin r) = none := by
    rw [entry_directWrite, if_pos rfl]
  show (fadeRequest (.xin r) 0 d .system (directWrite (.xin r) off (crossingOut r (some c) d s))).2 = _
  rw [fadeRequest_new value hd (by show (0 : Int) ≠ -400; decide) gone places]

end

end Sys2Proof.Machine

open Sys2Proof Sys2Proof.Machine

/-- Settles O49: the rebind is unchanged, refused, instant, or a crossfade, after an earlier one has been completed. -/
theorem roleRebindMoves : Obligations.RoleRebindMoves := by
  unfold Obligations.RoleRebindMoves
  refine ⟨fun r c old time s h cast bound => ⟨fun own => next_answered h ?_, fun held => next_refused h ?_,
    fun unbound hc settled => ?_⟩, fun r new time s h cast => ⟨fun none => next_answered h ?_, fun other free => ?_⟩⟩
  · refine roleRebind_unchanged cast (new := some old) ?_ bound
    rw [heldByOther_some_iff]
    intro q hq
    simp [own, Ne.symm hq]
  · refine roleRebind_inUse cast (new := some c) ?_
    obtain ⟨q, hq, held⟩ := held
    by_contra no
    have none := heldByOther_some_iff.1 (Bool.eq_false_iff.2 no) q hq
    exact held.elim none.1 none.2
  · have free : heldByOther r (some c) s = false := heldByOther_some_iff.2 fun q _ => by simp [unbound]
    have other : (s.role r).channel ≠ some c := by rw [bound]; simpa using Ne.symm hc
    have ok := roleRebind_settled (time := time) cast free other settled
    refine ⟨fun instant => ?_, fun long atZero freeOut freeIn room => ?_⟩
    · have zero : min time Config.longestCrossfade = 0 := by simp [instant]
      rw [rebindStage_instant (.inl zero), if_pos (.inl zero)] at ok
      refine ⟨_, next_answered h ok, (rebindInstant_role r).trans (if_pos rfl),
        fun q hq => (rebindInstant_role q).trans (if_neg (Ne.symm hq)), ?_, ?_, fun d hdc hdo => ?_, ?_, ?_, rfl⟩
      · exact (congrArg Channel.binding (rebindInstant_channel c)).trans (if_pos rfl)
      · refine (congrArg Channel.binding (rebindInstant_channel old)).trans ?_
        simp [hc, bound]
      · refine (rebindInstant_channel d).trans ?_
        simp [Ne.symm hdc, Ne.symm hdo, bound]
      · exact (rebindInstant_entry _).trans (if_pos (.inl rfl))
      · exact (rebindInstant_entry _).trans (if_pos (.inr rfl))
    · have hd : min time Config.longestCrossfade ≠ 0 := by simpa [Config.longestCrossfade] using long
      rw [rebindStage_crossfade hd (by simp [bound]) room, rebindCrossfade_some hd atZero freeOut room] at ok
      have longest : min (min time Config.longestCrossfade) Config.longestFade = min time 2000 := by
        simp only [Config.longestCrossfade, Config.longestFade]
        omega
      have roles := crossingOut_role (s := s) (r := r) (new := some c) (min time Config.longestCrossfade)
      have channels := crossingOut_channel (s := s) (r := r) (new := some c) (min time Config.longestCrossfade)
      have entries := crossingOut_entry (new := some c) (d := min time Config.longestCrossfade) freeOut
      rw [longest] at entries
      generalize crossingOut r (some c) (min time Config.longestCrossfade) s = u at *
      have gone : (directWrite (.xin r) off u).entry? (.xin r) = none := by rw [entry_directWrite, if_pos rfl]
      have last := entry_newEntry (fadeEntry (.xin r) off 0 (min time Config.longestCrossfade) .system) _ gone
      simp only [entry_directWrite] at last
      refine ⟨_, next_answered h ok, ?_, fun q hq => ?_, ?_, ?_, fun d hdc hdo => ?_, ?_, ?_, fun el hout hin => ?_, rfl⟩
      · refine (newEntry_role ..).trans ((directWrite_xin_role ..).trans ((if_pos rfl).trans ?_))
        rw [roles, if_pos rfl, bound]
        rfl
      · refine (newEntry_role ..).trans ((directWrite_xin_role ..).trans ((if_neg (Ne.symm hq)).trans ?_))
        rw [roles, if_neg (Ne.symm hq)]
      · refine congrArg Channel.binding ((newEntry_channel ..).trans ((directWrite_channel ..).trans (channels c))) |>.trans ?_
        rw [if_pos rfl]
      · refine congrArg Channel.binding ((newEntry_channel ..).trans ((directWrite_channel ..).trans (channels old))) |>.trans ?_
        simp [hc, bound]
      · refine (newEntry_channel ..).trans ((directWrite_channel ..).trans ((channels d).trans ?_))
        simp [Ne.symm hdc, Ne.symm hdo, bound]
      · refine (last _).trans ?_
        rw [if_neg (by simp [fadeEntry]), if_neg (by simp), entries, if_pos rfl]
      · refine (last _).trans ((if_pos rfl).trans ?_)
        rw [fadeEntry, longest]
        rfl
      · refine (last _).trans ?_
        rw [if_neg (by simpa [fadeEntry] using hin), if_neg hin, entries, if_neg hout]
  · exact roleRebind_unchanged cast (new := Option.none) rfl none
  · have free : heldByOther r new s = false := by
      cases new with
      | none => rfl
      | some d => exact heldByOther_some_iff.2 fun q hq => free d rfl q hq
    refine ⟨fun c releasing => ?_, fun settled instant => ?_, fun old settled bound none long atZero freeOut room => ?_⟩
    · have free' := heldByOther_finishEarlier free
      have roles := finishEarlier_role releasing
      have channels := finishEarlier_channel releasing
      have entries := finishEarlier_entry releasing
      have mem := mem_finishEarlier releasing
      have frame := finishEarlier_frame releasing
      have ok := roleRebind_free (time := time) cast free
      rw [if_neg other, releasing] at ok
      generalize finishEarlier r s = u at *
      have self := (roles r).trans (if_pos rfl)
      have h' : accepts u := by rw [accepts, frame]; exact h
      have ok' := roleRebind_settled (time := time) (s := u) (r := r) (by rw [self]; exact cast) free'
        (by rw [self]; exact other) (by rw [self])
      exact ⟨u, _, _, self, fun q hq => (roles q).trans (if_neg (Ne.symm hq)), (channels c).trans (if_pos rfl),
        fun d hd => (channels d).trans (if_neg (Ne.symm hd)), entries, mem, frame, next_answered h' ok', next_answered h ok⟩
    · have ok := roleRebind_settled (time := time) cast free other settled
      have zero : min time Config.longestCrossfade = 0 ↔ time = 0 := by simp [Config.longestCrossfade]
      rw [rebindStage_instant (by rw [zero]; exact instant)] at ok
      simp only [zero] at ok
      have roles := rebindInstant_role (s := s) (r := r) (new := new)
      have channels := rebindInstant_channel (s := s) (r := r) (new := new)
      have entries := rebindInstant_entry (s := s) (r := r) (new := new)
      have attention := rebindInstant_attention (s := s) (r := r) (new := new)
      generalize rebindInstant r new s = u at *
      refine ⟨_, next_answered h ok, ?_⟩
      by_cases direct : time = 0 ∨ (s.role r).channel = none
      · simp only [if_pos direct]
        exact ⟨(roles r).trans (if_pos rfl), fun q hq => (roles q).trans (if_neg (Ne.symm hq)), channels, entries,
          attention, rfl⟩
      · simp only [if_neg direct]
        refine ⟨(roles r).trans (if_pos rfl), fun q hq => (roles q).trans (if_neg (Ne.symm hq)), channels, entries, ?_, rfl⟩
        show (raiseFadeSnap (entriesNeeded new) u).attention = _
        rw [raiseFadeSnap, State.raise]
        simp only [attention]
        rfl
    · subst none
      have ok := roleRebind_settled (time := time) cast free other settled
      have hd : min time Config.longestCrossfade ≠ 0 := by simpa [Config.longestCrossfade] using long
      rw [rebindStage_crossfade hd (by simp [bound]) room, rebindCrossfade_none hd atZero freeOut room] at ok
      have longest : min (min time Config.longestCrossfade) Config.longestFade = min time 2000 := by
        simp only [Config.longestCrossfade, Config.longestFade]
        omega
      have roles := crossingOut_role (s := s) (r := r) (new := none) (min time Config.longestCrossfade)
      have channels := crossingOut_channel (s := s) (r := r) (new := none) (min time Config.longestCrossfade)
      have entries := crossingOut_entry (new := none) (d := min time Config.longestCrossfade) freeOut
      rw [longest] at entries
      have attention : (crossingOut r none (min time Config.longestCrossfade) s).attention = s.attention := by
        simp [crossingOut]
      generalize crossingOut r none (min time Config.longestCrossfade) s = u at *
      refine ⟨_, next_answered h ok, ?_, fun q hq => (roles q).trans (if_neg (Ne.symm hq)), ?_, fun d hd => ?_,
        (entries _).trans (if_pos rfl), fun el hel => (entries el).trans (if_neg hel), attention, rfl⟩
      · exact (roles r).trans ((if_pos rfl).trans (by rw [bound]))
      · refine (congrArg Channel.binding (channels old)).trans ?_
        simp [bound]
      · refine (channels d).trans ?_
        simp [bound, Ne.symm hd]
end

section
/-! The entry lists of mixes and relay: what a list of items sets, what a removal takes, and their loss reports (6.2, 7.1). -/

namespace Sys2Proof.Machine

variable {s t u : State}

/-! ## The loss reports of a request (R48, R49, R90) -/

/-- The state has lost owned fades and nothing else of its slots. -/
def losesOnly (s u : State) : Prop :=
  (∀ k, u.slot k = { s.slot k with owned := (u.slot k).owned } ∧ (u.slot k).owned ≤ (s.slot k).owned) ∧
    u.attention = s.attention

theorem losesOnly_refl (s : State) : losesOnly s s := ⟨fun _ => ⟨rfl, Nat.le_refl _⟩, rfl⟩

theorem losesOnly.trans (h : losesOnly s t) (h' : losesOnly t u) : losesOnly s u := by
  obtain ⟨slots, attention⟩ := h
  obtain ⟨slots', attention'⟩ := h'
  refine ⟨fun k => ⟨?_, (slots' k).2.trans (slots k).2⟩, attention'.trans attention⟩
  rw [(slots' k).1, (slots k).1]

theorem losesOnly_foldl {β : Type} {f : State → β → State} (h : ∀ s b, losesOnly s (f s b)) (l : List β) (s : State) :
    losesOnly s (l.foldl f s) := by
  induction l generalizing s with
  | nil => exact losesOnly_refl s
  | cons b l ih => exact (h s b).trans (ih (f s b))

theorem losesOnly_removeEntry (el : Element) (s : State) : losesOnly s (removeEntry el s) := by
  refine ⟨fun k => ?_, removeEntry_attention el s⟩
  rw [removeEntry_slot]
  exact ⟨rfl, Nat.sub_le ..⟩

theorem losesOnly_directWrite (el : Element) (z : Int) (s : State) : losesOnly s (directWrite el z s) := by
  refine ⟨fun k => ?_, directWrite_attention el z s⟩
  rw [directWrite_slot]
  exact ⟨rfl, Nat.sub_le ..⟩

theorem settle_slot (j k : Fin 8) (s : State) :
    (settle j s).slot k = if j = k ∧ finished (s.slot k) = true then {} else s.slot k := by
  rcases settle_cases j s with ⟨open_, e⟩ | ⟨fin, e⟩ <;> rw [e]
  · rw [if_neg]
    rintro ⟨rfl, fin⟩
    rw [open_] at fin
    cases fin
  · show (s.modSlot j fun _ => {}).slot k = _
    rw [modSlot_slot]
    by_cases h : j = k
    · subst h; simp [fin]
    · simp [h]

theorem finished_free : finished ({} : Slot) = false := rfl

/-- Every finished slot becomes FREE (R90). -/
theorem settleAll_slot (s : State) (k : Fin 8) :
    (settleAll s).slot k = if finished (s.slot k) = true then {} else s.slot k := by
  have fold := foldl_once (f := fun s k => settle k s) (get := fun u => u.slot k) (i := k)
    (g := fun x => if finished x = true then {} else x) (l := List.finRange 8)
    (fun u => by simp only [settle_slot, true_and]) (fun u j _ hj => by simp only [settle_slot, hj, false_and, if_false])
    (List.nodup_finRange 8) s
  rw [settleAll, fold, if_pos (List.mem_finRange k)]

/-- CUE_DONE names one of the slots that complete, the last of them (R90). -/
theorem settled_attention (l : List (Fin 8)) (distinct : l.Nodup) (s : State) :
    ((∀ k ∈ l, finished (s.slot k) = false) ∧ (l.foldl (fun s k => settle k s) s).attention = s.attention) ∨
    ∃ k ∈ l, finished (s.slot k) = true ∧ (l.foldl (fun s k => settle k s) s).attention = { s.attention with
      flags := s.attention.flags ||| 0x40#16
      details := { s.attention.details with done := some ((s.slot k).cue.getD 0, (s.slot k).skipped) } } := by
  induction l generalizing s with
  | nil => exact .inl ⟨fun k hk => absurd hk (by simp), rfl⟩
  | cons j l ih =>
    obtain ⟨fresh, distinct⟩ := List.nodup_cons.1 distinct
    have others : ∀ k ∈ l, (settle j s).slot k = s.slot k := fun k hk => by
      rw [settle_slot, if_neg]
      rintro ⟨rfl, -⟩
      exact fresh hk
    rw [List.foldl_cons]
    rcases settle_cases j s with ⟨open_, e⟩ | ⟨fin, e⟩
    · rw [e] at others ⊢
      rcases ih distinct s with ⟨all, attention⟩ | ⟨k, hk, done, attention⟩
      · exact .inl ⟨List.forall_mem_cons.2 ⟨open_, all⟩, attention⟩
      · exact .inr ⟨k, List.mem_cons_of_mem j hk, done, attention⟩
    · have raised : (settle j s).attention = { s.attention with
          flags := s.attention.flags ||| 0x40#16
          details := { s.attention.details with done := some ((s.slot j).cue.getD 0, (s.slot j).skipped) } } := by
        rw [e]; rfl
      rcases ih distinct (settle j s) with ⟨all, attention⟩ | ⟨k, hk, done, attention⟩
      · exact .inr ⟨j, List.mem_cons_self, fin, attention.trans raised⟩
      · rw [others k hk] at done attention
        refine .inr ⟨k, List.mem_cons_of_mem j hk, done, attention.trans ?_⟩
        rw [raised]
        simp only [BitVec.or_assoc, BitVec.or_self]

/-- The completion test after a request's losses leaves what its loss reports say. -/
theorem lossReports_settleAll (h : losesOnly s u) : lossReports s (settleAll u) := by
  obtain ⟨slots, attention⟩ := h
  have record : ∀ k, (u.slot k).running = (s.slot k).running ∧ (u.slot k).actions = (s.slot k).actions ∧
      (u.slot k).cue = (s.slot k).cue ∧ (u.slot k).skipped = (s.slot k).skipped := fun k => by
    rw [(slots k).1]
    exact ⟨rfl, rfl, rfl, rfl⟩
  have completes : ∀ k, ((s.slot k).running = true ∧ ((settleAll u).slot k).running = false) ↔
      finished (u.slot k) = true := fun k => by
    obtain ⟨running, -⟩ := record k
    rw [settleAll_slot]
    split
    · rename_i fin
      have : (u.slot k).running = true := by
        simp only [finished, Bool.and_eq_true] at fin
        exact fin.1.1
      simp [fin, ← running, this]
    · rename_i open_
      rw [running]
      refine iff_of_false ?_ open_
      rintro ⟨on, off⟩
      rw [on] at off
      cases off
  refine ⟨fun k hk => ?_, fun k hk => ?_, fun none => ?_, fun ⟨k, hk⟩ => ?_⟩
  · replace hk := mt (completes k).2 hk
    rw [settleAll_slot, if_neg hk]
    exact slots k
  · replace hk := (completes k).1 hk
    refine ⟨by rw [settleAll_slot, if_pos hk], ?_⟩
    obtain ⟨-, actions, -⟩ := record k
    simp only [finished, Bool.and_eq_true, List.isEmpty_iff] at hk
    rw [← actions]
    exact hk.1.2
  · rcases settled_attention _ (List.nodup_finRange 8) u with ⟨-, eq⟩ | ⟨k, -, fin, -⟩
    · exact eq.trans attention
    · exact absurd ((completes k).2 fin) (none k)
  · rcases settled_attention _ (List.nodup_finRange 8) u with ⟨all, -⟩ | ⟨j, -, fin, eq⟩
    · have := all k (List.mem_finRange k)
      rw [(completes k).1 hk] at this
      cases this
    · obtain ⟨-, -, cue, skipped⟩ := record j
      refine ⟨j, (completes j).2 fin, eq.trans ?_⟩
      rw [attention, cue, skipped]

/-! ## Lists of items (R107, R117) -/

section
variable {α : Type} [DecidableEq α]

/-- What one item of a list of entries does: CHANGED writes the element of its source, ADDED appends the source. -/
structure EditsOne (sources : State → List α) (has : α → State → Bool) (send : α → Element)
    (edit : State → α × Int → State) : Prop where
  adds : ∀ s i, sources (edit s i) = if has i.1 s then sources s else sources s ++ [i.1]
  holds : ∀ src s, has src s = true ↔ src ∈ sources s
  injective : ∀ a b, send a = send b → a = b
  value : ∀ s src z, off ≤ z → z ≤ 40 → (edit s (src, z)).value? (send src) = some z
  stands : ∀ s i src, src ≠ i.1 → (edit s i).value? (send src) = s.value? (send src)
  entry : ∀ s i x, (edit s i).entry? x = if has i.1 s ∧ x = send i.1 then none else s.entry? x
  loses : ∀ s i, losesOnly s (edit s i)

/-- A list of items with the levels clamped (R105). -/
def clamped (items : List (α × Int)) : List (α × Int) := items.map fun i => (i.1, clampCode off 40 i.2)

omit [DecidableEq α] in
theorem clamped_sources (items : List (α × Int)) : (clamped items).map (fun i => i.1) = items.map (fun i => i.1) := by
  simp [clamped]

variable {sources : State → List α} {has : α → State → Bool} {send : α → Element} {edit : State → α × Int → State}
  (h : EditsOne sources has send edit)
include h

theorem EditsOne.has_edit (s : State) (i : α × Int) (src : α) : has src (edit s i) = (decide (src = i.1) || has src s) := by
  rw [Bool.eq_iff_iff, h.holds, h.adds, Bool.or_eq_true, decide_eq_true_eq]
  split
  · rename_i old
    rw [h.holds] at old ⊢
    exact ⟨.inr, fun x => x.elim (fun e => e ▸ old) id⟩
  · rw [h.holds]
    simp [or_comm]

/-- New sources stand after the old ones, in item order. -/
theorem EditsOne.sources_foldl {items : List (α × Int)} (differ : (items.map (fun i => i.1)).Nodup) (s : State) :
    sources (items.foldl edit s) = sources s ++ (items.map (fun i => i.1)).filter (fun src => !has src s) := by
  induction items generalizing s with
  | nil => simp
  | cons i rest ih =>
    rw [List.map_cons, List.nodup_cons] at differ
    obtain ⟨new, differ⟩ := differ
    have same : (rest.map (fun i => i.1)).filter (fun src => !has src (edit s i)) =
        (rest.map (fun i => i.1)).filter (fun src => !has src s) := by
      refine List.filter_congr fun src hsrc => ?_
      rw [h.has_edit, decide_eq_false (fun e : src = i.1 => new (e ▸ hsrc)), Bool.false_or]
    rw [List.foldl_cons, ih differ, same, h.adds, List.map_cons, List.filter_cons]
    cases has i.1 s <;> simp

/-- A source of the list stands at the level given last, which is the only one. -/
theorem EditsOne.value_foldl {items : List (α × Int)} (differ : (items.map (fun i => i.1)).Nodup)
    (range : ∀ i ∈ items, off ≤ i.2 ∧ i.2 ≤ 40) {i : α × Int} (hi : i ∈ items) (s : State) :
    (items.foldl edit s).value? (send i.1) = some i.2 := by
  have fold := foldl_once (f := edit) (get := fun u => u.value? (send i.1)) (i := i) (g := fun _ => some i.2) (l := items)
    (fun u => h.value u i.1 i.2 (range i hi).1 (range i hi).2) (fun u j hj other => h.stands u j i.1 fun e => ?_)
    (List.Nodup.of_map _ differ) s
  · rw [fold, if_pos hi]
  · exact other (List.inj_on_of_nodup_map differ hj hi e.symm)

omit [DecidableEq α] in
theorem EditsOne.value_foldl_other {items : List (α × Int)} {src : α} (hsrc : src ∉ items.map (fun i => i.1)) (s : State) :
    (items.foldl edit s).value? (send src) = s.value? (send src) := by
  induction items generalizing s with
  | nil => rfl
  | cons i rest ih =>
    rw [List.map_cons, List.mem_cons, not_or] at hsrc
    rw [List.foldl_cons, ih hsrc.2, h.stands s i src hsrc.1]

omit [DecidableEq α] in
theorem EditsOne.entry_foldl_other {items : List (α × Int)} {el : Element} (hel : ∀ i ∈ items, el ≠ send i.1) (s : State) :
    (items.foldl edit s).entry? el = s.entry? el := by
  induction items generalizing s with
  | nil => rfl
  | cons i rest ih =>
    rw [List.foldl_cons, ih (fun j hj => hel j (List.mem_cons_of_mem i hj)), h.entry,
      if_neg fun e => hel i List.mem_cons_self e.2]

/-- The fade on an entry that is changed leaves with the write. -/
theorem EditsOne.entry_foldl {items : List (α × Int)} (differ : (items.map (fun i => i.1)).Nodup) {i : α × Int}
    (hi : i ∈ items) (s : State) (old : has i.1 s = true) : (items.foldl edit s).entry? (send i.1) = none := by
  induction items generalizing s with
  | nil => cases hi
  | cons j rest ih =>
    rw [List.map_cons, List.nodup_cons] at differ
    obtain ⟨new, differ⟩ := differ
    rw [List.foldl_cons]
    rcases List.mem_cons.1 hi with rfl | hi
    · rw [h.entry_foldl_other (fun x hx e => new ((h.injective i.1 x.1 e) ▸ List.mem_map_of_mem (f := fun i => i.1) hx)), h.entry, if_pos ⟨old, rfl⟩]
    · exact ih differ hi _ (by rw [h.has_edit, old, Bool.or_true])

end

/-! ## Removals (R108, R117) -/

section
variable {α E : Type} [DecidableEq α]

/-- What the removal of one source does. -/
structure DropsOne (entries : State → List E) (source : E → α) (send : α → Element) (drop : State → α → State) : Prop where
  takes : ∀ s src, entries (drop s src) = (entries s).filter (fun e => decide (source e ≠ src))
  entry : ∀ s src x, (drop s src).entry? x = if x = send src then none else s.entry? x
  loses : ∀ s src, losesOnly s (drop s src)

variable {entries : State → List E} {source : E → α} {send : α → Element} {drop : State → α → State}
  (h : DropsOne entries source send drop)
include h

theorem DropsOne.entries_foldl (srcs : List α) (s : State) :
    entries (srcs.foldl drop s) = (entries s).filter (fun e => decide (source e ∉ srcs)) := by
  induction srcs generalizing s with
  | nil => simp
  | cons src rest ih =>
    rw [List.foldl_cons, ih, h.takes, List.filter_filter]
    refine List.filter_congr fun e _ => ?_
    simp [not_or, Bool.and_comm]

theorem DropsOne.entry_foldl (srcs : List α) (s : State) (el : Element) :
    (srcs.foldl drop s).entry? el = if ∃ src ∈ srcs, el = send src then none else s.entry? el := by
  induction srcs generalizing s with
  | nil => simp
  | cons src rest ih =>
    rw [List.foldl_cons, ih, h.entry]
    by_cases own : el = send src <;> simp [own]

end

end Sys2Proof.Machine
end

section
/-! MIX_SET, and the edits of the entries of a mix (6.2). -/

namespace Sys2Proof.Machine

variable {s t u : State} {f : Fin 12}

/-! ## What a change of one mix leaves -/

/-- The state but for the mixes, the fade table, the slots, and what completions raise. -/
def besidesMixes (s : State) : State := besidesFades { s with foldback := { s.foldback with mixes := Table.replicate 12 {} } }

theorem besidesMixes_modMix (f : Fin 12) (g : Mix → Mix) (s : State) : besidesMixes (s.modMix f g) = besidesMixes s := rfl

theorem besidesMixes_removeEntry (el : Element) (s : State) : besidesMixes (removeEntry el s) = besidesMixes s := by
  simp [besidesMixes, besidesFades]

theorem besidesMixes_settleAll (s : State) : besidesMixes (settleAll s) = besidesMixes s := by
  simp [besidesMixes, besidesFades]

@[simp] theorem mix_settleAll (s : State) (f : Fin 12) : (settleAll s).mix f = s.mix f := by simp [State.mix]

/-- The answer leaves all but the mixes, the fade table, the slots, and what completions raise. -/
theorem answered_mixes (code : Nat) (fields : List Field) (h : besidesMixes u = besidesMixes s) :
    let t := answered code fields u
    t = { s with
      foldback := { s.foldback with mixes := t.foldback.mixes }, fades := t.fades
      engine := { s.engine with slots := t.engine.slots }, attention := t.attention, port := t.port } :=
  congrArg (fun x => { x with
    foldback := { x.foldback with mixes := u.foldback.mixes }, fades := u.fades
    engine := { x.engine with slots := u.engine.slots }, attention := u.attention, port := (answered code fields u).port }) h

/-! ## MIX_SET (R106) -/

theorem mixSet_ok {x : MixFields} {listener : Option (Option (Fin 64))} (values : mixValuesOk x = true)
    (hl : opt (indexOpt 64) x.listener = .ok listener) (known : listenerOk listener s = true) :
    mixSet (num f) x s = .ok ([], settleAll (writeSelected (.master f) x.master (s.modMix f (applyMix x listener)))) := by
  simp only [mixSet, index_num, ok_bind, hl, values, known, require_true]

theorem writeMaster_mix (f g : Fin 12) (z : Option Int) (s : State) :
    (writeSelected (.master f) z s).mix g =
      if f = g then { s.mix g with master := (z.map (clampCode off 40)).getD (s.mix g).master } else s.mix g := by
  cases z with
  | none =>
    show s.mix g = if f = g then s.mix g else s.mix g
    rw [ite_self]
  | some z =>
    show ((removeEntry (.master f) s).modMix f _).mix g = _
    rw [modMix_mix, removeEntry_mix]
    rfl

theorem besidesMixes_writeMaster (f : Fin 12) (z : Option Int) (s : State) :
    besidesMixes (writeSelected (.master f) z s) = besidesMixes s := by
  cases z with
  | none => rfl
  | some z => exact besidesMixes_removeEntry (.master f) s

/-! ## MIX_ENTRY_SET (R107) -/

theorem setEntry_mix (f g : Fin 12) (i : Source × Int) (s : State) :
    (setEntry f s i).mix g = if f = g then { s.mix g with entries := ((setEntry f s i).mix g).entries } else s.mix g := by
  rcases setEntry_cases f i s with ⟨-, e⟩ | ⟨-, e⟩ <;> rw [e]
  · have write : directWrite (.send f i.1) i.2 s = (removeEntry (.send f i.1) s).modMix f (fun x => { x with
        entries := x.entries.map (fun e => if e.source = i.1 then { e with level := elemClamp (.send f i.1) i.2 } else e) }) :=
      rfl
    rw [write, modMix_mix, removeEntry_mix]
    split <;> rfl
  · simp only [modMix_mix]
    split <;> rfl

theorem besidesMixes_setEntry (f : Fin 12) (s : State) (i : Source × Int) : besidesMixes (setEntry f s i) = besidesMixes s := by
  rcases setEntry_cases f i s with ⟨-, e⟩ | ⟨-, e⟩ <;> rw [e]
  · exact besidesMixes_removeEntry (.send f i.1) s
  · exact besidesMixes_modMix ..

theorem value_send_some {src : Source} (h : hasEntry f src s = true) : (s.value? (.send f src)).isSome = true := by
  rw [State.value?, Option.isSome_map, List.find?_isSome]
  simpa [hasEntry] using h

/-- One item writes the level of an entry, or appends one (R107). -/
theorem editsOne_setEntry (f : Fin 12) :
    EditsOne (entrySources f) (hasEntry f) (.send f) (setEntry f) where
  adds s i := setEntry_sources f i s
  holds src s := hasEntry_iff f src s
  injective a b h := by cases h; rfl
  value s src z lo hi := by
    rcases setEntry_cases f (src, z) s with ⟨has, e⟩ | ⟨new, e⟩ <;> rw [e]
    · obtain ⟨v, hv⟩ := Option.isSome_iff_exists.1 (value_send_some has)
      have stands : elemClamp (.send f src) z = z := elemClamp_of_inRange ⟨lo, hi⟩
      rw [value_directWrite, if_pos rfl, hv, Option.map_some, stands]
    · rw [value_addSend new, if_pos rfl]
  stands s i src hsrc := by
    have other : Element.send f src ≠ .send f i.1 := fun e => hsrc (by cases e; rfl)
    rcases setEntry_cases f i s with ⟨-, e⟩ | ⟨new, e⟩ <;> rw [e]
    · rw [value_directWrite, if_neg other]
    · rw [value_addSend new, if_neg other]
  entry s i x := by
    rcases setEntry_cases f i s with ⟨has, e⟩ | ⟨new, e⟩ <;> rw [e]
    · rw [entry_directWrite]
      simp only [has, true_and]
    · rw [modMix_entry, new, if_neg (by simp)]
  loses s i := by
    rcases setEntry_cases f i s with ⟨-, e⟩ | ⟨-, e⟩ <;> rw [e]
    · exact losesOnly_directWrite ..
    · exact losesOnly_refl s

theorem entryItems_addressed (items : List (Source × Int)) :
    entryItems (items.map (fun i => ⟨⟨sourceKind i.1, sourceIndex i.1⟩, i.2⟩)) = some (clamped items) := by
  induction items with
  | nil => rfl
  | cons i rest ih => simp [entryItems, sourceOf_source, ih, clamped]

theorem distinct_of_nodup {α : Type} [DecidableEq α] {l : List α} (h : l.Nodup) : distinct l = true := by
  induction l with
  | nil => rfl
  | cons a rest ih =>
    obtain ⟨new, h⟩ := List.nodup_cons.1 h
    simp [distinct, new, ih h]

theorem newSources_clamped (f : Fin 12) (items : List (Source × Int)) (s : State) :
    newSources f (clamped items) s = newSources f items s := by
  simp [newSources, clamped, List.filter_map, Function.comp_def]

section
variable {items : List (Source × Int)} (some : 1 ≤ items.length) (differ : (items.map (fun i => i.1)).Nodup)
include some differ

theorem mixEntrySet_checks :
    mixEntrySet (num f) (items.map (fun i => ⟨⟨sourceKind i.1, sourceIndex i.1⟩, i.2⟩)) s =
      if (s.mix f).entries.length + newSources f items s ≤ 24 then
        .ok (.byte (((clamped items).foldl (setEntry f) s).mix f).entries.length ::
          items.map (fun i => changedMark (hasEntry f i.1 s)), settleAll ((clamped items).foldl (setEntry f) s))
      else .error .full := by
  have indices : (items.map (fun i => (⟨⟨sourceKind i.1, sourceIndex i.1⟩, i.2⟩ : EntryItem))).all
      (fun i => srcIndexOk i.source.kind i.source.index) = true := by simp [srcIndexOk_source]
  have length : decide (1 ≤ (items.map (fun i => (⟨⟨sourceKind i.1, sourceIndex i.1⟩, i.2⟩ : EntryItem))).length) = true := by
    simpa using some
  have distinct : distinct ((clamped items).map (·.1)) = true := distinct_of_nodup (clamped_sources items ▸ differ)
  simp only [mixEntrySet, index_num, ok_bind, indices, length, require_true, entryItems_addressed, need_some, distinct,
    newSources_clamped]
  by_cases room : (s.mix f).entries.length + newSources f items s ≤ 24
  · rw [if_pos room, decide_eq_true (show _ ≤ Config.mixEntryPlaces from room)]
    simp [ok_bind, require_true, clamped]
  · rw [if_neg room, decide_eq_false (show ¬ _ ≤ Config.mixEntryPlaces from room)]
    rfl

end

/-! ## MIX_ENTRY_REMOVE (R108) -/

theorem dropEntry_mix (f g : Fin 12) (src : Source) (s : State) :
    (dropEntry f s src).mix g =
      if f = g then { s.mix g with entries := (s.mix g).entries.filter (fun e => decide (e.source ≠ src)) } else s.mix g := by
  rw [dropEntry, modMix_mix, removeEntry_mix]

theorem besidesMixes_dropEntry (f : Fin 12) (s : State) (src : Source) : besidesMixes (dropEntry f s src) = besidesMixes s :=
  besidesMixes_removeEntry (.send f src) s

/-- The removal of one source takes its entry and the fade on it (R49, R108). -/
theorem dropsOne_dropEntry (f : Fin 12) :
    DropsOne (fun s => (s.mix f).entries) (fun e => e.source) (.send f) (dropEntry f) where
  takes s src := by rw [dropEntry_mix, if_pos rfl]
  entry s src x := by rw [dropEntry, modMix_entry, entry_removeEntry]
  loses s src := losesOnly_removeEntry (.send f src) s

/-! ## An edit of the entries of one mix -/

/-- A change that leaves all but the entries of one mix, the fade table, and the losses of slots. -/
structure EditsMix (f : Fin 12) (s u : State) : Prop where
  own : u.mix f = { s.mix f with entries := (u.mix f).entries }
  others : ∀ g, g ≠ f → u.mix g = s.mix g
  loses : losesOnly s u
  aside : besidesMixes u = besidesMixes s

theorem EditsMix.foldl {β : Type} {step : State → β → State} (h : ∀ s b, EditsMix f s (step s b)) (l : List β) (s : State) :
    EditsMix f s (l.foldl step s) := by
  induction l generalizing s with
  | nil => exact ⟨rfl, fun _ _ => rfl, losesOnly_refl s, rfl⟩
  | cons b l ih =>
    have first := h s b
    have rest := ih (step s b)
    refine ⟨?_, fun g hg => (rest.others g hg).trans (first.others g hg), first.loses.trans rest.loses,
      rest.aside.trans first.aside⟩
    rw [List.foldl_cons, rest.own, first.own]

theorem editsMix_setEntry (f : Fin 12) (s : State) (i : Source × Int) : EditsMix f s (setEntry f s i) where
  own := (setEntry_mix f f i s).trans (if_pos rfl)
  others g hg := (setEntry_mix f g i s).trans (if_neg (Ne.symm hg))
  loses := (editsOne_setEntry f).loses s i
  aside := besidesMixes_setEntry f s i

theorem editsMix_dropEntry (f : Fin 12) (s : State) (src : Source) : EditsMix f s (dropEntry f s src) where
  own := by rw [dropEntry_mix, if_pos rfl]
  others g hg := (dropEntry_mix f g src s).trans (if_neg (Ne.symm hg))
  loses := (dropsOne_dropEntry f).loses s src
  aside := besidesMixes_dropEntry f s src

/-- What the obligation says of the state after an edit. -/
theorem EditsMix.edited (h : EditsMix f s u) (code : Nat) (fields : List Field) :
    let t := answered code fields (settleAll u)
    t.mix f = { s.mix f with entries := (t.mix f).entries } ∧ (∀ g, g ≠ f → t.mix g = s.mix g) ∧ lossReports s t ∧
      t = { s with
        foldback := { s.foldback with mixes := t.foldback.mixes }, fades := t.fades,
        engine := { s.engine with slots := t.engine.slots }, attention := t.attention, port := t.port } := by
  have own := h.own
  have others := h.others
  have reports := lossReports_settleAll h.loses
  have aside := (besidesMixes_settleAll u).trans h.aside
  simp only [← mix_settleAll u] at own others
  generalize settleAll u = v at *
  exact ⟨own, others, reports, answered_mixes _ _ aside⟩

theorem removeSources_eq (f : Fin 12) (srcs : List Source) (s : State) :
    removeSources f srcs s = .ok ([.byte srcs.length, .byte ((settleAll (srcs.foldl (dropEntry f) s)).mix f).entries.length],
      settleAll (srcs.foldl (dropEntry f) s)) := rfl

end Sys2Proof.Machine

open Sys2Proof Sys2Proof.Machine

/-- Settles O50. -/
theorem mixEdits : Obligations.MixEdits := by
  unfold Obligations.MixEdits
  intro f s h
  refine ⟨fun x listener values hl known => ?_, fun items some differ full => next_refused h ?_,
    fun items some differ room => ?_, ?_, fun src new => next_refused h ?_, fun src has => ?_⟩
  · have ok := mixSet_ok (f := f) values hl known
    have record := writeMaster_mix f (z := x.master) (s := s.modMix f (applyMix x listener))
    have entries := entry_writeSelected (.master f) x.master (s.modMix f (applyMix x listener))
    have frame := besidesMixes_writeMaster f x.master (s.modMix f (applyMix x listener))
    generalize writeSelected (.master f) x.master (s.modMix f (applyMix x listener)) = v at *
    rw [← besidesMixes_settleAll v] at frame
    simp only [← mix_settleAll v] at record
    simp only [← entry_settleAll v] at entries
    generalize settleAll v = u at *
    refine ⟨_, next_answered h ok, ?_, fun g hg => ?_, entries, congrArg (fun x => x.table) frame,
      congrArg (fun x => x.relay) frame, congrArg (fun x => x.cues) frame, congrArg (fun x => x.links) frame,
      congrArg (fun x => x.foldback.talkbacks) frame, rfl⟩
    · refine ((record f).trans (if_pos rfl)).trans ?_
      rw [modMix_mix, if_pos rfl]
      simp only [applyMix, pick_eq]
      rfl
    · refine ((record g).trans (if_neg (Ne.symm hg))).trans ?_
      rw [modMix_mix, if_neg (Ne.symm hg)]
  · exact (mixEntrySet_checks some differ).trans (if_neg (by omega))
  · have ok := (mixEntrySet_checks some differ).trans (if_pos room)
    have differ' : ((clamped items).map (fun i => i.1)).Nodup := clamped_sources items ▸ differ
    have range : ∀ i ∈ clamped items, off ≤ i.2 ∧ i.2 ≤ 40 := fun i hi => by
      obtain ⟨j, -, rfl⟩ := List.mem_map.1 hi
      exact ⟨clampCode_ge _, clampCode_le _ (by simp [off])⟩
    have edits := editsOne_setEntry f
    have sources := edits.sources_foldl differ' s
    rw [clamped_sources] at sources
    have values := fun i hi => edits.value_foldl differ' range (i := i) hi s
    have stands := fun src hsrc => edits.value_foldl_other (items := clamped items) (src := src)
      (by rw [clamped_sources]; exact hsrc) s
    have gone := fun i hi => edits.entry_foldl differ' (i := i) hi s
    have kept := fun el hel => edits.entry_foldl_other (items := clamped items) (el := el) hel s
    have edited := EditsMix.foldl (editsMix_setEntry f) (clamped items) s
    have member : ∀ i ∈ items, (i.1, clampCode off 40 i.2) ∈ clamped items := fun i hi => List.mem_map_of_mem hi
    generalize (clamped items).foldl (setEntry f) s = u at *
    replace edited := fun fields => edited.edited 33 fields
    rw [entrySources, ← mix_settleAll u] at sources
    rw [← mix_settleAll u] at ok
    simp only [← value_settleAll u] at values stands
    simp only [← entry_settleAll u] at gone kept
    generalize settleAll u = v at *
    refine ⟨_, next_answered h ok, sources, fun i hi has => gone (i.1, clampCode off 40 i.2) (member i hi) has,
      fun i hi => (value_answered ..).trans (values _ (member i hi)), fun src hsrc => (value_answered ..).trans (stands src hsrc),
      fun el hel => kept el fun i hi => ?_, edited _, rfl⟩
    obtain ⟨j, hj, rfl⟩ := List.mem_map.1 hi
    exact hel j hj
  · have drops := dropsOne_dropEntry f
    have entries := drops.entries_foldl (entrySources f s) s
    have fades := drops.entry_foldl (entrySources f s) s
    have edited := EditsMix.foldl (editsMix_dropEntry f) (entrySources f s) s
    have ok : mixEntryRemove (num f) .all s = removeSources f (entrySources f s) s := by
      simp only [mixEntryRemove, index_num, ok_bind]
    rw [removeSources_eq] at ok
    have none : (s.mix f).entries.filter (fun e => decide (e.source ∉ entrySources f s)) = [] := by
      simp only [List.filter_eq_nil_iff, decide_eq_true_eq, not_not]
      exact fun e he => List.mem_map_of_mem he
    generalize (entrySources f s).foldl (dropEntry f) s = u at *
    have empty : ((settleAll u).mix f).entries = [] := by rw [mix_settleAll]; exact entries.trans none
    replace edited := fun fields => edited.edited 34 fields
    simp only [← entry_settleAll u] at fades
    rw [empty, entrySources, List.length_map] at ok
    generalize settleAll u = v at *
    refine ⟨_, next_answered h ok, empty, edited _,
      fun src has => (fades _).trans (if_pos ⟨src, (hasEntry_iff ..).1 has, rfl⟩), fun el hel => (fades el).trans (if_neg ?_), rfl⟩
    rintro ⟨src, hsrc, rfl⟩
    exact hel src ((hasEntry_iff ..).2 hsrc) rfl
  · simp only [mixEntryRemove, index_num, ok_bind, srcIndexOk_source, require_true, sourceOf_source, need_some, new,
      require_false]
    rfl
  · have drops := dropsOne_dropEntry f
    have entries := drops.takes s src
    have fades := drops.entry s src
    have edited := editsMix_dropEntry f s src
    have ok : mixEntryRemove (num f) (.one ⟨sourceKind src, sourceIndex src⟩) s = removeSources f [src] s := by
      simp only [mixEntryRemove, index_num, ok_bind, srcIndexOk_source, require_true, sourceOf_source, need_some, has]
    simp only [removeSources_eq, List.foldl_cons, List.foldl_nil, List.length_singleton] at ok
    generalize dropEntry f s src = u at *
    replace edited := fun fields => edited.edited 34 fields
    simp only [← entry_settleAll u] at fades
    rw [← mix_settleAll u] at entries
    generalize settleAll u = v at *
    exact ⟨_, next_answered h ok, entries, fades, edited _, rfl⟩
end

section
/-! The records of the Relay Unit: the entries of the programme, backup and selection, stations and presets (7.1 to 7.3). -/

namespace Sys2Proof.Machine

variable {s t u : State}

/-! ## The entries of the relay programme (R117) -/

/-- The state but for the relay's entries, the fade table, the slots, and what completions raise. -/
def besidesRelayEntries (s : State) : State := besidesFades { s with relay := { s.relay with entries := [] } }

theorem besidesRelayEntries_removeEntry (el : Element) (s : State) :
    besidesRelayEntries (removeEntry el s) = besidesRelayEntries s := by
  simp [besidesRelayEntries, besidesFades]

theorem besidesRelayEntries_settleAll (s : State) : besidesRelayEntries (settleAll s) = besidesRelayEntries s := by
  simp [besidesRelayEntries, besidesFades]

theorem besidesRelayEntries_setRelayEntry (s : State) (i : RelaySource × Int) :
    besidesRelayEntries (setRelayEntry s i) = besidesRelayEntries s := by
  rcases setRelayEntry_cases i s with ⟨-, e⟩ | ⟨-, e⟩ <;> rw [e]
  · exact besidesRelayEntries_removeEntry (.relaySend i.1) s
  · rfl

theorem value_relaySend_some {src : RelaySource} (h : hasRelayEntry src s = true) :
    (s.value? (.relaySend src)).isSome = true := by
  rw [State.value?, Option.isSome_map, List.find?_isSome]
  simpa [hasRelayEntry] using h

/-- The sources of the programme, in insertion order. -/
def relaySources (s : State) : List RelaySource := s.relay.entries.map (fun e => e.source)

/-- One item writes the level of an entry, or appends one (R117). -/
theorem editsOne_setRelayEntry : EditsOne relaySources hasRelayEntry .relaySend setRelayEntry where
  adds s i := setRelayEntry_sources i s
  holds src s := hasRelayEntry_iff src s
  injective a b h := by cases h; rfl
  value s src z lo hi := by
    rcases setRelayEntry_cases (src, z) s with ⟨has, e⟩ | ⟨new, e⟩ <;> rw [e]
    · obtain ⟨v, hv⟩ := Option.isSome_iff_exists.1 (value_relaySend_some has)
      have stands : elemClamp (.relaySend src) z = z := elemClamp_of_inRange ⟨lo, hi⟩
      rw [value_directWrite, if_pos rfl, hv, Option.map_some, stands]
    · rw [value_addRelaySend new, if_pos rfl]
  stands s i src hsrc := by
    have other : Element.relaySend src ≠ .relaySend i.1 := fun e => hsrc (by cases e; rfl)
    rcases setRelayEntry_cases i s with ⟨-, e⟩ | ⟨new, e⟩ <;> rw [e]
    · rw [value_directWrite, if_neg other]
    · rw [value_addRelaySend new, if_neg other]
  entry s i x := by
    rcases setRelayEntry_cases i s with ⟨has, e⟩ | ⟨new, e⟩ <;> rw [e]
    · rw [entry_directWrite]
      simp only [has, true_and]
    · rw [modRelay_entry, new, if_neg (by simp)]
  loses s i := by
    rcases setRelayEntry_cases i s with ⟨-, e⟩ | ⟨-, e⟩ <;> rw [e]
    · exact losesOnly_directWrite ..
    · exact losesOnly_refl s

/-- The removal of one source takes its entry and the fade on it (R49, R117). -/
theorem dropsOne_dropRelayEntry :
    DropsOne (fun s => s.relay.entries) (fun e => e.source) .relaySend dropRelayEntry where
  takes s src := by simp [dropRelayEntry]
  entry s src x := by rw [dropRelayEntry, modRelay_entry, entry_removeEntry]
  loses s src := losesOnly_removeEntry (.relaySend src) s

theorem relayItems_addressed (items : List (RelaySource × Int)) :
    relayItems (items.map (fun i => ⟨⟨relaySourceKind i.1, relaySourceIndex i.1⟩, i.2⟩)) = some (clamped items) := by
  induction items with
  | nil => rfl
  | cons i rest ih => simp [relayItems, relaySourceOf_source, ih, clamped]

theorem newRelaySources_clamped (items : List (RelaySource × Int)) (s : State) :
    newRelaySources (clamped items) s = newRelaySources items s := by
  simp [newRelaySources, clamped, List.filter_map, Function.comp_def]

section
variable {items : List (RelaySource × Int)} (some : 1 ≤ items.length) (differ : (items.map (fun i => i.1)).Nodup)
include some differ

theorem relayEntrySet_checks :
    relayEntrySet (items.map (fun i => ⟨⟨relaySourceKind i.1, relaySourceIndex i.1⟩, i.2⟩)) s =
      if s.relay.entries.length + newRelaySources items s ≤ 8 then
        .ok (.byte ((clamped items).foldl setRelayEntry s).relay.entries.length ::
          items.map (fun i => changedMark (hasRelayEntry i.1 s)), settleAll ((clamped items).foldl setRelayEntry s))
      else .error .full := by
  have indices : (items.map (fun i => (⟨⟨relaySourceKind i.1, relaySourceIndex i.1⟩, i.2⟩ : EntryItem))).all
      (fun i => srcIndexOk i.source.kind i.source.index) = true := by simp [srcIndexOk_relaySource]
  have length : decide
      (1 ≤ (items.map (fun i => (⟨⟨relaySourceKind i.1, relaySourceIndex i.1⟩, i.2⟩ : EntryItem))).length) = true := by
    simpa using some
  have distinct : distinct ((clamped items).map (·.1)) = true := distinct_of_nodup (clamped_sources items ▸ differ)
  simp only [relayEntrySet, ok_bind, indices, length, require_true, relayItems_addressed, need_some, distinct,
    newRelaySources_clamped]
  by_cases room : s.relay.entries.length + newRelaySources items s ≤ 8
  · rw [if_pos room, decide_eq_true (show _ ≤ Config.relayEntryPlaces from room)]
    simp [ok_bind, require_true, clamped]
  · rw [if_neg room, decide_eq_false (show ¬ _ ≤ Config.relayEntryPlaces from room)]
    rfl

end

/-- A change that leaves all but the relay's entries, the fade table, and the losses of slots. -/
def editsRelay (s u : State) : Prop := losesOnly s u ∧ besidesRelayEntries u = besidesRelayEntries s

theorem editsRelay_foldl {β : Type} {step : State → β → State} (h : ∀ s b, editsRelay s (step s b)) (l : List β) (s : State) :
    editsRelay s (l.foldl step s) :=
  ⟨losesOnly_foldl (fun s b => (h s b).1) l s, foldl_keeps besidesRelayEntries (fun s b => (h s b).2) l s⟩

theorem editsRelay_setRelayEntry (s : State) (i : RelaySource × Int) : editsRelay s (setRelayEntry s i) :=
  ⟨editsOne_setRelayEntry.loses s i, besidesRelayEntries_setRelayEntry s i⟩

theorem editsRelay_dropRelayEntry (s : State) (src : RelaySource) : editsRelay s (dropRelayEntry s src) :=
  ⟨dropsOne_dropRelayEntry.loses s src, besidesRelayEntries_removeEntry (.relaySend src) s⟩

/-- What the obligation says of the state after an edit. -/
theorem edited_of_editsRelay (h : editsRelay s u) (code : Nat) (fields : List Field) :
    let t := answered code fields (settleAll u)
    lossReports s t ∧
      t = { s with
        relay := { s.relay with entries := t.relay.entries }, fades := t.fades
        engine := { s.engine with slots := t.engine.slots }, attention := t.attention, port := t.port } := by
  obtain ⟨loses, aside⟩ := h
  have reports := lossReports_settleAll loses
  rw [← besidesRelayEntries_settleAll] at aside
  generalize settleAll u = v at *
  exact ⟨reports, congrArg (fun x => { x with
    relay := { x.relay with entries := v.relay.entries }, fades := v.fades
    engine := { x.engine with slots := v.engine.slots }, attention := v.attention
    port := (answered code fields v).port }) aside⟩

theorem removeRelaySources_eq (srcs : List RelaySource) (s : State) :
    removeRelaySources srcs s =
      .ok ([.byte srcs.length, .byte (settleAll (srcs.foldl dropRelayEntry s)).relay.entries.length],
        settleAll (srcs.foldl dropRelayEntry s)) := rfl

/-! ## STATION_SET (R119) -/

theorem station_writeSelected (n m : Fin 32) (z : Option Int) (s : State) :
    (writeSelected (.station n) z s).station m =
      if n = m then { s.station m with volume := (z.map (clampCode off 0)).getD (s.station m).volume } else s.station m := by
  cases z with
  | none =>
    show s.station m = if n = m then s.station m else s.station m
    rw [ite_self]
  | some z =>
    show ((removeEntry (.station n) s).modStation n _).station m = _
    rw [modStation_station]
    simp only [State.station, removeEntry_relay]
    rfl

theorem setStation_station (f : StationFields) (s : State) (n m : Fin 32) :
    (setStation f s n).station m =
      if n = m then { applyStation f (s.station m) with
        volume := (f.volume.map (clampCode off 0)).getD (s.station m).volume } else s.station m := by
  rw [setStation, station_writeSelected, modStation_station]
  split <;> rfl

/-- The state but for the stations, the fade table, the slots, and what completions raise. -/
def besidesStations (s : State) : State := besidesFades { s with relay := { s.relay with stations := Table.replicate 32 {} } }

theorem besidesStations_settleAll (s : State) : besidesStations (settleAll s) = besidesStations s := by
  simp [besidesStations, besidesFades]

theorem besidesStations_setStation (f : StationFields) (s : State) (n : Fin 32) :
    besidesStations (setStation f s n) = besidesStations s := by
  unfold setStation
  cases f.volume with
  | none => rfl
  | some z => simp [besidesStations, besidesFades, writeSelected, directWrite, State.write]

theorem setStations_station (f : StationFields) (m : BitVec 32) (s : State) (n : Fin 32) :
    ((members m).foldl (setStation f) s).station n =
      if inSet m n = true then { applyStation f (s.station n) with
        volume := (f.volume.map (clampCode off 0)).getD (s.station n).volume } else s.station n :=
  foldl_members (get := fun u => u.station n) (g := fun x => { applyStation f x with
    volume := (f.volume.map (clampCode off 0)).getD x.volume })
    (fun u => (setStation_station f u n n).trans (if_pos rfl))
    (fun u j hj => (setStation_station f u j n).trans (if_neg hj)) m s

/-- The entry on the volume of a station of the set leaves when a volume is selected. -/
theorem setStations_entry (f : StationFields) (m : BitVec 32) (s : State) (el : Element) :
    ((members m).foldl (setStation f) s).entry? el =
      if f.volume.isSome ∧ ∃ n, el = .station n ∧ inSet m n = true then none else s.entry? el := by
  have one : ∀ u n, (setStation f u n).entry? el = if f.volume.isSome ∧ el = .station n then none else u.entry? el :=
    fun u n => entry_writeSelected ..
  by_cases isStation : ∃ n, el = .station n
  · obtain ⟨n, rfl⟩ := isStation
    rw [foldl_members (f := setStation f) (get := fun u => u.entry? (.station n)) (i := n)
      (g := fun e => if f.volume.isSome then none else e) (fun u => by rw [one]; simp)
      (fun u j hj => by rw [one, if_neg]; simp [Ne.symm hj]) m s]
    by_cases hn : inSet m n = true <;> simp [hn]
  · rw [if_neg fun h => isStation ⟨_, h.2.choose_spec.1⟩]
    refine foldl_keeps (fun u => u.entry? el) (fun u n => ?_) _ _
    rw [one, if_neg fun h => isStation ⟨n, h.2⟩]

theorem stationSet_ok {m : BitVec 32} {f : StationFields} (h : m ≠ 0#32) (values : stationValuesOk f = true) :
    stationSet m.toNat f s = .ok ([], settleAll ((members m).foldl (setStation f) s)) := by
  have some : decide (m.toNat ≠ 0) = true := decide_eq_true fun e => h (BitVec.eq_of_toNat_eq e)
  simp only [stationSet, maskOf_toNat, ok_bind, some, values, Bool.and_self, require_true]

@[simp] theorem station_settleAll (s : State) (n : Fin 32) : (settleAll s).station n = s.station n := by simp [State.station]

/-! ## RELAY_SET and PRESET_SET (R118, R121) -/

theorem keepsBackup_iff {channel : Option (Option (Fin 64))} {sel : Selection} :
    keepsBackup channel sel = true ↔ ¬ (channel = some none ∧ sel = .backup) := by
  rcases channel with _ | _ | c <;> cases sel <;> simp [keepsBackup]

theorem relaySet_checks {f : RelayFields} {channel : Option (Option (Fin 64))} (any : f.channel.isSome ∨ f.level.isSome)
    (inside : f.beyond = false) (hc : opt (indexOpt 64) f.channel = .ok channel) :
    relaySet f s = if keepsBackup channel s.relay.selection then
      .ok ([], s.modRelay (fun x => { x with
        backup := pick x.backup channel, backupLevel := pick x.backupLevel (f.level.map (clampCode off 40)) }))
      else .error .inUse := by
  have any : (f.channel.isSome || f.level.isSome) = true := by simpa using any
  simp only [relaySet, hc, ok_bind, any, inside, Bool.not_false, Bool.and_self, require_true]
  cases keepsBackup channel s.relay.selection <;> rfl

theorem presetSet_checks {p : Fin 16} {f : RawPreset} {source : Option (Fin 64)} {target : CallTarget} {priority : Priority}
    (hs : indexOpt 64 f.source = .ok source) (inside : targetIndexOk f.target = true) (ht : targetOf f.target = some target)
    (hp : priorityOf f.priority = some priority) :
    presetSet (num p) f s = if callLives p s then .error .inUse else .ok ([], s.modPreset p (fun _ =>
      ⟨source, target, priority, clampCode off 40 f.gain, clampCode 0 400 f.depth, clampLength f.maxLength,
        clampSilence f.silence⟩)) := by
  simp only [presetSet, index_num, ok_bind, hs, inside, require_true, ht, need_some, hp]
  cases callLives p s <;> rfl

end Sys2Proof.Machine

open Sys2Proof Sys2Proof.Machine

/-- Settles O52. -/
theorem relayEntryEdits : Obligations.RelayEntryEdits := by
  unfold Obligations.RelayEntryEdits
  intro s h
  refine ⟨fun items some differ full => next_refused h ?_, fun items some differ room => ?_,
    fun r z => next_refused h ?_, ?_, fun src has => ?_, fun src new => next_refused h ?_⟩
  · exact (relayEntrySet_checks some differ).trans (if_neg (by omega))
  · have ok := (relayEntrySet_checks some differ).trans (if_pos room)
    have differ' : ((clamped items).map (fun i => i.1)).Nodup := clamped_sources items ▸ differ
    have range : ∀ i ∈ clamped items, off ≤ i.2 ∧ i.2 ≤ 40 := fun i hi => by
      obtain ⟨j, -, rfl⟩ := List.mem_map.1 hi
      exact ⟨clampCode_ge _, clampCode_le _ (by simp [off])⟩
    have edits := editsOne_setRelayEntry
    have sources := edits.sources_foldl differ' s
    rw [clamped_sources] at sources
    have values := fun i hi => edits.value_foldl differ' range (i := i) hi s
    have stands := fun src hsrc => edits.value_foldl_other (items := clamped items) (src := src)
      (by rw [clamped_sources]; exact hsrc) s
    have gone := fun i hi => edits.entry_foldl differ' (i := i) hi s
    have kept := fun el hel => edits.entry_foldl_other (items := clamped items) (el := el) hel s
    have edited := fun fields => edited_of_editsRelay (editsRelay_foldl editsRelay_setRelayEntry (clamped items) s) 41 fields
    have member : ∀ i ∈ items, (i.1, clampCode off 40 i.2) ∈ clamped items := fun i hi => List.mem_map_of_mem hi
    generalize (clamped items).foldl setRelayEntry s = u at *
    rw [relaySources, ← settleAll_relay u] at sources
    rw [← settleAll_relay u] at ok
    simp only [← value_settleAll u] at values stands
    simp only [← entry_settleAll u] at gone kept
    generalize settleAll u = v at *
    refine ⟨_, next_answered h ok, sources, fun i hi => (value_answered ..).trans (values _ (member i hi)),
      fun i hi has => gone (i.1, clampCode off 40 i.2) (member i hi) has,
      fun src hsrc => (value_answered ..).trans (stands src hsrc),
      fun el hel => kept el fun i hi => ?_, edited _, rfl⟩
    obtain ⟨j, hj, rfl⟩ := List.mem_map.1 hi
    exact hel j hj
  · have index : srcIndexOk 1 (num r) = true := by simp [srcIndexOk, idx_num]
    simp only [relayEntrySet, List.all_cons, List.all_nil, index, Bool.and_self, require_true, ok_bind, relayItems]
    rfl
  · have drops := dropsOne_dropRelayEntry
    have entries := drops.entries_foldl (relaySources s) s
    have fades := drops.entry_foldl (relaySources s) s
    have edited := fun fields => edited_of_editsRelay (editsRelay_foldl editsRelay_dropRelayEntry (relaySources s) s) 42 fields
    have ok : relayEntryRemove .all s = removeRelaySources (relaySources s) s := rfl
    rw [removeRelaySources_eq] at ok
    have none : s.relay.entries.filter (fun e => decide (e.source ∉ relaySources s)) = [] := by
      simp only [List.filter_eq_nil_iff, decide_eq_true_eq, not_not]
      exact fun e he => List.mem_map_of_mem he
    generalize (relaySources s).foldl dropRelayEntry s = u at *
    have empty : (settleAll u).relay.entries = [] := by rw [settleAll_relay]; exact entries.trans none
    simp only [← entry_settleAll u] at fades
    rw [empty, relaySources, List.length_map] at ok
    generalize settleAll u = v at *
    refine ⟨_, next_answered h ok, empty, edited _,
      fun src has => (fades _).trans (if_pos ⟨src, (hasRelayEntry_iff ..).1 has, rfl⟩),
      fun el hel => (fades el).trans (if_neg ?_), rfl⟩
    rintro ⟨src, hsrc, rfl⟩
    exact hel src ((hasRelayEntry_iff ..).2 hsrc) rfl
  · have drops := dropsOne_dropRelayEntry
    have entries := drops.takes s src
    have fades := drops.entry s src
    have edited := fun fields => edited_of_editsRelay (editsRelay_dropRelayEntry s src) 42 fields
    have ok : relayEntryRemove (.one ⟨relaySourceKind src, relaySourceIndex src⟩) s = removeRelaySources [src] s := by
      simp only [relayEntryRemove, ok_bind, srcIndexOk_relaySource, require_true, relaySourceOf_source, need_some, has]
    simp only [removeRelaySources_eq, List.foldl_cons, List.foldl_nil, List.length_singleton] at ok
    generalize dropRelayEntry s src = u at *
    simp only [← entry_settleAll u] at fades
    rw [← settleAll_relay u] at entries
    generalize settleAll u = v at *
    exact ⟨_, next_answered h ok, entries, fades, edited _, rfl⟩
  · simp only [relayEntryRemove, ok_bind, srcIndexOk_relaySource, require_true, relaySourceOf_source, need_some, new,
      require_false]
    rfl

/-- Settles O53. -/
theorem relayRecordsWritten : Obligations.RelayRecordsWritten := by
  unfold Obligations.RelayRecordsWritten
  intro s h
  refine ⟨fun f channel any inside hc => ⟨fun none backup => next_refused h ?_, fun keeps => next_answered h ?_⟩,
    next_answered h rfl, fun none => next_refused h ?_, fun backup => next_answered h ?_, fun m f some values => ?_,
    fun p f source target priority hs inside ht hp => ⟨fun lives => next_refused h ?_, fun idle => ?_⟩⟩
  · rw [relaySet_checks any inside hc, if_neg fun keeps => keepsBackup_iff.1 keeps ⟨none, backup⟩]
  · rw [relaySet_checks any inside hc, if_pos (keepsBackup_iff.2 keeps)]
    simp only [pick_eq]
    rfl
  · show (require (decide (Selection.backup = .main) || s.relay.backup.isSome) .invalid >>= fun _ => _) = _
    rw [none]
    rfl
  · show (require (decide (Selection.backup = .main) || s.relay.backup.isSome) .invalid >>= fun _ => _) = _
    rw [backup]
    rfl
  · have ok := stationSet_ok (s := s) some values
    have record := setStations_station f m s
    have entries := setStations_entry f m s
    have frame := foldl_keeps besidesStations (besidesStations_setStation f) (members m) s
    generalize (members m).foldl (setStation f) s = v at *
    rw [← besidesStations_settleAll] at frame
    simp only [← station_settleAll v] at record
    simp only [← entry_settleAll v] at entries
    generalize settleAll v = u at *
    refine ⟨_, next_answered h ok, fun n hn => (record n).trans (if_neg (by simp [hn])), fun n hn => ?_, entries,
      congrArg (fun x => { x.relay with stations := u.relay.stations }) frame, congrArg (fun x => x.table) frame,
      congrArg (fun x => x.cues) frame, congrArg (fun x => x.foldback) frame, rfl⟩
    refine ((record n).trans (if_pos hn)).trans ?_
    simp only [applyStation, pick_eq]
    rfl
  · rw [presetSet_checks hs inside ht hp, if_pos lives]
  · refine ⟨_, next_answered h ((presetSet_checks hs inside ht hp).trans (if_neg (by simp [idle]))), ?_, fun q hq => ?_, rfl⟩
    · exact (modPreset_preset ..).trans (if_pos rfl)
    · exact (modPreset_preset ..).trans (if_neg (Ne.symm hq))
end

section
/-! The cases of a fade request, LEVEL_SET, and fades that are requested in turn (3.4, 3.8). -/

namespace Sys2Proof.Machine

variable {s t u v : State} {el : Element} {cur z : Int} {d : Nat} {o : FadeOwner}

/-! ## What a fade request leaves (R45 to R47, R54) -/

@[simp] theorem entry_snapTo (el : Element) (z : Int) (s : State) (x : Element) :
    (snapTo el z s).entry? x = if x = el then none else s.entry? x := by
  rw [snapTo_eq, entry_raiseFadeSnap, entry_directWrite]

theorem value_snapTo (el : Element) (z : Int) (s : State) (x : Element) :
    (snapTo el z s).value? x = if x = el then (s.value? el).map (fun _ => elemClamp el z) else s.value? x := by
  rw [snapTo_eq, value_raiseFadeSnap, value_directWrite]

theorem elemClamp_elemClamp (el : Element) (z : Int) : elemClamp el (elemClamp el z) = elemClamp el z :=
  elemClamp_of_inRange (inRangeOf_clamp el z)

theorem entry_fadeRequest_ne {x : Element} (h : x ≠ el) (z : Int) (d : Nat) (o : FadeOwner) (s : State) :
    (fadeRequest el z d o s).2.entry? x = s.entry? x := by
  rcases fadeRequest_spec el z d o s with ⟨-, e⟩ | ⟨cur, -, ⟨-, e⟩ | ⟨-, -, ⟨old, he, e⟩ | ⟨he, -, e⟩ | ⟨-, -, e⟩⟩⟩ <;> rw [e]
  · rw [entry_directWrite, if_neg h]
  · exact (entry_replaceEntry _ _ _ (by simp [fadeEntry, he]) x).trans (if_neg h)
  · exact (entry_newEntry _ _ he x).trans (if_neg h)
  · rw [entry_snapTo, if_neg h]

/-- A request that writes at once, or snaps, leaves the element at the target with no fade on it. -/
def stands (el : Element) (z : Int) (t : State) : Prop := t.entry? el = none ∧ t.value? el = some z

/-- A request that starts a fade leaves its entry, and the element at the value that stood. -/
def fades (el : Element) (cur z : Int) (d : Nat) (o : FadeOwner) (t : State) : Prop :=
  t.entry? el = some ⟨el, o, cur, z, d, 0⟩ ∧ t.value? el = some cur

section
variable (hv : s.value? el = some cur)
include hv

theorem fadeRequest_stands (direct : d = 0 ∨ elemClamp el z = cur) :
    (fadeRequest el z d o s).1 = .set ∧ stands el (elemClamp el z) (fadeRequest el z d o s).2 := by
  rw [fadeRequest_set hv direct]
  refine ⟨rfl, by rw [entry_directWrite, if_pos rfl], ?_⟩
  rw [value_directWrite, if_pos rfl, hv, elemClamp_elemClamp]
  rfl

theorem fadeRequest_fading (hd : d ≠ 0) (hz : elemClamp el z ≠ cur)
    (place : (s.entry? el).isSome ∨ s.fades.length < Config.fadePlaces) :
    (fadeRequest el z d o s).1 = .fading ∧
      fades el cur (elemClamp el z) (min d Config.longestFade) o (fadeRequest el z d o s).2 ∧
      (fadeRequest el z d o s).2.ending =
        if s.ending.due then { s.ending with fresh := el :: s.ending.fresh } else s.ending := by
  cases he : s.entry? el with
  | some old =>
    rw [fadeRequest_replaces hv hd hz he]
    refine ⟨rfl, ⟨?_, (value_replaceEntry ..).trans hv⟩, replaceEntry_ending ..⟩
    exact (entry_replaceEntry _ _ _ (by simp [fadeEntry, he]) el).trans (if_pos rfl)
  | none =>
    rw [fadeRequest_new hv hd hz he (place.resolve_left (by simp [he]))]
    exact ⟨rfl, ⟨(entry_newEntry _ _ he el).trans (if_pos rfl), (value_newEntry ..).trans hv⟩, newEntry_ending ..⟩

theorem fadeRequest_snapped (hd : d ≠ 0) (hz : elemClamp el z ≠ cur) (free : s.entry? el = none)
    (full : Config.fadePlaces ≤ s.fades.length) :
    (fadeRequest el z d o s).1 = .snapped ∧ stands el (elemClamp el z) (fadeRequest el z d o s).2 ∧
      (fadeRequest el z d o s).2.attention = { s.attention with
        flags := s.attention.flags ||| 0x100#16
        details := { s.attention.details with snaps := min (s.attention.details.snaps + 1) 255 } } := by
  rw [fadeRequest_snaps hv hd hz free full]
  refine ⟨rfl, ⟨by rw [entry_snapTo, if_pos rfl], ?_⟩, ?_⟩
  · rw [value_snapTo, if_pos rfl, hv, elemClamp_elemClamp]
    rfl
  · rw [snapTo, raiseFadeSnap, State.raise]
    simp only [directWrite_attention]
    rfl

end

/-! ## LEVEL_SET (R57) -/

/-- Every element that is available has a value (R41). -/
theorem value_of_available (h : s.available el = true) : ∃ cur, s.value? el = some cur := by
  cases el with
  | send | relaySend => exact Option.isSome_iff_exists.1 h
  | _ => exact ⟨_, rfl⟩

/-- The outcome that LEVEL_SET answers of an item (R57). -/
theorem fadeCaseNum_fadeRequest (hv : s.value? el = some cur) (z : Int) (d : Nat) (o : FadeOwner) :
    fadeCaseNum (fadeRequest el z d o s).1 =
      if d = 0 ∨ s.value? el = some (elemClamp el z) then 0
      else if (s.entry? el).isSome ∨ s.fades.length < 128 then 1 else 2 := by
  have same : s.value? el = some (elemClamp el z) ↔ elemClamp el z = cur := by rw [hv, Option.some.injEq, eq_comm]
  simp only [same]
  by_cases direct : d = 0 ∨ elemClamp el z = cur
  · rw [(fadeRequest_stands hv direct).1, if_pos direct]
    rfl
  · obtain ⟨hd, hz⟩ := not_or.1 direct
    rw [if_neg direct]
    by_cases place : (s.entry? el).isSome ∨ s.fades.length < 128
    · rw [(fadeRequest_fading hv hd hz place).1, if_pos place]
      rfl
    · obtain ⟨free, full⟩ := not_or.1 place
      rw [(fadeRequest_snapped hv hd hz (by simpa using free) (not_lt.1 full)).1, if_neg place]
      rfl

theorem levelItems_eq (items : List (Element × Int × Nat)) (s : State) (all : ∀ i ∈ items, s.available i.1 = true) :
    levelItems items s =
      (levelAnswer items s, items.foldl (fun s i => (fadeRequest i.1 i.2.1 i.2.2 .host s).2) s) := by
  induction items generalizing s with
  | nil => rfl
  | cons i rest ih =>
    obtain ⟨el, z, d⟩ := i
    obtain ⟨here, later⟩ := List.forall_mem_cons.1 all
    obtain ⟨cur, hv⟩ := value_of_available here
    have tail := ih (fadeRequest el z d .host s).2 fun i hi => (available_fadeRequest ..).trans (later i hi)
    have items : levelItems ((el, z, d) :: rest) s = (.byte (fadeCaseNum (fadeRequest el z d .host s).1) ::
        .byte (classNum (s.entry? el)) :: .byte (entryOwnerNum (s.entry? el)) ::
        (levelItems rest (fadeRequest el z d .host s).2).1, (levelItems rest (fadeRequest el z d .host s).2).2) := rfl
    rw [items, tail, levelAnswer, List.foldl_cons, fadeCaseNum_fadeRequest hv, classByte_eq]
    congr 1

theorem levelTargets_addressed (items : List (Element × Int × Nat)) (opens : ∀ i ∈ items, elemOpen i.1 = true) :
    levelTargets (items.map (fun i => ⟨addrOf i.1, i.2.1, i.2.2⟩)) = some items := by
  induction items with
  | nil => rfl
  | cons i rest ih =>
    obtain ⟨here, later⟩ := List.forall_mem_cons.1 opens
    rw [List.map_cons, levelTargets, ih later]
    simp [levelTarget, elementOf_addrOf, here]

theorem levelSet_ok {items : List (Element × Int × Nat)} (some : 1 ≤ items.length) (few : items.length ≤ 16)
    (differ : (items.map (fun i => i.1)).Nodup) (all : ∀ i ∈ items, elemOpen i.1 = true ∧ s.available i.1 = true) :
    levelSet (items.map (fun i => ⟨addrOf i.1, i.2.1, i.2.2⟩)) s =
      .ok (.byte items.length :: levelAnswer items s,
        settleAll (items.foldl (fun s i => (fadeRequest i.1 i.2.1 i.2.2 .host s).2) s)) := by
  have indices : (items.map (fun i => (⟨addrOf i.1, i.2.1, i.2.2⟩ : LevelItem))).all (fun i => addrIndexOk i.addr) = true := by
    simp [addrIndexOk_addrOf]
  have number : decide (1 ≤ (items.map (fun i => (⟨addrOf i.1, i.2.1, i.2.2⟩ : LevelItem))).length ∧
      (items.map (fun i => (⟨addrOf i.1, i.2.1, i.2.2⟩ : LevelItem))).length ≤ 16) = true := by simpa using ⟨some, few⟩
  have stand : items.all (fun t => s.available t.1) = true := List.all_eq_true.2 fun i hi => (all i hi).2
  simp only [levelSet, indices, number, require_true, ok_bind, levelTargets_addressed items fun i hi => (all i hi).1,
    need_some, distinct_of_nodup differ, stand, levelItems_eq items s fun i hi => (all i hi).2]

/-! ## Fades that are requested in turn (R111, R128) -/

/-- A step of a fold that asks for a SYSTEM fade of one element, with changes that touch no fade and no value. -/
def asksFade (el : Element) (z : Int) (d : Nat) (u t : State) : Prop :=
  ∃ v : State, v.fades = u.fades ∧ (∀ x, v.value? x = u.value? x) ∧ t = (fadeRequest el z d .system v).2

theorem asksFade.entry_ne (h : asksFade el z d u t) {x : Element} (hx : x ≠ el) : t.entry? x = u.entry? x := by
  obtain ⟨v, same, -, rfl⟩ := h
  rw [entry_fadeRequest_ne hx, entry_congr same]

theorem asksFade.value_ne (h : asksFade el z d u t) {x : Element} (hx : x ≠ el) : t.value? x = u.value? x := by
  obtain ⟨v, -, same, rfl⟩ := h
  rw [value_fadeRequest_ne hx, same]

/-- One request takes at most one place. -/
theorem asksFade.length_le (h : asksFade el z d u t) : t.fades.length ≤ u.fades.length + 1 := by
  obtain ⟨v, same, -, rfl⟩ := h
  rw [← same]
  rcases fadeRequest_fades el z d .system v with e | e | ⟨_, -, -, -, ⟨-, e⟩ | ⟨-, -, e⟩⟩ <;> rw [e]
  · omega
  · exact (List.length_filter_le ..).trans (by omega)
  · simp
  · simp

/-- A request on an element with no fade frees no place. -/
theorem asksFade.le_length (h : asksFade el z d u t) (free : u.entry? el = none) : u.fades.length ≤ t.fades.length := by
  obtain ⟨v, same, -, rfl⟩ := h
  rw [entry_congr same.symm] at free
  have keeps : v.fades.filter (fun x => decide (x.element ≠ el)) = v.fades :=
    List.filter_eq_self.2 fun x hx => by simpa using List.find?_eq_none.1 free x hx
  rw [← same]
  rcases fadeRequest_fades el z d .system v with e | e | ⟨_, -, -, -, ⟨-, e⟩ | ⟨-, -, e⟩⟩ <;> rw [e]
  · rw [keeps]
  · simp
  · simp

/-- What one request leaves of its element, by the places at its turn. -/
theorem asksFade.outcome (h : asksFade el z d u t) (hv : u.value? el = some cur) (inside : elemClamp el z = z) (hd : d ≠ 0)
    (short : d ≤ Config.longestFade) :
    (z = cur → stands el z t) ∧
    (z ≠ cur → ((u.entry? el).isSome ∨ u.fades.length < Config.fadePlaces) → fades el cur z d .system t) ∧
    (z ≠ cur → u.entry? el = none → Config.fadePlaces ≤ u.fades.length → stands el z t) := by
  obtain ⟨v, same, values, rfl⟩ := h
  rw [← values] at hv
  rw [entry_congr same.symm, ← same]
  refine ⟨fun e => ?_, fun e place => ?_, fun e free full => ?_⟩
  · have := (fadeRequest_stands (d := d) (o := .system) hv (.inr (inside.trans e))).2
    rwa [inside] at this
  · have := (fadeRequest_fading (o := .system) hv hd (by rwa [inside]) place).2.1
    rwa [inside, Nat.min_eq_left short] at this
  · have := (fadeRequest_snapped (o := .system) hv hd (by rwa [inside]) free full).2.1
    rwa [inside] at this

section
variable {β : Type} {step : State → β → State} {send : β → Element} {target : β → Int} {time : β → Nat}
  (asks : ∀ u b, asksFade (send b) (target b) (time b) u (step u b))
include asks

theorem asked_foldl_ne {l : List β} {x : Element} (hx : ∀ b ∈ l, x ≠ send b) (s : State) :
    (l.foldl step s).entry? x = s.entry? x ∧ (l.foldl step s).value? x = s.value? x := by
  induction l generalizing s with
  | nil => exact ⟨rfl, rfl⟩
  | cons b l ih =>
    obtain ⟨here, later⟩ := List.forall_mem_cons.1 hx
    obtain ⟨entry, value⟩ := ih later (step s b)
    exact ⟨entry.trans ((asks s b).entry_ne here), value.trans ((asks s b).value_ne here)⟩

theorem asked_foldl_length (l : List β) (s : State) : (l.foldl step s).fades.length ≤ s.fades.length + l.length := by
  induction l generalizing s with
  | nil => exact Nat.le_refl _
  | cons b l ih =>
    have first := (asks s b).length_le
    have rest := ih (step s b)
    rw [List.foldl_cons, List.length_cons]
    omega

theorem asked_foldl_free {l : List β} (distinct : (l.map send).Nodup) (s : State)
    (free : ∀ b ∈ l, s.entry? (send b) = none) : s.fades.length ≤ (l.foldl step s).fades.length := by
  induction l generalizing s with
  | nil => exact Nat.le_refl _
  | cons b l ih =>
    rw [List.map_cons, List.nodup_cons] at distinct
    obtain ⟨new, distinct⟩ := distinct
    obtain ⟨here, later⟩ := List.forall_mem_cons.1 free
    refine ((asks s b).le_length here).trans (ih distinct (step s b) fun c hc => ?_)
    rw [(asks s b).entry_ne fun e => new (e ▸ List.mem_map_of_mem hc)]
    exact later c hc

/-- Each of the elements asked in turn moves to its target, as the places at its turn allow (R45, R54). -/
theorem movesTo_foldl {l : List β} (distinct : (l.map send).Nodup) {b : β} (hb : b ∈ l) (s : State)
    (hv : s.value? (send b) = some cur) (inside : elemClamp (send b) (target b) = target b) (hd : time b ≠ 0)
    (short : time b ≤ Config.longestFade) :
    movesTo (l.map send) (send b) (target b) (time b) s (l.foldl step s) := by
  obtain ⟨before, after, rfl⟩ := List.append_of_mem hb
  rw [List.map_append, List.map_cons, List.nodup_append] at distinct
  obtain ⟨distinct, distinctAfter, apart⟩ := distinct
  rw [List.nodup_cons] at distinctAfter
  obtain ⟨new, -⟩ := distinctAfter
  obtain ⟨entry, value⟩ := asked_foldl_ne asks (l := before) (x := send b)
    (fun c hc e => apart _ (List.mem_map_of_mem hc) _ List.mem_cons_self e.symm) s
  have long := asked_foldl_length asks before s
  have free := asked_foldl_free asks distinct s
  have last := asked_foldl_ne asks (l := after) (x := send b) (fun c hc e => new (e ▸ List.mem_map_of_mem hc))
  rw [List.foldl_append, List.foldl_cons]
  generalize before.foldl step s = u at *
  obtain ⟨entryLast, valueLast⟩ := last (step u b)
  obtain ⟨same, room, full⟩ := (asks u b).outcome (value.trans hv) inside hd short
  rw [entry] at room full
  refine ⟨cur, hv, ?_⟩
  simp only [entryLast, valueLast]
  refine ⟨same, fun e place => room e (place.imp_right fun h => ?_), fun e places none => full e ?_ ?_, ?_⟩
  · simp only [List.length_map, List.length_append, List.length_cons] at h
    exact Nat.lt_of_lt_of_le (by omega) h
  · exact none _ (by simp)
  · exact Nat.le_trans places (free fun c hc => none _ (by simp; exact .inl ⟨c, hc, rfl⟩))
  · by_cases e : target b = cur
    · exact .inr (same e)
    · by_cases place : (s.entry? (send b)).isSome ∨ u.fades.length < Config.fadePlaces
      · exact .inl (room e place)
      · obtain ⟨none, places⟩ := not_or.1 place
        exact .inr (full e (by simpa using none) (not_lt.1 places))

end

end Sys2Proof.Machine

open Sys2Proof Sys2Proof.Machine

/-- Settles O29. -/
theorem fadeRequestCases : Obligations.FadeRequestCases := by
  unfold Obligations.FadeRequestCases
  intro el z d o cur s hv
  refine ⟨fun direct => fadeRequest_stands hv direct, fun hd hz place => ?_, fun hd hz free full => ?_,
    fun e he => ⟨entry_fadeRequest_ne he .., value_fadeRequest_ne he ..⟩⟩
  · obtain ⟨case, ⟨entry, value⟩, ending⟩ := fadeRequest_fading (o := o) hv hd hz place
    refine ⟨case, entry, value, ending.trans ?_⟩
    split <;> rfl
  · obtain ⟨case, ⟨entry, value⟩, attention⟩ := fadeRequest_snapped (o := o) hv hd hz free full
    refine ⟨case, entry, value, ?_, ?_⟩
    · rw [attention]
    · rw [attention, BitVec.getLsbD_or, Bool.or_eq_true]
      exact .inr rfl

/-- Settles O30: item by item, what the request does and what it overtakes. -/
theorem levelSetFades : Obligations.LevelSetFades := by
  unfold Obligations.LevelSetFades
  exact fun items s h some few differ all => next_answered h (levelSet_ok some few differ all)
end

section
/-! Talkback: the ducks that a change of a record asks for (6.3). -/

namespace Sys2Proof.Machine

variable {s t u : State} {i : Fin 2} {f : Fin 12}

/-! ## Ducks -/

theorem fadeRequest_tbDuck_mix (f g : Fin 12) (z : Int) (d : Nat) (o : FadeOwner) (s : State) :
    (fadeRequest (.tbDuck f) z d o s).2.mix g =
      if f = g then { s.mix g with duck := ((fadeRequest (.tbDuck f) z d o s).2.mix g).duck } else s.mix g := by
  have write : ∀ z, (directWrite (.tbDuck f) z s).mix g =
      if f = g then { s.mix g with duck := ((directWrite (.tbDuck f) z s).mix g).duck } else s.mix g := fun z => by
    have eq : directWrite (.tbDuck f) z s = (removeEntry (.tbDuck f) s).modMix f (fun x => { x with
        duck := elemClamp (.tbDuck f) z }) := rfl
    rw [eq, modMix_mix, removeEntry_mix]
    split <;> rfl
  have same : s.mix g = if f = g then { s.mix g with duck := (s.mix g).duck } else s.mix g := by split <;> rfl
  rcases fadeRequest_cases (.tbDuck f) z d o s with e | e | ⟨_, _, e⟩ | ⟨_, e⟩ | e <;> rw [e]
  · exact same
  · exact write _
  · simp [State.mix]
  · simp [State.mix]
  · exact write _

/-- The state but for the mixes, the fade table, the slots, what is raised, and the fades that start. -/
def besidesDucks (s : State) : State := { besidesMixes s with ending := {} }

theorem besidesDucks_fadeRequest (f : Fin 12) (z : Int) (d : Nat) (o : FadeOwner) (s : State) :
    besidesDucks (fadeRequest (.tbDuck f) z d o s).2 = besidesDucks s := by
  rcases fadeRequest_cases (.tbDuck f) z d o s with e | e | ⟨_, _, e⟩ | ⟨_, e⟩ | e <;> rw [e]
  · simp [besidesDucks, besidesMixes, besidesFades, directWrite, State.write]
  · simp [besidesDucks, besidesMixes, besidesFades]
  · simp [besidesDucks, besidesMixes, besidesFades]
  · simp [besidesDucks, besidesMixes, besidesFades, snapTo, directWrite, State.write]

theorem requiredDepth_congr (h : t.foldback.talkbacks = s.foldback.talkbacks) (f : Fin 12) :
    requiredDepth f t = requiredDepth f s := by
  simp only [requiredDepth, State.talkback, h]

/-- Each depth asked lies in the range of a duck (R110, R111). -/
theorem requiredDepth_range (h : ∀ j, 0 ≤ (s.talkback j).depth ∧ (s.talkback j).depth ≤ 400) (f : Fin 12) :
    0 ≤ requiredDepth f s ∧ requiredDepth f s ≤ 400 := by
  have one : ∀ j, 0 ≤ depthOn f (s.talkback j) ∧ depthOn f (s.talkback j) ≤ 400 := fun j => by
    unfold depthOn
    split
    · exact h j
    · exact ⟨Int.le_refl 0, by decide⟩
  have zero := one 0
  have one := one 1
  unfold requiredDepth
  omega

/-- What a fold makes of a field that none of its steps writes. -/
theorem foldl_stands {α β : Type} {step : State → β → State} {get : State → α} {l : List β}
    (h : ∀ u, ∀ b ∈ l, get (step u b) = get u) (s : State) : get (l.foldl step s) = get s := by
  induction l generalizing s with
  | nil => rfl
  | cons b l ih =>
    rw [List.foldl_cons, ih (fun u c hc => h u c (List.mem_cons_of_mem b hc)), h s b List.mem_cons_self]

/-! ## A change of a record (R111) -/

/-- The mixes whose required depth a change of the records alters. -/
def redepthed (s v : State) : List (Fin 12) :=
  (List.finRange 12).filter (fun f => decide (requiredDepth f v ≠ requiredDepth f s))

/-- The fade of one duck to the depth that the records ask. -/
def duckTo (s v u : State) (f : Fin 12) : State :=
  (fadeRequest (.tbDuck f) (requiredDepth f v) (if requiredDepth f s < requiredDepth f v then 50 else 200) .system u).2

/-- A mix but for its talkback duck. -/
def besideDuck (f : Fin 12) (s : State) : Mix := { s.mix f with duck := 0 }

theorem besideDuck_duckTo (s v u : State) (j f : Fin 12) : besideDuck f (duckTo s v u j) = besideDuck f u := by
  rw [besideDuck, duckTo, fadeRequest_tbDuck_mix]
  split <;> rfl

theorem duckTo_talkbacks (s v u : State) (f : Fin 12) : (duckTo s v u f).foldback.talkbacks = u.foldback.talkbacks := by
  simp [duckTo]

theorem foldl_reduck (s v : State) (l : List (Fin 12)) (u : State) (h : u.foldback.talkbacks = v.foldback.talkbacks) :
    l.foldl (reduck s) u =
      (l.filter (fun f => decide (requiredDepth f v ≠ requiredDepth f s))).foldl (duckTo s v) u := by
  induction l generalizing u with
  | nil => rfl
  | cons f l ih =>
    have depth := requiredDepth_congr h f
    by_cases same : requiredDepth f v = requiredDepth f s
    · have step : reduck s u f = u := by simp only [reduck, depth, same, if_true]
      rw [List.foldl_cons, step, ih u h, List.filter_cons_of_neg (by simpa using same)]
    · have step : reduck s u f = duckTo s v u f := by simp only [reduck, depth, same, if_false, duckTo]
      rw [List.foldl_cons, step, ih _ ((duckTo_talkbacks s v u f).trans h), List.filter_cons_of_pos (by simpa using same),
        List.foldl_cons]

/-- The state with one talkback record changed, before the ducks move. -/
def recorded (i : Fin 2) (g : Talkback → Talkback) (s : State) : State := s.modTalkback i g

theorem changeTalkback_eq (i : Fin 2) (g : Talkback → Talkback) (s : State) :
    changeTalkback i g s = (redepthed s (recorded i g s)).foldl (duckTo s (recorded i g s)) (recorded i g s) :=
  foldl_reduck s _ _ _ rfl

/-- What the change of a record makes of the ducks. -/
theorem changeTalkback_ducks (g : Talkback → Talkback)
    (h : ∀ j, 0 ≤ ((recorded i g s).talkback j).depth ∧ ((recorded i g s).talkback j).depth ≤ 400)
    (ht : changeTalkback i g s = t) :
    (∀ f, requiredDepth f t = requiredDepth f s → t.mix f = s.mix f ∧ t.entry? (.tbDuck f) = s.entry? (.tbDuck f)) ∧
    (∀ f, requiredDepth f t ≠ requiredDepth f s → t.mix f = { s.mix f with duck := (t.mix f).duck } ∧
      movesTo ((redepthed s t).map Element.tbDuck) (.tbDuck f) (requiredDepth f t)
        (if requiredDepth f s < requiredDepth f t then 50 else 200) s t) ∧
    ∀ el, (∀ f, el ≠ .tbDuck f) → t.entry? el = s.entry? el := by
  have fold := (changeTalkback_eq i g s).symm.trans ht
  have asks : ∀ u f, asksFade (.tbDuck f) (requiredDepth f (recorded i g s))
      (if requiredDepth f s < requiredDepth f (recorded i g s) then 50 else 200) u (duckTo s (recorded i g s) u f) :=
    fun u f => ⟨u, rfl, fun _ => rfl, rfl⟩
  have start : (∀ f, (recorded i g s).mix f = s.mix f) ∧ (∀ el, (recorded i g s).entry? el = s.entry? el) ∧
      (∀ f, (recorded i g s).value? (.tbDuck f) = some (s.mix f).duck) ∧
      ∀ asked f z d, movesTo asked (.tbDuck f) z d (recorded i g s) t → movesTo asked (.tbDuck f) z d s t :=
    ⟨fun _ => rfl, fun _ => rfl, fun _ => rfl, fun _ _ _ _ h => h⟩
  have range := requiredDepth_range h
  have talkbacks := foldl_keeps (fun u : State => u.foldback.talkbacks) (duckTo_talkbacks s (recorded i g s))
    (redepthed s (recorded i g s)) (recorded i g s)
  have mix := fun f => foldl_keeps (besideDuck f) (fun u j => besideDuck_duckTo s (recorded i g s) u j f)
    (redepthed s (recorded i g s)) (recorded i g s)
  generalize recorded i g s = v at *
  obtain ⟨startMix, startEntry, startValue, fromStart⟩ := start
  rw [fold] at talkbacks
  have depths := requiredDepth_congr talkbacks
  have mem : ∀ f, f ∈ redepthed s v ↔ requiredDepth f t ≠ requiredDepth f s := fun f => by
    simp [redepthed, depths]
  have sends : ((redepthed s v).map Element.tbDuck).Nodup :=
    ((List.nodup_finRange 12).filter _).map fun a b e => by cases e; rfl
  have list : redepthed s t = redepthed s v := by simp only [redepthed, depths]
  refine ⟨fun f same => ?_, fun f moved => ⟨?_, ?_⟩, fun el other => ?_⟩
  · have absent : f ∉ redepthed s v := fun hf => (mem f).1 hf same
    have stands := foldl_stands (step := duckTo s v) (get := fun u => u.mix f) (l := redepthed s v) (fun u j hj => by
      rw [duckTo, fadeRequest_tbDuck_mix, if_neg]
      rintro rfl
      exact absent hj) v
    have entry := (asked_foldl_ne asks (l := redepthed s v) (x := .tbDuck f) (fun b hb e => absent (by cases e; exact hb)) v).1
    rw [fold] at stands entry
    exact ⟨stands.trans (startMix f), entry.trans (startEntry _)⟩
  · have same := mix f
    rw [fold, besideDuck, besideDuck, startMix] at same
    exact congrArg (fun x : Mix => { x with duck := (t.mix f).duck }) same
  · obtain ⟨lo, hi⟩ := range f
    have moves := movesTo_foldl asks sends ((mem f).2 moved) v (startValue f) (elemClamp_of_inRange ⟨lo, hi⟩)
      (by split <;> simp) (by split <;> simp [Config.longestFade])
    rw [fold] at moves
    rw [list, depths]
    exact fromStart _ _ _ _ moves
  · have entry := (asked_foldl_ne asks (l := redepthed s v) (fun b _ => other b) v).1
    rw [fold] at entry
    exact entry.trans (startEntry el)

/-- What else the change of a record leaves. -/
theorem changeTalkback_aside (i : Fin 2) (g : Talkback → Talkback) (s : State) :
    besidesDucks (changeTalkback i g s) = besidesDucks (recorded i g s) := by
  rw [changeTalkback_eq]
  exact foldl_keeps (f := duckTo s (recorded i g s)) besidesDucks (fun u f => besidesDucks_fadeRequest f ..)
    (redepthed s (recorded i g s)) (recorded i g s)

theorem changeTalkback_talkback (i j : Fin 2) (g : Talkback → Talkback) (s : State) :
    (changeTalkback i g s).talkback j = if i = j then g (s.talkback j) else s.talkback j := by
  have aside := changeTalkback_aside i g s
  generalize changeTalkback i g s = u at *
  exact (congrArg (fun x : State => x.talkback j) aside).trans (modTalkback_talkback ..)

/-! ## The requests (R110, R111) -/

theorem talkbackOn_checks :
    talkbackOn (num i) s = if (s.talkback i).source.isSome then
      .ok ([], if (s.talkback i).on then s else changeTalkback i (fun x => { x with on := true }) s) else .error .invalid := by
  simp only [talkbackOn, index_num, ok_bind]
  cases (s.talkback i).source.isSome <;> rfl

theorem talkbackOff_eq :
    talkbackOff (num i) s =
      .ok ([], if (s.talkback i).on then changeTalkback i (fun x => { x with on := false }) s else s) := by
  simp only [talkbackOff, index_num, ok_bind]

theorem keepsSource_iff {source : Option (Option (Fin 64))} {on : Bool} :
    keepsSource source on = true ↔ ¬ (source = some none ∧ on = true) := by
  rcases source with _ | _ | c <;> cases on <;> simp [keepsSource]

theorem talkbackSet_checks {f : TalkbackFields} {source : Option (Option (Fin 64))} {targets : Option (BitVec 12)}
    (any : talkbackAny f = true) (inside : f.beyond = false) (hs : opt (indexOpt 64) f.source = .ok source)
    (ht : opt (maskOf 12) f.targets = .ok targets) :
    talkbackSet (num i) f s = if keepsSource source (s.talkback i).on then
      .ok ([], changeTalkback i (applyTalkback f source targets) s) else .error .inUse := by
  simp only [talkbackSet, index_num, ok_bind, hs, ht, any, inside, Bool.not_false, Bool.and_self, require_true]
  cases keepsSource source (s.talkback i).on <;> rfl

/-- What the obligation says of the state after a change of a record. -/
theorem changed_ducks (code : Nat) (g : Talkback → Talkback)
    (h : ∀ j, 0 ≤ (s.talkback j).depth ∧ (s.talkback j).depth ≤ 400)
    (new : 0 ≤ (g (s.talkback i)).depth ∧ (g (s.talkback i)).depth ≤ 400) :
    let t := answered code [] (changeTalkback i g s)
    let asked := ((List.finRange 12).filter (fun f => decide (depthAsked f t ≠ depthAsked f s))).map Element.tbDuck
    t.talkback i = g (s.talkback i) ∧
    ((∀ f, depthAsked f t = depthAsked f s → t.mix f = s.mix f ∧ t.entry? (.tbDuck f) = s.entry? (.tbDuck f)) ∧
    (∀ f, depthAsked f t ≠ depthAsked f s → t.mix f = { s.mix f with duck := (t.mix f).duck } ∧
      movesTo asked (.tbDuck f) (depthAsked f t) (if depthAsked f s < depthAsked f t then 50 else 200) s t) ∧
    ∀ el, (∀ f, el ≠ .tbDuck f) → t.entry? el = s.entry? el) ∧
    ((∀ j, j ≠ i → t.talkback j = s.talkback j) ∧ t.table = s.table ∧
      t.cues = s.cues ∧ t.relay = s.relay ∧ t.links = s.links ∧ t.monitors = s.monitors) ∧
    t.port.response = .ready ⟨.ok, code, []⟩ := by
  have range : ∀ j, 0 ≤ ((recorded i g s).talkback j).depth ∧ ((recorded i g s).talkback j).depth ≤ 400 := fun j => by
    rw [recorded, modTalkback_talkback]
    split
    · subst_vars; exact new
    · exact h j
  have ducks := changeTalkback_ducks (s := s) (i := i) g range rfl
  have aside := changeTalkback_aside i g s
  have records := fun j => changeTalkback_talkback i j g s
  simp only [depthAsked_eq]
  generalize changeTalkback i g s = u at *
  exact ⟨(records i).trans (if_pos rfl), ducks,
    ⟨fun j hj => (records j).trans (if_neg (Ne.symm hj)), congrArg (fun x => x.table) aside,
      congrArg (fun x => x.cues) aside, congrArg (fun x => x.relay) aside, congrArg (fun x => x.links) aside,
      congrArg (fun x => x.monitors) aside⟩, rfl⟩

end Sys2Proof.Machine

open Sys2Proof Sys2Proof.Machine

/-- Settles O51. -/
theorem talkbackDucks : Obligations.TalkbackDucks := by
  unfold Obligations.TalkbackDucks
  intro i s h depths
  refine ⟨fun none => next_refused h ?_, fun some on => next_answered h ?_, fun some off => ?_, fun off => next_answered h ?_,
    fun on => ?_, fun f source targets any inside hs ht => ⟨fun none on => next_refused h ?_, fun keeps => ?_⟩⟩
  · rw [talkbackOn_checks, none]
    rfl
  · rw [talkbackOn_checks, if_pos some, if_pos on]
  · have ok := talkbackOn_checks (i := i) (s := s)
    rw [if_pos some, off] at ok
    exact ⟨_, next_answered h ok, changed_ducks 38 _ depths (depths i)⟩
  · rw [talkbackOff_eq, off]
    rfl
  · have ok := talkbackOff_eq (i := i) (s := s)
    rw [on] at ok
    exact ⟨_, next_answered h ok, changed_ducks 39 _ depths (depths i)⟩
  · rw [talkbackSet_checks any inside hs ht, if_neg fun keeps => keepsSource_iff.1 keeps ⟨none, on⟩]
  · have ok := talkbackSet_checks (i := i) (s := s) any inside hs ht
    rw [if_pos (keepsSource_iff.2 keeps)] at ok
    have new : 0 ≤ (applyTalkback f source targets (s.talkback i)).depth ∧
        (applyTalkback f source targets (s.talkback i)).depth ≤ 400 := by
      simp only [applyTalkback, pick_eq]
      cases f.depth with
      | none => exact depths i
      | some z => exact ⟨clampCode_ge z, clampCode_le z (by decide)⟩
    obtain ⟨record, rest⟩ := changed_ducks 37 (applyTalkback f source targets) depths new
    refine ⟨_, next_answered h ok, record.trans ?_, rest⟩
    simp only [applyTalkback, pick_eq]
    rfl
end

section
/-! Handovers, and the calls that a request or an end makes active (7.4 to 7.7). -/

namespace Sys2Proof.Machine

variable {s t u v : State} {c : Call} {a : ActiveCall} {why : EndReason}

/-! ## Ducks of stations -/

theorem fadeRequest_clamp (el : Element) (z : Int) (d : Nat) (o : FadeOwner) (s : State) :
    fadeRequest el (elemClamp el z) d o s = fadeRequest el z d o s := by
  simp only [fadeRequest, elemClamp_elemClamp]

theorem fadeRequest_duck_station (n m : Fin 32) (z : Int) (d : Nat) (o : FadeOwner) (s : State) :
    (fadeRequest (.duck n) z d o s).2.station m =
      if n = m then { s.station m with duck := ((fadeRequest (.duck n) z d o s).2.station m).duck } else s.station m := by
  have write : ∀ z, (directWrite (.duck n) z s).station m =
      if n = m then { s.station m with duck := ((directWrite (.duck n) z s).station m).duck } else s.station m := fun z => by
    have eq : directWrite (.duck n) z s = (removeEntry (.duck n) s).modStation n (fun x => { x with
        duck := elemClamp (.duck n) z }) := rfl
    have same : (removeEntry (.duck n) s).station m = s.station m := by simp [State.station]
    rw [eq, modStation_station, same]
    split <;> rfl
  have same : s.station m = if n = m then { s.station m with duck := (s.station m).duck } else s.station m := by split <;> rfl
  rcases fadeRequest_cases (.duck n) z d o s with e | e | ⟨_, _, e⟩ | ⟨_, e⟩ | e <;> rw [e]
  · exact same
  · exact write _
  · simp [State.station]
  · simp [State.station]
  · exact write _

/-- The state but for the stations, the fade table, the slots, what is raised, and the fades that start. -/
def besidesRooms (s : State) : State := { besidesStations s with ending := {} }

theorem besidesRooms_fadeRequest (n : Fin 32) (z : Int) (d : Nat) (o : FadeOwner) (s : State) :
    besidesRooms (fadeRequest (.duck n) z d o s).2 = besidesRooms s := by
  rcases fadeRequest_cases (.duck n) z d o s with e | e | ⟨_, _, e⟩ | ⟨_, e⟩ | e <;> rw [e]
  · simp [besidesRooms, besidesStations, besidesFades, directWrite, State.write]
  · simp [besidesRooms, besidesStations, besidesFades]
  · simp [besidesRooms, besidesStations, besidesFades]
  · simp [besidesRooms, besidesStations, besidesFades, snapTo, directWrite, State.write]

/-- What CALL_CHANGE says, and whether it is raised. -/
def callNews (s : State) : Option (Fin 16 × EndReason) × Bool := (s.attention.details.call, s.attention.flags.getLsbD 12)

theorem callNews_fadeRequest (el : Element) (z : Int) (d : Nat) (o : FadeOwner) (s : State) :
    callNews (fadeRequest el z d o s).2 = callNews s := by
  rcases fadeRequest_cases el z d o s with e | e | ⟨_, _, e⟩ | ⟨_, e⟩ | e <;> rw [e]
  · simp [callNews]
  · simp [callNews]
  · simp [callNews]
  · have other : (only (condBit .fadeSnap)).getLsbD 12 = false := by decide
    rw [callNews, snapTo, raiseFadeSnap, raise_details, raise_flags, directWrite_attention, BitVec.getLsbD_or, other,
      Bool.or_false]
    rfl

/-! ## The handover (R128) -/

/-- One station's part: its duck asked to its target, and its state. -/
def handStation (n : BitVec 32) (depth : Int) (s : State) (st : Fin 32) : State :=
  (fadeRequest (.duck st) (if inSet n st then clampCode 0 400 depth else 0) (if inSet n st then 100 else 250) .system
    (s.modStation st (fun x => { x with inCall := inSet n st }))).2

/-- The stations of either set. -/
def handed (o n : BitVec 32) : List (Fin 32) := (List.finRange 32).filter (fun st => inSet n st || inSet o st)

theorem mem_handed {o n : BitVec 32} {st : Fin 32} : st ∈ handed o n ↔ inSet n st = true ∨ inSet o st = true := by
  simp [handed]

theorem handoverStation_eq (o n : BitVec 32) (depth : Int) (s : State) (st : Fin 32) :
    handoverStation o n depth s st = if (inSet n st || inSet o st) = true then handStation n depth s st else s := by
  rcases handoverStation_cases o n depth s st with ⟨hn, e⟩ | ⟨hn, ho, e⟩ | ⟨hn, ho, e⟩ <;> rw [e]
  · rw [handStation, hn, if_pos rfl, if_pos rfl, ← fadeRequest_clamp (.duck st) depth]
    rfl
  · rw [handStation, hn, ho]
    rfl
  · rw [hn, ho]
    rfl

theorem foldl_filter_step {β : Type} {f g : State → β → State} {p : β → Bool}
    (h : ∀ s b, f s b = if p b = true then g s b else s) (l : List β) (s : State) :
    l.foldl f s = (l.filter p).foldl g s := by
  induction l generalizing s with
  | nil => rfl
  | cons b l ih =>
    rw [List.foldl_cons, ih, h, List.filter_cons]
    split <;> rfl

theorem handover_eq (o n : BitVec 32) (depth : Int) (s : State) :
    handover o n depth s = (handed o n).foldl (handStation n depth) s :=
  foldl_filter_step (handoverStation_eq o n depth) (List.finRange 32) s

theorem asksFade_handStation (n : BitVec 32) (depth : Int) (u : State) (st : Fin 32) :
    asksFade (.duck st) (if inSet n st then clampCode 0 400 depth else 0) (if inSet n st then 100 else 250) u
      (handStation n depth u st) := by
  refine ⟨u.modStation st (fun x => { x with inCall := inSet n st }), rfl, fun x => ?_, rfl⟩
  exact (Change.inCall (G := True) u st (inSet n st)).value rfl x

theorem handStation_station (n : BitVec 32) (depth : Int) (u : State) (st m : Fin 32) :
    (handStation n depth u st).station m =
      if st = m then { u.station m with inCall := inSet n m, duck := ((handStation n depth u st).station m).duck }
      else u.station m := by
  rw [handStation, fadeRequest_duck_station, modStation_station]
  by_cases h : st = m
  · subst h; simp
  · simp [h]

theorem besidesRooms_handStation (n : BitVec 32) (depth : Int) (u : State) (st : Fin 32) :
    besidesRooms (handStation n depth u st) = besidesRooms u := by
  rw [handStation, besidesRooms_fadeRequest]
  rfl

theorem callNews_handStation (n : BitVec 32) (depth : Int) (u : State) (st : Fin 32) :
    callNews (handStation n depth u st) = callNews u := by
  rw [handStation, callNews_fadeRequest]
  rfl

/-- A station but for its duck. -/
def besideStationDuck (m : Fin 32) (s : State) : Station := { s.station m with duck := 0 }

/-- The stations of the new set are in CALL, those of the old set alone out of it (R128). -/
theorem handed_besideDuck (o n : BitVec 32) (depth : Int) (s : State) (m : Fin 32) :
    besideStationDuck m ((handed o n).foldl (handStation n depth) s) = { besideStationDuck m s with
      inCall := inSet n m || (!inSet o m && (s.station m).inCall) } := by
  have fold := foldl_once (f := handStation n depth) (get := besideStationDuck m) (i := m)
    (g := fun x => { x with inCall := inSet n m }) (l := handed o n)
    (fun u => by rw [besideStationDuck, handStation_station, if_pos rfl]; rfl)
    (fun u j _ hj => by rw [besideStationDuck, handStation_station, if_neg hj]; rfl)
    ((List.nodup_finRange 32).filter _) s
  rw [fold]
  simp only [mem_handed]
  cases inSet n m <;> cases inSet o m <;> rfl

/-- The fades and the stations of the states are those of a handover (R128). -/
theorem handedOver_congr {o n : BitVec 32} {depth : Int} (stations : ∀ m, v.station m = s.station m) (same : v.fades = s.fades)
    (h : handedOver o n depth v t) : handedOver o n depth s t := by
  have entry := fun el => entry_congr same el
  have value : ∀ m, v.value? (.duck m) = s.value? (.duck m) := fun m => by rw [State.value?, State.value?, stations]
  have moves : ∀ asked m z d, movesTo asked (.duck m) z d v t → movesTo asked (.duck m) z d s t := fun asked m z d h => by
    simpa only [movesTo, value, entry, same] using h
  obtain ⟨record, new, old, others, rest⟩ := h
  simp only [stations, entry] at record others rest
  exact ⟨record, fun m hm => moves _ m _ _ (new m hm), fun m hn ho => moves _ m _ _ (old m hn ho), others, rest⟩

/-- What a handover does, in every state. -/
theorem handedOver_handover (o n : BitVec 32) (depth : Int) (s : State) : handedOver o n depth s (handover o n depth s) := by
  rw [handover_eq]
  have asks := asksFade_handStation n depth
  have sends : ((handed o n).map Element.duck).Nodup :=
    ((List.nodup_finRange 32).filter _).map fun a b e => by cases e; rfl
  have record := handed_besideDuck o n depth s
  have moves := fun m (hm : m ∈ handed o n) inside hd short =>
    movesTo_foldl asks sends hm s (cur := (s.station m).duck) rfl inside hd short
  have untouched := fun m (hm : m ∉ handed o n) => foldl_stands (step := handStation n depth) (get := fun u => u.station m)
    (l := handed o n) (fun u j hj => by
      rw [handStation_station, if_neg]
      rintro rfl
      exact hm hj) s
  have entries := fun (el : Element) (hel : ∀ m ∈ handed o n, el ≠ Element.duck m) => (asked_foldl_ne asks hel s).1
  generalize (handed o n).foldl (handStation n depth) s = t at *
  refine ⟨fun m => ?_, fun m hm => ?_, fun m hn ho => ?_, fun m hn ho => ?_, fun el hel => entries el fun m _ => hel m⟩
  · exact congrArg (fun x : Station => { x with duck := (t.station m).duck }) (record m)
  · have move := moves m (mem_handed.2 (.inl hm))
    simp only [hm, if_true] at move
    exact move (elemClamp_of_inRange ⟨clampCode_ge _, clampCode_le _ (by decide)⟩) (by simp) (by simp [Config.longestFade])
  · have move := moves m (mem_handed.2 (.inr ho))
    simp only [hn, Bool.false_eq_true, if_false] at move
    exact move (elemClamp_of_inRange ⟨Int.le_refl 0, (by decide : (0 : Int) ≤ 400)⟩) (by simp) (by simp [Config.longestFade])
  · have absent : m ∉ handed o n := by simp [mem_handed, hn, ho]
    exact ⟨untouched m absent, entries _ fun j hj e => absent (by cases e; exact hj)⟩

theorem handover_aside (o n : BitVec 32) (depth : Int) (s : State) : besidesRooms (handover o n depth s) = besidesRooms s := by
  rw [handover_eq]
  exact foldl_keeps besidesRooms (besidesRooms_handStation n depth) (handed o n) s

theorem handover_news (o n : BitVec 32) (depth : Int) (s : State) : callNews (handover o n depth s) = callNews s := by
  rw [handover_eq]
  exact foldl_keeps callNews (callNews_handStation n depth) (handed o n) s

theorem handover_none (depth : Int) (s : State) : handover 0#32 0#32 depth s = s := by
  rw [handover_eq]
  have none : handed 0#32 0#32 = [] := by simp [handed, inSet]
  rw [none]
  rfl

/-! ## The next call (R127, R129) -/

theorem pickCall_congr (h : ∀ p, resolve p t = resolve p s) (l : List Call) : pickCall t l = pickCall s l := by
  induction l with
  | nil => rfl
  | cons c l ih => simp only [pickCall, h, ih]

theorem pickCall_none {l : List Call} (h : ∀ c ∈ l, resolve c.preset s = 0#32) :
    pickCall s l = (none, [], l.map (fun c => c.preset)) := by
  induction l with
  | nil => rfl
  | cons c l ih =>
    obtain ⟨here, later⟩ := List.forall_mem_cons.1 h
    simp only [pickCall, here, if_true, ih later]
    rfl

theorem pickCall_next {gone q : List Call} (h : ∀ d ∈ gone, resolve d.preset s = 0#32) (hc : resolve c.preset s ≠ 0#32) :
    pickCall s (gone ++ c :: q) =
      (some { call := c, stations := resolve c.preset s }, q, gone.map (fun d => d.preset)) := by
  induction gone with
  | nil => simp only [List.nil_append, pickCall, hc, if_false, List.map_nil]
  | cons d gone ih =>
    obtain ⟨here, later⟩ := List.forall_mem_cons.1 h
    simp only [List.cons_append, pickCall, here, if_true, ih later]
    rfl

theorem raised_news (p : Fin 16) (why : EndReason) (s : State) : callNews (raiseCallChange p why s) = (some (p, why), true) := by
  refine Prod.ext rfl ?_
  show (s.attention.flags ||| only (condBit .callChange)).getLsbD 12 = true
  rw [BitVec.getLsbD_or, Bool.or_eq_true]
  exact .inr (by decide)

/-- CALL_CHANGE, once raised, stands while calls are passed over. -/
theorem reported_flag (gone : List (Fin 16)) (h : (callNews s).2 = true) :
    (callNews (gone.foldl (fun s p => raiseCallChange p .noTarget s) s)).2 = true := by
  induction gone generalizing s with
  | nil => exact h
  | cons p gone ih => exact ih (by rw [raised_news])

/-- The presets passed over are reported in turn, so the last of them stands (R129). -/
theorem reported_news (gone : List Call) (s : State) (h : callNews s = (some (a.call.preset, why), true)) :
    callNews ((gone.map (fun c => c.preset)).foldl (fun s p => raiseCallChange p .noTarget s) s) =
      (some (lastEnded why a gone), true) := by
  rcases List.eq_nil_or_concat gone with rfl | ⟨before, last, rfl⟩
  · exact h
  · rw [List.concat_eq_append, List.map_append, List.foldl_append]
    simp [raised_news, lastEnded]

/-! ## An advance (R129) -/

/-- What the calls passed over, and the call that takes over, leave before the handover. -/
def advanced (calls : List Call) (s : State) : State :=
  ((pickCall s calls).2.2.foldl (fun s p => raiseCallChange p .noTarget s) s).modRelay
    (fun x => { x with active := (pickCall s calls).1, queue := (pickCall s calls).2.1 })

theorem advance_at (o : BitVec 32) (calls : List Call) (s : State) :
    advance o calls s = handover o (activeSet (pickCall s calls).1) (activeDepth s (pickCall s calls).1) (advanced calls s) :=
  rfl

theorem advanced_eq (calls : List Call) (s : State) :
    advanced calls s = { s with
      relay := { s.relay with active := (pickCall s calls).1, queue := (pickCall s calls).2.1 }
      attention := (advanced calls s).attention } := by
  have reported := foldl_keeps (f := fun s p => raiseCallChange p .noTarget s) (fun u => { u with attention := {} })
    (fun _ _ => rfl) (pickCall s calls).2.2 s
  unfold advanced
  generalize (pickCall s calls).2.2.foldl (fun s p => raiseCallChange p .noTarget s) s = u at *
  exact congrArg (fun x : State => { x with
    relay := { x.relay with active := (pickCall s calls).1, queue := (pickCall s calls).2.1 }
    attention := u.attention }) reported

theorem advance_aside (o : BitVec 32) (calls : List Call) (s : State) :
    besidesRooms (advance o calls s) = { besidesRooms s with
      relay := { (besidesRooms s).relay with active := (pickCall s calls).1, queue := (pickCall s calls).2.1 } } := by
  rw [advance_at, handover_aside, advanced_eq]
  rfl

theorem advance_handedOver (o : BitVec 32) (calls : List Call) (s : State) :
    handedOver o (activeSet (pickCall s calls).1) (activeDepth s (pickCall s calls).1) s (advance o calls s) := by
  rw [advance_at]
  have same := advanced_eq calls s
  refine handedOver_congr (v := advanced calls s) (fun m => ?_) ?_ (handedOver_handover ..) <;> exact same ▸ rfl

theorem advance_news (o : BitVec 32) (calls : List Call) (s : State) :
    callNews (advance o calls s) =
      callNews ((pickCall s calls).2.2.foldl (fun s p => raiseCallChange p .noTarget s) s) := by
  rw [advance_at, handover_news]
  rfl

/-- The records of the Relay Unit but the stations and the calls stand at an advance. -/
theorem advance_programme (o : BitVec 32) (calls : List Call) (s : State) :
    (advance o calls s).relay = { (advance o calls s).relay with
      entries := s.relay.entries, backup := s.relay.backup, backupLevel := s.relay.backupLevel
      selection := s.relay.selection, presets := s.relay.presets } := by
  rw [advance_relay]

/-- What the end of the active call leaves (R129). -/
theorem callEnded_advance (why : EndReason) (a : ActiveCall) (calls : List Call) (s : State) :
    callEnded why a calls s (advance a.stations calls (raiseCallChange a.call.preset why s)) := by
  have pick := pickCall_congr (t := raiseCallChange a.call.preset why s) (s := s) (fun _ => rfl) calls
  have news := advance_news a.stations calls (raiseCallChange a.call.preset why s)
  have over_ := advance_handedOver a.stations calls (raiseCallChange a.call.preset why s)
  have relay := advance_relay a.stations calls (raiseCallChange a.call.preset why s)
  have programme := advance_programme a.stations calls (raiseCallChange a.call.preset why s)
  have aside := advance_aside a.stations calls (raiseCallChange a.call.preset why s)
  have raised := raised_news a.call.preset why s
  have last := fun gone => reported_news gone _ raised
  have flag := reported_flag (pickCall s calls).2.2 (s := raiseCallChange a.call.preset why s) (by rw [raised])
  rw [pick] at news over_ relay aside
  generalize advance a.stations calls (raiseCallChange a.call.preset why s) = t at *
  refine ⟨fun none => ?_, fun gone c q split none hc => ?_, ?_, programme, congrArg (fun x => x.table) aside,
    congrArg (fun x => x.cues) aside, congrArg (fun x => x.foldback) aside, congrArg (fun x => x.links) aside⟩
  · rw [pickCall_none none] at news over_ relay
    rw [relay]
    exact ⟨rfl, rfl, congrArg Prod.fst (news.trans (last calls)), handedOver_congr (fun _ => rfl) rfl over_⟩
  · subst split
    rw [pickCall_next none hc] at news over_ relay
    rw [relay]
    exact ⟨rfl, rfl, congrArg Prod.fst (news.trans (last gone)), handedOver_congr (fun _ => rfl) rfl over_⟩
  · exact (congrArg Prod.snd news).trans flag

end Sys2Proof.Machine
end

section
/-! Call requests, the queue, and what ends a call (7.4 to 7.7). -/

namespace Sys2Proof.Machine

variable {s t u : State} {c : Call} {a : ActiveCall} {why : EndReason} {p : Fin 16}

/-! ## Sets -/

theorem inSet_or {n : Nat} (x y : BitVec n) (i : Fin n) : inSet (x ||| y) i = (inSet x i || inSet y i) := BitVec.getLsbD_or

theorem inSet_only {n : Nat} (i j : Fin n) : inSet (only j) i = decide (j = i) := by
  rw [inSet, only, BitVec.getLsbD_ofNat, Nat.testBit_two_pow]
  simp [Fin.ext_iff]

/-- The set of the members that satisfy a test. -/
theorem inSet_setWhere {n : Nat} (f : Fin n → Bool) (i : Fin n) : inSet (setWhere f) i = f i := by
  have fold : ∀ (l : List (Fin n)) (m : BitVec n),
      inSet (l.foldl (fun m j => if f j then m ||| only j else m) m) i = (inSet m i || (decide (i ∈ l) && f i)) := by
    intro l
    induction l with
    | nil => simp
    | cons j l ih =>
      intro m
      rw [List.foldl_cons, ih]
      by_cases hj : j = i
      · subst hj
        cases f j <;> simp [inSet_or, inSet_only]
      · have hi : i ≠ j := fun e => hj e.symm
        cases f j <;> simp [inSet_or, inSet_only, hj, hi]
  rw [setWhere, fold]
  simp [inSet]

/-- The set a preset's target resolves to (R127). -/
theorem inSet_resolve (p : Fin 16) (s : State) (n : Fin 32) :
    inSet (resolve p s) n = true ↔ (s.station n).calls = true ∧
      (match (s.preset p).target with
       | .all => True
       | .stations set => inSet set n = true
       | .roles set => ∃ r, inSet set r = true ∧ (s.role r).active = true ∧ (s.role r).station = some n) := by
  rw [resolve, inSet_setWhere, Bool.and_eq_true]
  refine and_congr_right fun _ => ?_
  cases (s.preset p).target with
  | all => simp [targets]
  | stations set => rfl
  | roles set => simp [targets, roleStation, List.any_eq_true, and_assoc]

/-! ## Requests (R123 to R125) -/

theorem callRequest_empty {o : Origin} (h : (s.preset p).source = none) : callRequest p o s = (.presetEmpty, s) := by
  simp [callRequest, h]

theorem callRequest_lives {o : Origin} (h : (s.preset p).source.isSome) (lives : callLives p s = true) :
    callRequest p o s = (.inUse, s) := by
  have some_ : (s.preset p).source.isNone = false := by simpa using h
  simp [callRequest, some_, lives]

theorem callRequest_idle {o : Origin} (h : (s.preset p).source.isSome) (lives : callLives p s = false)
    (idle : s.relay.active = none) :
    callRequest p o s =
      (.accepted (newCall p o s).serial
        (activationOutcome (newCall p o s) (advance 0#32 (newCall p o s :: s.relay.queue) (countArrival s))) none,
        advance 0#32 (newCall p o s :: s.relay.queue) (countArrival s)) := by
  have some_ : (s.preset p).source.isNone = false := by simpa using h
  simp [callRequest, some_, lives, idle, newCall]

theorem callRequest_preempts {o : Origin} (h : (s.preset p).source.isSome) (lives : callLives p s = false)
    (active : s.relay.active = some a) (takes : (s.preset p).priority = .urgent ∧ rank a.call.priority < 3) :
    callRequest p o s =
      (.accepted (newCall p o s).serial
        (activationOutcome (newCall p o s) (advance a.stations (newCall p o s :: s.relay.queue)
          (raiseCallChange a.call.preset .preempted (countArrival s)))) (some a.call.preset),
        advance a.stations (newCall p o s :: s.relay.queue)
          (raiseCallChange a.call.preset .preempted (countArrival s))) := by
  have some_ : (s.preset p).source.isNone = false := by simpa using h
  have takes' : (s.preset p).priority = .urgent ∧ rank a.call.priority < rank .urgent := takes
  simp only [callRequest, some_, lives, active, newCall, takes', Bool.false_eq_true, if_false]
  rfl

section
variable {o : Origin} (h : (s.preset p).source.isSome) (lives : callLives p s = false) (active : s.relay.active = some a)
  (waits : ¬ ((s.preset p).priority = .urgent ∧ rank a.call.priority < 3))
include h lives active waits

theorem callRequest_joins {other : Option (Fin 16)} (join : joinQueue (newCall p o s) s = some (u, other)) :
    callRequest p o s =
      (.accepted (newCall p o s).serial (.pending (placeOf (newCall p o s) u.relay.queue)) other, countArrival u) := by
  have some_ : (s.preset p).source.isNone = false := by simpa using h
  have waits' : ¬ ((s.preset p).priority = .urgent ∧ rank a.call.priority < rank .urgent) := waits
  simp only [callRequest, some_, lives, active, waits', Bool.false_eq_true, if_false]
  rw [newCall] at join
  rw [join]
  rfl

theorem callRequest_full (join : joinQueue (newCall p o s) s = none) : callRequest p o s = (.full, s) := by
  have some_ : (s.preset p).source.isNone = false := by simpa using h
  have waits' : ¬ ((s.preset p).priority = .urgent ∧ rank a.call.priority < rank .urgent) := waits
  simp only [callRequest, some_, lives, active, waits', Bool.false_eq_true, if_false]
  rw [newCall] at join
  rw [join]

end

/-- No call of the preset is pending where none lives (R123). -/
theorem queue_of_callLives (h : callLives p s = false) : ∀ d ∈ s.relay.queue, d.preset ≠ p := by
  simp only [callLives, Bool.or_eq_false_iff, callPending, List.any_eq_false, decide_eq_true_eq] at h
  exact h.2

/-! ## The place of a call that joins (R126) -/

/-- The queue with a call that joined. -/
theorem enqueue_joins (c : Call) (q : List Call) :
    enqueue c q = q.takeWhile (staysAhead c) ++ c :: q.dropWhile (staysAhead c) := enqueue_eq c q

theorem placeOf_enqueue {q : List Call} (new : ∀ d ∈ q, d ≠ c) : placeOf c (enqueue c q) = (q.takeWhile (staysAhead c)).length + 1 := by
  have ahead : ∀ d ∈ q.takeWhile (staysAhead c), decide (d = c) = false := fun d hd =>
    decide_eq_false (new d ((List.takeWhile_sublist _).subset hd))
  rw [enqueue_joins, placeOf, List.findIdx_append, List.findIdx_eq_length_of_false ahead]
  simp [List.findIdx_cons]

/-! ## The call that is displaced (R125) -/

theorem mem_victim {q : List Call} {d : Call} (h : victim s q = some d) : d ∈ q := by
  induction q generalizing d with
  | nil => cases h
  | cons c q ih =>
    simp only [victim] at h
    split at h
    · cases h
      exact List.mem_cons_self
    · rename_i e he
      split at h
      · cases h
        exact List.mem_cons_self
      · split at h
        · cases h
          exact List.mem_cons_self
        · cases h
          exact List.mem_cons_of_mem _ (ih he)

theorem victim_isSome {q : List Call} (h : q ≠ []) : ∃ d, victim s q = some d := by
  cases q with
  | nil => cases h rfl
  | cons c q =>
    simp only [victim]
    repeat' split
    all_goals exact ⟨_, rfl⟩

/-- A call of the queue comes before another in giving way: a lower priority, or the later arrived of one priority (R125). -/
def givesWay (s : State) (d e : Call) : Prop :=
  rank d.priority < rank e.priority ∨ rank d.priority = rank e.priority ∧ callAge s d < callAge s e

/-- The call that gives way to every other is the one displaced. -/
theorem victim_unique {q : List Call} {d : Call} (mem : d ∈ q) (least : ∀ e ∈ q, e ≠ d → givesWay s d e) :
    victim s q = some d := by
  induction q with
  | nil => cases mem
  | cons c q ih =>
    have later : ∀ e ∈ q, e ≠ d → givesWay s d e := fun e he => least e (List.mem_cons_of_mem _ he)
    simp only [victim]
    by_cases hq : d ∈ q
    · rw [ih hq later]
      by_cases hc : c = d
      · simp [hc]
      · have gives := least c List.mem_cons_self hc
        rw [givesWay] at gives
        simp only
        rw [if_neg (by omega), if_neg (by omega)]
    · obtain rfl : d = c := (List.mem_cons.1 mem).resolve_right hq
      cases hv : victim s q with
      | none => rfl
      | some e =>
        have he : e ∈ q := mem_victim hv
        have gives := later e he fun h => hq (h ▸ he)
        rw [givesWay] at gives
        simp only
        by_cases lower : rank d.priority < rank e.priority
        · rw [if_pos lower]
        · rw [if_neg lower, if_pos (by omega)]

/-! ## Joining the queue (R125, R126) -/

theorem joinQueue_place (h : s.relay.queue.length < 8) :
    joinQueue c s = some (s.modRelay (fun x => { x with queue := enqueue c x.queue }), none) := if_pos h

theorem joinQueue_displaces {d : Call} (full : 8 ≤ s.relay.queue.length) (out : victim s s.relay.queue = some d)
    (lower : rank d.priority < rank c.priority) :
    joinQueue c s = some (raiseCallChange d.preset .displaced
      (s.modRelay (fun x => { x with queue := enqueue c (without d x.queue) })), some d.preset) := by
  have places : ¬ s.relay.queue.length < Config.callPlaces := Nat.not_lt.2 full
  simp only [joinQueue, places, if_false, out, lower, if_true]

theorem joinQueue_full (full : 8 ≤ s.relay.queue.length) (high : ∀ d ∈ s.relay.queue, rank c.priority ≤ rank d.priority) :
    joinQueue c s = none := by
  have places : ¬ s.relay.queue.length < Config.callPlaces := Nat.not_lt.2 full
  obtain ⟨d, hd⟩ := victim_isSome (s := s) (q := s.relay.queue) fun e => by simp [e] at full
  have low : ¬ rank d.priority < rank c.priority := Nat.not_lt.2 (high d (mem_victim hd))
  simp only [joinQueue, places, if_false, hd, low]

theorem countArrival_joins (p : Fin 16) (o : Origin) (s : State) :
    countArrival (s.modRelay (fun x => { x with queue := enqueue (newCall p o s) x.queue })) =
      callJoins (newCall p o s) s.relay.queue s := by
  simp only [State.modRelay, enqueue_joins]
  rfl

theorem countArrival_displaces (p : Fin 16) (o : Origin) (d : Call) (s : State) :
    countArrival (raiseCallChange d.preset .displaced
      (s.modRelay (fun x => { x with queue := enqueue (newCall p o s) (without d x.queue) }))) =
      callReported d.preset .displaced (callJoins (newCall p o s) (s.relay.queue.filter (fun e => decide (e ≠ d))) s) := by
  simp only [State.modRelay, enqueue_joins]
  rfl

/-! ## The activation (R127, R129) -/

/-- The call of a preset without a pending call is ACTIVE after the advance exactly where its target holds a station. -/
theorem activationOutcome_advance {o : BitVec 32} (set : ∀ q, resolve q t = resolve q s) (other : ∀ d ∈ s.relay.queue, d.preset ≠ c.preset) :
    activationOutcome c (advance o (c :: s.relay.queue) t) = if resolve c.preset s ≠ 0#32 then .active else .ended := by
  have pick : (advance o (c :: s.relay.queue) t).relay.active = (pickCall s (c :: s.relay.queue)).1 := by
    rw [advance_relay, pickCall_congr set]
  rw [activationOutcome, pick]
  by_cases hc : resolve c.preset s = 0#32
  · rw [if_neg (not_not_intro hc)]
    simp only [pickCall, hc, if_true]
    cases h : pickCall s s.relay.queue with
    | mk x rest =>
      cases x with
      | none => rfl
      | some b =>
        obtain ⟨ahead, split, -⟩ := pickCall_some h
        have mem : b.call ∈ s.relay.queue := split ▸ by simp
        have ne : b.call ≠ c := fun e => other _ mem (by rw [e])
        simp [ne]
  · rw [if_pos hc]
    simp [pickCall, hc]

theorem activationOutcome_newCall {o : BitVec 32} {origin : Origin} (set : ∀ q, resolve q t = resolve q s)
    (lives : callLives p s = false) :
    activationOutcome (newCall p origin s) (advance o (newCall p origin s :: s.relay.queue) t) =
      if resolve p s ≠ 0#32 then .active else .ended :=
  activationOutcome_advance set (queue_of_callLives lives)

/-- An activation of a call where none lives (R127, R128). -/
theorem callHolds_advance {o : Origin} (idle : s.relay.queue = []) (holds : resolve p s ≠ 0#32) :
    callHolds p o s (advance 0#32 (newCall p o s :: s.relay.queue) (countArrival s)) := by
  have pick := pickCall_congr (t := countArrival s) (s := s) (fun _ => rfl) (newCall p o s :: s.relay.queue)
  have first := pick.trans (pickCall_next (s := s) (c := newCall p o s) (gone := []) (q := s.relay.queue) nofun holds)
  have relay := advance_relay 0#32 (newCall p o s :: s.relay.queue) (countArrival s)
  have hand := advance_handedOver 0#32 (newCall p o s :: s.relay.queue) (countArrival s)
  have programme := advance_programme 0#32 (newCall p o s :: s.relay.queue) (countArrival s)
  have aside := advance_aside 0#32 (newCall p o s :: s.relay.queue) (countArrival s)
  rw [first] at relay hand
  generalize advance 0#32 (newCall p o s :: s.relay.queue) (countArrival s) = t at *
  refine ⟨?_, ?_, ?_, handedOver_congr (fun _ => rfl) rfl hand, programme, congrArg (fun x => x.table) aside,
    congrArg (fun x => x.cues) aside, congrArg (fun x => x.foldback) aside, congrArg (fun x => x.links) aside,
    congrArg (fun x => x.monitors) aside⟩
  · rw [relay]
    rfl
  · rw [relay, ← idle]
  · rw [relay]
    rfl

theorem callStart_empty (h : (s.preset p).source = none) : callStart (num p) s = .error .notFound := by
  simp only [callStart, index_num, ok_bind, callRequest_empty h]

theorem callStart_lives (h : (s.preset p).source.isSome) (lives : callLives p s = true) :
    callStart (num p) s = .error .inUse := by
  simp only [callStart, index_num, ok_bind, callRequest_lives h lives]

/-- What CALL_START answers to an accepted request (R123). -/
theorem callStart_accepted {serial : BitVec 32} {outcome : CallOutcome} {other : Option (Fin 16)}
    (h : callRequest p .port s = (.accepted serial outcome other, t)) :
    callStart (num p) s = .ok (.four serial.toNat :: outcomeFields outcome ++ [.byte (optNum other)], t) := by
  simp only [callStart, index_num, ok_bind, h]

theorem callLives_none (idle : s.relay.active = none) (queue : s.relay.queue = []) : callLives p s = false := by
  simp [callLives, callActive, callPending, idle, queue]

/-- The state at an accepted edge of CALL_N (R75). -/
def keyed (e : Edge) (s : State) : State := s.modEngine (fun x => { x with callInput := acceptEdge e x.callInput })

theorem callKey_press (h : edgeActs s.engine.callInput .press = true) : callKey .press s = callPress (keyed .press s) := by
  have acts : edgeActs (acceptEdge .press s.engine.callInput) .press = true := h
  simp only [callKey, callEdge, modEngine_engine, acts, if_true, keyed]

theorem callKey_release (h : edgeActs s.engine.callInput .release = true) :
    callKey .release s = callRelease (keyed .release s) := by
  have acts : edgeActs (acceptEdge .release s.engine.callInput) .release = true := h
  simp only [callKey, callEdge, modEngine_engine, acts, if_true, keyed]

end Sys2Proof.Machine

open Sys2Proof Sys2Proof.Machine

/-- Settles O54: an idle relay advances to the one call requested, which the handover from no stations describes. -/
theorem callsActivate : Obligations.CallsActivate := by
  unfold Obligations.CallsActivate
  intro p s
  refine ⟨inSet_resolve p s, fun ready none => ?_, fun ready source lives => ?_, fun source idle queue holds => ⟨fun ready => ?_, ?_⟩,
    fun ready source idle queue none => ?_⟩
  · exact next_refused ready (callStart_empty none)
  · exact next_refused ready (callStart_lives source lives)
  · have idles := callLives_none (p := p) idle queue
    have started := callStart_accepted (callRequest_idle source idles idle)
    rw [activationOutcome_newCall (s := s) (t := countArrival s) (fun _ => rfl) idles, if_pos holds] at started
    exact ⟨_, next_answered ready started, callHolds_advance queue holds, rfl⟩
  · rintro rfl acts
    have start := callRequest_idle (s := keyed .press s) (o := .line) source (callLives_none idle queue) idle
    have aside := advance_aside 0#32 (newCall 0 .line (keyed .press s) :: s.relay.queue) (countArrival (keyed .press s))
    have activated := callHolds_advance (p := 0) (o := .line) (s := keyed .press s) queue holds
    refine ⟨fun ready => lineEdge_ok ready, _, rfl, ?_⟩
    rw [callKey_press acts, callPress, start]
    exact ⟨activated, congrArg (fun x => x.port) aside, congrArg (fun x => x.engine.callInput) aside⟩
  · have idles := callLives_none (p := p) idle queue
    have started := callStart_accepted (callRequest_idle source idles idle)
    have pick : pickCall (countArrival s) (newCall p .port s :: s.relay.queue) = (Option.none, [], [p]) := by
      rw [queue]
      exact pickCall_none (s := countArrival s) (l := [newCall p .port s]) fun c hc => by
        rw [List.mem_singleton.1 hc]
        exact none
    rw [activationOutcome_newCall (s := s) (t := countArrival s) (fun _ => rfl) idles, if_neg (not_not_intro none), advance_at,
      advanced, pick] at started
    simp only [activeSet, activeDepth, handover_none] at started
    refine (next_answered ready started).trans ?_
    simp only [callReported, idle, queue]
    rfl

end

section
/-! Calls that wait, displace or preempt, and calls that end (7.4 to 7.7). -/

namespace Sys2Proof.Machine

variable {s t u v : State} {c : Call} {a : ActiveCall} {why : EndReason} {p : Fin 16}

/-! ## Preemption (R124) -/

/-- An end of the active call reads the records, the fades and the stations, and nothing else of the state. -/
theorem callEnded_congr {calls : List Call} (relay : v.relay = { s.relay with arrivals := v.relay.arrivals })
    (table : v.table = s.table) (fades : v.fades = s.fades) (cues : v.cues = s.cues) (foldback : v.foldback = s.foldback)
    (links : v.links = s.links) (h : callEnded why a calls v t) : callEnded why a calls s t := by
  have stations : ∀ m, v.station m = s.station m := fun m => by rw [State.station, relay, State.station]
  have presets : ∀ q, v.preset q = s.preset q := fun q => by rw [State.preset, relay, State.preset]
  have roles : ∀ r, v.role r = s.role r := fun r => by rw [State.role, table, State.role]
  have set : ∀ q, resolve q v = resolve q s := fun q => by
    simp only [resolve, targets, roleStation, stations, presets, roles]
  have hand : ∀ o n depth, handedOver o n depth v t → handedOver o n depth s t := fun _ _ _ =>
    handedOver_congr stations fades
  have entries : v.relay.entries = s.relay.entries := congrArg (fun x => x.entries) relay
  have backup : v.relay.backup = s.relay.backup := congrArg (fun x => x.backup) relay
  have level : v.relay.backupLevel = s.relay.backupLevel := congrArg (fun x => x.backupLevel) relay
  have selection : v.relay.selection = s.relay.selection := congrArg (fun x => x.selection) relay
  have records : v.relay.presets = s.relay.presets := congrArg (fun x => x.presets) relay
  rw [callEnded] at h
  simp only [set, presets, table, cues, foldback, links, entries, backup, level, selection, records] at h
  obtain ⟨none, next, rest⟩ := h
  refine ⟨fun empty => ?_, fun gone c q split empty holds => ?_, rest⟩
  · obtain ⟨active, queue, news, moved⟩ := none empty
    exact ⟨active, queue, news, hand _ _ _ moved⟩
  · obtain ⟨active, queue, news, moved⟩ := next gone c q split empty holds
    exact ⟨active, queue, news, hand _ _ _ moved⟩

/-- What an URGENT call leaves that takes over the rooms of the active one (R124, R129). -/
theorem callEnded_preempted (calls : List Call) (a : ActiveCall) (s : State) :
    callEnded .preempted a calls s (advance a.stations calls (raiseCallChange a.call.preset .preempted (countArrival s))) :=
  callEnded_congr rfl rfl rfl rfl rfl rfl (callEnded_advance .preempted a calls (countArrival s))

theorem callStart_full (h : callRequest p .port s = (.full, s)) : callStart (num p) s = .error .full := by
  simp only [callStart, index_num, ok_bind, h]

/-! ## Ends (R130 to R132) -/

theorem endActive_at (active : s.relay.active = some a) :
    endActive why s = advance a.stations s.relay.queue (raiseCallChange a.call.preset why s) := by
  rw [endActive, active]

/-- What the end of the active call leaves, and keeps (R129). -/
theorem endActive_ends (active : s.relay.active = some a) :
    callEnded why a s.relay.queue s (endActive why s) ∧ (endActive why s).relay.arrivals = s.relay.arrivals ∧
      (endActive why s).port = s.port := by
  have aside := advance_aside a.stations s.relay.queue (raiseCallChange a.call.preset why s)
  rw [endActive_at active]
  exact ⟨callEnded_advance why a s.relay.queue s, congrArg (fun x => x.relay.arrivals) aside,
    congrArg (fun x => x.port) aside⟩

theorem endPending_eq (p : Fin 16) (why : EndReason) (s : State) :
    endPending p why s = { s with
      relay := { s.relay with queue := s.relay.queue.filter (fun c => decide (c.preset ≠ p)) }
      attention := (endPending p why s).attention } := rfl

theorem endPending_news (p : Fin 16) (why : EndReason) (s : State) : callNews (endPending p why s) = (some (p, why), true) :=
  raised_news ..

theorem callEnd_none (h : callLives p s = false) : callEnd (num p) s = .error .notFound := by
  obtain ⟨active, pending⟩ := Bool.or_eq_false_iff.1 h
  simp only [callEnd, index_num, ok_bind, active, pending, Bool.false_eq_true, if_false]

theorem callEnd_active (h : callActive p s = true) :
    callEnd (num p) s = .ok ([.byte 1, .byte (optNum (activePreset (endActive .host s)))], endActive .host s) := by
  simp only [callEnd, index_num, ok_bind, h, if_true]

theorem callEnd_pending (active : callActive p s = false) (pending : callPending p s = true) :
    callEnd (num p) s = .ok ([.byte 0, .byte (optNum (activePreset (endPending p .host s)))], endPending p .host s) := by
  simp only [callEnd, index_num, ok_bind, active, pending, Bool.false_eq_true, if_false, if_true]

theorem callEnd_badIndex {n : Nat} (h : n = 0 ∨ 16 < n) : callEnd n s = .error .badIndex := by
  have out : index 16 n = .error .badIndex := by
    rw [index, idx, dif_neg (by omega)]
    rfl
  rw [callEnd, out]
  rfl

/-- The LINE call on preset 1 is not the active one (R131). -/
theorem callRelease_active (active : s.relay.active = some a) (key : a.call.preset = 0) (line : a.call.origin = .line) :
    callRelease s = endActive .line s := by
  simp only [callRelease, active, key, line, and_self, if_true]

theorem callRelease_waiting (other : ∀ b, s.relay.active = some b → ¬ (b.call.preset = 0 ∧ b.call.origin = .line)) :
    callRelease s =
      if s.relay.queue.any (fun c => decide (c.preset = 0 ∧ c.origin = .line)) then endPending 0 .line s else s := by
  cases active : s.relay.active with
  | none => simp only [callRelease, active]
  | some b => simp only [callRelease, active, if_neg (other b active)]

theorem callRelease_pending (other : ∀ b, s.relay.active = some b → ¬ (b.call.preset = 0 ∧ b.call.origin = .line))
    (waits : ∃ c ∈ s.relay.queue, c.preset = 0 ∧ c.origin = .line) : callRelease s = endPending 0 .line s := by
  rw [callRelease_waiting other, if_pos]
  simpa only [List.any_eq_true, decide_eq_true_eq] using waits

theorem callRelease_none (other : ∀ b, s.relay.active = some b → ¬ (b.call.preset = 0 ∧ b.call.origin = .line))
    (waits : ∀ c ∈ s.relay.queue, ¬ (c.preset = 0 ∧ c.origin = .line)) : callRelease s = s := by
  rw [callRelease_waiting other, if_neg]
  simpa only [List.any_eq_true, decide_eq_true_eq, not_exists, not_and] using waits

/-! ## Limits (R132) -/

theorem fallsSilent_iff {a : ActiveCall} :
    fallsSilent a s = true ↔ (s.preset a.call.preset).silence ≠ 0 ∧
      (s.preset a.call.preset).silence ≤ silenceAfter a s := decide_eq_true_iff

theorem talkSilent_iff : talkSilent a s = true ↔
    ∀ c, (s.preset a.call.preset).source = some c → s.mixer.peaks.get (pointIndex (.channel c)) ≤ -240 := by
  cases h : (s.preset a.call.preset).source with
  | none => simp [talkSilent, h]
  | some c =>
    simp only [talkSilent, h, decide_eq_true_eq, Option.some.injEq, forall_eq']
    rfl

theorem countCall_timeout (active : s.relay.active = some a) (limit : timesOut a s = true) :
    countCall s = endActive .timeout s := by
  simp only [countCall, active, limit, if_true]

theorem countCall_silent (active : s.relay.active = some a) (limit : timesOut a s = false) (silent : fallsSilent a s = true) :
    countCall s = endActive .silent s := by
  simp only [countCall, active, limit, silent, Bool.false_eq_true, if_false, if_true]

theorem countCall_counts (active : s.relay.active = some a) (limit : timesOut a s = false) (silent : fallsSilent a s = false) :
    countCall s = { s with relay := { s.relay with
      active := some { a with activeTime := a.activeTime + 1, silenceTime := silenceAfter a s } } } := by
  simp only [countCall, active, limit, silent, Bool.false_eq_true, if_false]
  rfl

/-- The end of the active call as a part of an end that is due. -/
theorem endActive_part (started : State) (same : started.relay = s.relay ∧ started.table = s.table ∧ started.fades = s.fades ∧
    started.cues = s.cues ∧ started.foldback = s.foldback ∧ started.links = s.links ∧ started.port = s.port)
    (called : started.ending.called = true) (active : s.relay.active = some a) :
    callEnded why a s.relay.queue s (endActive why started) ∧ (endActive why started).relay.arrivals = s.relay.arrivals ∧
      (endActive why started).port = s.port ∧ (endActive why started).ending.called = true := by
  obtain ⟨relay, table, fades, cues, foldback, links, port⟩ := same
  obtain ⟨ends, arrivals, ports⟩ := endActive_ends (why := why) (relay ▸ active : started.relay.active = some a)
  have timing := (run_endActive (G := False) (s := started) why).ending_stands fun _ => calling_timing
  refine ⟨?_, arrivals.trans (by rw [relay]), ports.trans port, by rw [timing]; exact called⟩
  rw [relay] at ends
  exact callEnded_congr (by rw [relay]) table fades cues foldback links ends

theorem takePeaks_eq (s : State) : takePeaks s = { s with mixer := (takePeaks s).mixer, ending := (takePeaks s).ending } := by
  unfold takePeaks
  split <;> rfl

theorem callTimeout_ends (due : s.ending.called = false) (active : s.relay.active = some a) (limit : timesOut a s = true) :
    callEnded .timeout a s.relay.queue s (callTimeout s) ∧ (callTimeout s).relay.arrivals = s.relay.arrivals ∧
      (callTimeout s).port = s.port ∧ (callTimeout s).ending.called = true := by
  have run : callTimeout s = endActive .timeout (markCalled (beginBlock .relay s)) := by
    simp only [callTimeout, callToCount, due, active, limit, Bool.false_eq_true, if_false, if_true]
  rw [run]
  exact endActive_part _ ⟨rfl, rfl, rfl, rfl, rfl, rfl, rfl⟩ rfl active

theorem callSilent_ends (due : s.ending.called = false) (active : s.relay.active = some a) (limit : timesOut a s = false)
    (silent : fallsSilent a (takePeaks s) = true) :
    callEnded .silent a s.relay.queue s (callSilent s) ∧ (callSilent s).relay.arrivals = s.relay.arrivals ∧
      (callSilent s).port = s.port ∧ (callSilent s).ending.called = true := by
  have run : callSilent s = endActive .silent (markCalled (takePeaks (beginBlock .relay s))) := by
    simp only [callSilent, callToCount, due, active, limit, silent, Bool.false_eq_true, if_false, Bool.not_false,
      Bool.true_and, if_true]
  rw [run, takePeaks_eq]
  exact endActive_part _ ⟨rfl, rfl, rfl, rfl, rfl, rfl, rfl⟩ rfl active

/-- The silence time counts while the talk source is silent, where the preset has a silence limit (R132). -/
theorem silenceAfter_silent (limit : (s.preset a.call.preset).silence ≠ 0) (quiet : talkSilent a s = true) :
    silenceAfter a s = a.silenceTime + 1 := by rw [silenceAfter, if_neg limit, if_pos quiet]

theorem silenceAfter_loud (limit : (s.preset a.call.preset).silence ≠ 0) (loud : ¬ talkSilent a s = true) :
    silenceAfter a s = 0 := by rw [silenceAfter, if_neg limit, if_neg loud]

theorem fallsSilent_of (limit : (s.preset a.call.preset).silence ≠ 0) (quiet : talkSilent a s = true)
    (long : (s.preset a.call.preset).silence ≤ a.silenceTime + 1) : fallsSilent a s = true :=
  fallsSilent_iff.2 ⟨limit, by rwa [silenceAfter_silent limit quiet]⟩

/-- An end that ends the active call for neither limit (R132). -/
theorem countCall_neither {n : Nat} (active : s.relay.active = some a) (limit : timesOut a s = false) (time : silenceAfter a s = n)
    (short : (s.preset a.call.preset).silence ≠ 0 → n < (s.preset a.call.preset).silence) :
    countCall s = { s with relay := { s.relay with
      active := some { a with activeTime := a.activeTime + 1, silenceTime := n } } } := by
  have silent : fallsSilent a s = false := by
    refine Bool.eq_false_iff.2 fun h => ?_
    obtain ⟨on, long⟩ := fallsSilent_iff.1 h
    have := short on
    omega
  rw [countCall_counts active limit silent, time]

end Sys2Proof.Machine

open Sys2Proof Sys2Proof.Machine

/-- Settles O55: a call that does not take over joins the queue as `enqueue_joins` says; the call displaced is the one that
gives way to every other; an URGENT call ends the active one and the advance begins with it. -/
theorem callsQueueAndPreempt : Obligations.CallsQueueAndPreempt := by
  unfold Obligations.CallsQueueAndPreempt
  intro p a s ready source lives active c place
  have new : ∀ q ⊆ s.relay.queue, ∀ d ∈ q, d ≠ c := fun q sub d hd e =>
    queue_of_callLives lives d (sub hd) (e ▸ rfl)
  refine ⟨fun waits => ⟨fun room => ?_, fun d ⟨mem, full, lower, least⟩ => ?_, fun full high => ?_⟩, fun urgent lower => ?_⟩
  · have started := callStart_accepted (callRequest_joins source lives active waits (joinQueue_place room))
    rw [countArrival_joins] at started
    have at_ := placeOf_enqueue (new _ (List.Subset.refl _))
    refine (next_answered ready started).trans ?_
    rw [modRelay_relay, at_]
    rfl
  · have out := victim_unique mem least
    have started := callStart_accepted
      (callRequest_joins source lives active waits (joinQueue_displaces full out lower))
    rw [countArrival_displaces] at started
    have at_ := placeOf_enqueue (new (without d s.relay.queue) (List.filter_subset_self _))
    refine (next_answered ready started).trans ?_
    rw [raiseCallChange, raise_relay, modRelay_relay, at_]
    rfl
  · exact next_refused ready (callStart_full (callRequest_full source lives active waits (joinQueue_full full high)))
  · have started := callStart_accepted (callRequest_preempts source lives active ⟨urgent, lower⟩)
    have ended := callEnded_preempted (newCall p .port s :: s.relay.queue) a s
    have relay := advance_relay a.stations (newCall p .port s :: s.relay.queue)
      (raiseCallChange a.call.preset .preempted (countArrival s))
    rw [activationOutcome_newCall (s := s)
      (t := raiseCallChange a.call.preset .preempted (countArrival s)) (fun _ => rfl) lives] at started
    generalize advance a.stations (newCall p .port s :: s.relay.queue)
      (raiseCallChange a.call.preset .preempted (countArrival s)) = t at *
    refine ⟨_, next_answered ready started, ended, ?_, ?_, fun holds => ?_⟩
    · exact (congrArg (fun x => x.arrivals) relay)
    · by_cases holds : resolve p s ≠ 0#32
      · rw [if_pos holds, if_pos holds]
        rfl
      · rw [if_neg holds, if_neg holds]
        rfl
    · obtain ⟨-, next, -⟩ := ended
      obtain ⟨active', queue, news, -⟩ := next [] _ _ rfl nofun holds
      exact ⟨active', queue, news⟩

/-- Settles O56: the active call ends by `endActive`, a pending one by `endPending`; the limits are `timesOut` and
`fallsSilent`, and the parts of an end differ from them by how far the end is taken. -/
theorem callsEnd : Obligations.CallsEnd := by
  unfold Obligations.CallsEnd
  intro p a s
  refine ⟨fun ready lives => next_refused ready (callEnd_none lives), fun ready active here => ?_,
    fun ready active pending => ?_, fun ready => lineEdge_ok ready, fun acts => ⟨fun active key line => ?_, fun other waits => ?_,
    fun other waits => ?_⟩, fun ready n bad => next_refused ready (callEnd_badIndex bad), fun active => ?_⟩
  · obtain ⟨ends, arrivals, -⟩ := endActive_ends (why := .host) active
    have mine : callActive p s = true := by simp [callActive, active, here]
    exact ⟨_, next_answered ready (callEnd_active mine), ends, arrivals, rfl⟩
  · have news := endPending_news p .host s
    exact ⟨_, next_answered ready (callEnd_pending active pending), rfl, congrArg Prod.fst news, congrArg Prod.snd news, rfl,
      rfl⟩
  · obtain ⟨ends, arrivals, port⟩ := endActive_ends (s := keyed .release s) (why := .line) active
    refine ⟨_, (callKey_release acts).trans (callRelease_active active key line), ?_, arrivals, port⟩
    exact callEnded_congr (v := keyed .release s) rfl rfl rfl rfl rfl rfl ends
  · have news := endPending_news 0 .line (keyed .release s)
    exact ⟨_, (callKey_release acts).trans (callRelease_pending (s := keyed .release s) other waits), rfl,
      congrArg Prod.fst news, congrArg Prod.snd news, rfl⟩
  · exact (callKey_release acts).trans (callRelease_none (s := keyed .release s) other waits)
  · have inTime : a.activeTime + 1 < (s.preset a.call.preset).maxLength → timesOut a s = false := fun h =>
      decide_eq_false (Nat.not_le.2 h)
    refine ⟨fun parts due => ⟨fun long => ⟨_, blockPart_ok parts, callTimeout_ends due active (decide_eq_true long)⟩,
      fun short limit quiet long => ⟨_, blockPart_ok parts, ?_⟩⟩, fun long => ?_, fun short limit quiet long => ?_,
      fun short => ⟨fun no => ?_, fun limit quiet less => ?_, fun limit loud => ?_⟩⟩
    · have same : ∀ q, (takePeaks s).preset q = s.preset q := fun q => by rw [takePeaks_eq]; rfl
      refine callSilent_ends due active (inTime short) (fallsSilent_of ?_ (talkSilent_iff.2 ?_) ?_) <;> rw [same]
      exacts [limit, quiet, long]
    · rw [countCall_timeout active (decide_eq_true long)]
      exact (endActive_ends active).1
    · rw [countCall_silent active (inTime short) (fallsSilent_of limit (talkSilent_iff.2 quiet) long)]
      exact (endActive_ends active).1
    · exact countCall_neither active (inTime short) (if_pos no) fun h => absurd no h
    · exact countCall_neither active (inTime short) (silenceAfter_silent limit (talkSilent_iff.2 quiet)) fun _ => less
    · exact countCall_neither active (inTime short) (silenceAfter_loud limit fun h => loud (talkSilent_iff.1 h)) fun h => Nat.pos_of_ne_zero h

end

section
/-! The level monitors (8.2 to 8.4). -/

namespace Sys2Proof.Machine

variable {s t u : State} {m i : Fin 16}

/-- A set with one more member. -/
theorem inSet_with {n : Nat} (x : BitVec n) (i j : Fin n) : inSet (x ||| only j) i = (inSet x i || decide (i = j)) := by
  rw [inSet_or, inSet_only]
  simp only [eq_comm]

/-! ## MONITOR_SET (R139) -/

/-- The record that MONITOR_SET writes (R139). -/
def monitorOf (f : RawMonitor) (point : Point) (w : Window) (act : TripAction) : Monitor :=
  ⟨decide (f.enabled = 1), point, clampCode (-400) 0 f.low, clampCode (-400) 0 f.high, w, max 1 (min f.hold 60000), act,
    if f.enabled = 1 then .watching else .off, 0⟩

theorem monitorSet_sets {f : RawMonitor} {point : Point} {w : Window} {act : TripAction} (enabled : f.enabled ≤ 1)
    (index : pointIndexOk f.point = true) (pointed : pointOf f.point = some point) (window : windowOf f.condition = some w)
    (action : tripActionOf f.action = some act) (fits : (∃ c, point = .channel c) ∨ act ≠ .muteChannel)
    (order : clampCode (-400) 0 f.low ≤ clampCode (-400) 0 f.high) :
    monitorSet (num m) f s = .ok ([], s.modMonitor m (fun _ => monitorOf f point w act)) := by
  have fit : actionFits act point = true := by
    rcases fits with ⟨c, rfl⟩ | mute
    · cases act <;> rfl
    · cases act with
      | muteChannel => exact absurd rfl mute
      | _ => rfl
  have low : clampCode off 0 f.low ≤ clampCode off 0 f.high := order
  have enables : onOffOk f.enabled = true := decide_eq_true enabled
  simp only [monitorSet, index_num, ok_bind, index, require_true, enables, pointed, window, action, need_some, fit,
    decide_eq_true low]
  simp only [monitorOf, isOn, decide_eq_true_eq, clampHold]
  rfl

/-! ## The trip (R141, R142) -/

/-- The channels at a trip: MUTE_CHANNEL mutes that of its point (R142). -/
def muting (x : Monitor) (channels : Table Channel 64) : Table Channel 64 :=
  match x.action, x.point with
  | .muteChannel, .channel c => channels.modify c (fun y => { y with mute := true })
  | _, _ => channels

theorem muting_none {x : Monitor} {channels : Table Channel 64} (no : x.action ≠ .muteChannel) :
    muting x channels = channels := by
  unfold muting
  split
  · exact absurd ‹_› no
  · rfl

theorem muting_get {x : Monitor} {channels : Table Channel 64} {c : Fin 64} (mute : x.action = .muteChannel)
    (point : x.point = .channel c) (d : Fin 64) :
    (muting x channels).get d = if c = d then { channels.get d with mute := true } else channels.get d := by
  simp only [muting, mute, point, Table.get_modify]

/-- A backup request leaves BACKUP selected where a backup channel is set (R118). -/
theorem backupRequest_eq (s : State) : backupRequest s = { s with relay := { s.relay with selection :=
    if s.relay.backup.isSome then .backup else s.relay.selection } } := by
  unfold backupRequest
  split
  case isTrue h => rw [if_pos h.2]; rfl
  case isFalse h =>
    have stands : (if s.relay.backup.isSome then Selection.backup else s.relay.selection) = s.relay.selection := by
      split
      · cases hs : s.relay.selection with
        | main => exact absurd ⟨hs, ‹_›⟩ h
        | backup => rfl
      · rfl
    rw [stands]

/-- What a trip does besides MONITOR_TRIP: it mutes its channel, or asks for the backup, or does nothing (R142). -/
theorem tripAction_eq (x : Monitor) (s : State) :
    tripAction x s = { s with
      table := { s.table with channels := muting x s.table.channels }
      relay := { s.relay with selection :=
        if x.action = .relayBackup ∧ s.relay.backup.isSome then .backup else s.relay.selection } } := by
  unfold tripAction muting
  cases action : x.action with
  | notify => simp
  | relayBackup => simp [backupRequest_eq]
  | muteChannel => cases x.point <;> simp [State.modChannel]

theorem takePeaks_mixer (s : State) :
    (s.ending.measured = true → (takePeaks s).mixer = s.mixer) ∧
    (s.ending.measured = false → (takePeaks s).mixer.out = s.mixer.out ∧ ∀ i,
      (takePeaks s).mixer.peaks.get i = peakCode (s.mixer.largest.get i) ∧ (takePeaks s).mixer.largest.get i = 0) := by
  refine ⟨fun h => by rw [takePeaks_of h], fun h => ?_⟩
  have run : takePeaks s = (completePeaks s).modEnding (fun x => { x with measured := true }) := by simp [takePeaks, h]
  rw [run]
  exact ⟨rfl, fun i => ⟨Table.get_map .., Table.get_replicate ..⟩⟩

theorem takePeaks_ending (s : State) : (takePeaks s).ending = { s.ending with measured := true } := by
  by_cases h : s.ending.measured = true
  · rw [takePeaks_of h, ← h]
  · simp only [takePeaks, h]
    rfl

theorem monitorTrip_trips (due : inSet s.ending.monitors m = false) (live : armed (s.monitor m) = true)
    (holds : monitorTrue (s.monitor m) (takePeaks s) = true) (long : (s.monitor m).hold ≤ (s.monitor m).count + 1) :
    monitorTrip m s =
      tripMonitor m ((s.monitor m).count + 1) (markMonitor m (takePeaks (beginBlock .monitors s))) := by
  simp only [monitorTrip, due, live, holds, decide_eq_true long, Bool.not_false, Bool.true_and, if_true]

/-- What a trip leaves (R142). -/
theorem trip_eq (m : Fin 16) (n : Nat) (s : State) :
    tripMonitor m n s = { s with
      monitors := s.monitors.modify m (fun x => { x with state := .tripped, count := n })
      table := { s.table with channels := muting (s.monitor m) s.table.channels }
      relay := { s.relay with selection :=
        if (s.monitor m).action = .relayBackup ∧ s.relay.backup.isSome then .backup else s.relay.selection }
      attention := (s.raise .monitorTrip (fun d => { d with trips := d.trips ||| only m })).attention } := by
  rw [tripMonitor, tripAction_eq]
  rfl

end Sys2Proof.Machine

open Sys2Proof Sys2Proof.Machine

/-- Settles O57: MONITOR_SET writes `monitorOf`, a trip is `trip_eq` on the peaks that the end completes. -/
theorem monitorSetAndTrip : Obligations.MonitorSetAndTrip := by
  unfold Obligations.MonitorSetAndTrip
  refine ⟨fun m f point w act s ready enabled index pointed window action fits order => ?_,
    fun m s parts due live holds long => ?_⟩
  · have run := monitorSet_sets (m := m) (s := s) enabled index pointed window action fits order
    refine ⟨_, next_answered ready run, ?_, fun i hi => ?_, rfl⟩
    · exact (modMonitor_monitor ..).trans (if_pos rfl)
    · exact (modMonitor_monitor ..).trans (if_neg fun e => hi e.symm)
  · refine ⟨_, (blockPart_ok parts).trans (congrArg _ (monitorTrip_trips due live holds long)), ?_⟩
    obtain ⟨stands, measures⟩ := takePeaks_mixer (beginBlock .monitors s)
    have time := takePeaks_ending (beginBlock .monitors s)
    have only_ := takePeaks_eq (beginBlock .monitors s)
    generalize takePeaks (beginBlock .monitors s) = u at *
    rw [trip_eq, only_, time]
    refine ⟨?_, fun i hi => ?_, ?_, rfl, fun i hi => ?_, fun no => ?_, fun backup => ?_, fun no => ?_, fun c mute here => ?_,
      stands, measures, rfl, fun i => ?_, rfl⟩
    · exact (Table.get_modify ..).trans (if_pos rfl)
    · exact (Table.get_modify ..).trans (if_neg fun e => hi e.symm)
    · exact (inSet_with ..).trans (by simp)
    · exact (inSet_with ..).trans (by rw [decide_eq_false hi, Bool.or_false]; rfl)
    · have other : ¬ ((s.monitor m).action = .relayBackup ∧ s.relay.backup.isSome) := fun h => no h.1
      exact congrArg (fun x => { s.relay with selection := x }) (if_neg other)
    · refine congrArg (fun x => { s.relay with selection := x }) ?_
      by_cases set : s.relay.backup.isSome
      · exact (if_pos ⟨backup, set⟩).trans (if_pos set).symm
      · exact (if_neg fun h => set h.2).trans (if_neg set).symm
    · exact congrArg (fun x => { s.table with channels := x }) (muting_none no)
    · have get := muting_get (channels := s.table.channels) mute here
      exact ⟨(get c).trans (if_pos rfl), fun d hd => (get d).trans (if_neg fun e => hd e.symm)⟩
    · exact inSet_with ..

end

section
/-! What the blocks leave of each other at the end of an interval: the peaks, the limiters and the monitors (2.6, 6.4, 8.4). -/

namespace Sys2Proof.Machine

variable {G : Prop} {K : Set Part} {s t u : State} {p : Part}

/-! ## What cues, calls and lines write -/

/-- The parts that the Cue Engine and the Relay Unit write at an end (R82, R132). -/
def Part.ofCue : Part → Bool
  | .raised c => decide (c ≠ .limiter)
  | .fade .system (.duck _) | .fade (.cue _) _ | .complete (.cue _) _ | .write (.xout _) => true
  | .inputs | .counters | .hold | .triggers | .skips _ | .slot _ | .start | .role | .release _ | .calls | .inCall => true
  | _ => false

/-- The parts that the show writes at an end: the fades step, and the cues, the calls and the lines act. -/
def Part.ofShow (p : Part) : Bool :=
  (match p with
    | .complete _ _ | .write _ | .advance _ => true
    | _ => false) || p.ofCue

theorem ofShow_ofCue (h : p.ofCue = true) : p.ofShow = true := by
  unfold Part.ofShow
  rw [h, Bool.or_true]

theorem settling_ofCue (h : p ∈ settling) : p.ofCue = true := by rcases h with rfl | ⟨j, rfl⟩ <;> rfl

theorem calling_ofCue (h : p ∈ calling) : p.ofCue = true := by rcases h with rfl | rfl | rfl | ⟨n, rfl⟩ <;> rfl

theorem taking_ofCue {k : Fin 8} (h : p ∈ taking k) : p.ofCue = true := by
  rcases h with (h | rfl | rfl | rfl | rfl | rfl | ⟨el, rfl⟩) | h
  · exact calling_ofCue h
  all_goals first | rfl | exact settling_ofCue h

theorem firing_ofCue (h : p ∈ firing) : p.ofCue = true := by
  rcases h with rfl | rfl | rfl | ⟨k, h | ⟨el, rfl | ⟨r, rfl, rfl | rfl⟩⟩⟩
  any_goals rfl
  exact taking_ofCue h

theorem going_ofCue (h : p ∈ going) : p.ofCue = true := by
  rcases h with rfl | h
  · rfl
  · exact firing_ofCue h

theorem counting_ofCue (h : p ∈ counting) : p.ofCue = true := by
  rcases h with rfl | h
  · rfl
  · exact going_ofCue h

theorem sampling_ofCue (h : p ∈ sampling) : p.ofCue = true := by
  rcases h with rfl | h | (rfl | rfl) | h
  any_goals rfl
  · exact calling_ofCue h
  · exact going_ofCue h

theorem fadesEnd_ofShow (h : p ∈ fadesEnd) : p.ofShow = true := by
  rcases h with ⟨el, rfl | ⟨o, rfl | ⟨r, -, rfl | rfl⟩⟩⟩ | h
  any_goals rfl
  exact ofShow_ofCue (settling_ofCue h)

/-- The parts of the show, and how far the end is taken. -/
def showing : Set Part := {p | p = .ending ∨ p.ofShow = true}

/-- The parts of the cues, calls and lines, and how far the end is taken. -/
def cueParts : Set Part := {p | p = .ending ∨ p.ofCue = true}

theorem cueParts_sub_showing : cueParts ⊆ showing := fun _ h => h.imp id ofShow_ofCue

theorem run_modEnding_of (f : Ending → Ending) (h : .ending ∈ K) : Run G K s (s.modEnding f) :=
  (run_modEnding f).mono (by rintro _ rfl; exact h)

theorem show_finishFades : Run G showing s (finishFades s) := by
  unfold finishFades
  split
  · exact Run.refl ..
  · exact (run_stepFades.mono fun _ h => .inr (fadesEnd_ofShow h)).trans (run_modEnding_of _ (.inl rfl))

theorem cue_finishRelay : Run G cueParts s (finishRelay s) := by
  unfold finishRelay
  split
  · exact Run.refl ..
  · exact (run_countCall.mono fun _ h => .inr (calling_ofCue h)).trans (run_modEnding_of _ (.inl rfl))

theorem cue_cueCounts (law : G → fadeLaw s) : Run G cueParts s (cueCounts s) := by
  unfold cueCounts
  split
  · exact Run.refl ..
  · refine (run_takeCounts law).mono ?_
    rintro p (rfl | h)
    · exact .inl rfl
    · exact .inr (counting_ofCue h)

theorem cue_linesLeft (l : Sampled) (law : G → fadeLaw s) : Run G cueParts s (linesLeft l s) := by
  refine Run.mono (K := sampling) (fun _ h => .inr (sampling_ofCue h)) ?_
  cases l with
  | none =>
    have hold := run_sampleHold (G := G) (s := s)
    exact hold.trans ((run_sampleGo fun g => hold.fadeLaw (law g)).trans run_sampleCall)
  | hold => exact (run_sampleGo law).trans run_sampleCall
  | go => exact run_sampleCall
  | all => exact Run.refl ..

theorem cue_finishCue (law : G → fadeLaw s) : Run G cueParts s (finishCue s) := by
  unfold finishCue
  split
  · exact Run.refl ..
  · have counts := cue_cueCounts law
    exact counts.trans ((cue_linesLeft _ fun g => counts.fadeLaw (law g)).trans (run_modEnding_of _ (.inl rfl)))

theorem show_finishBlock {b : EndBlock} (hb : b ≠ .monitors) (law : G → fadeLaw s) : Run G showing s (finishBlock b s) := by
  cases b with
  | fades => exact show_finishFades
  | monitors => exact absurd rfl hb
  | relay => exact cue_finishRelay.mono cueParts_sub_showing
  | cue => exact (cue_finishCue law).mono cueParts_sub_showing

/-! ## The records that the show leaves -/

/-- The mixes in the set of LIMITER, and whether it is raised (R114). -/
def limiterNews (s : State) : BitVec 12 × Bool := (s.attention.details.limiter, s.attention.flags.getLsbD 13)

theorem raise_limiterNews {c : Condition} {f : Details → Details} (other : c ≠ .limiter)
    (h : c ≠ .limiter → ∀ d, (f d).limiter = d.limiter) (s : State) : limiterNews (s.raise c f) = limiterNews s := by
  have flag : (only (condBit c)).getLsbD 13 = false := by cases c <;> first | rfl | exact absurd rfl other
  refine Prod.ext (h other _) ?_
  rw [limiterNews, raise_flags, BitVec.getLsbD_or, flag, Bool.or_false]
  rfl

theorem limiterNews_fadeRequest (el : Element) (z : Int) (d : Nat) (o : FadeOwner) (s : State) :
    limiterNews (fadeRequest el z d o s).2 = limiterNews s := by
  rcases fadeRequest_cases el z d o s with e | e | ⟨_, _, e⟩ | ⟨_, e⟩ | e <;> rw [e]
  · simp [limiterNews]
  · simp [limiterNews]
  · simp [limiterNews]
  · refine (raise_limiterNews (c := .fadeSnap) (by decide) (fun _ _ => rfl) _).trans ?_
    simp [limiterNews]

/-- The samples, the peaks, the monitors and LIMITER stand while the show writes its parts. -/
theorem Change.gauges (h : Change G p s t) (hp : p.ofShow = true) :
    t.mixer = s.mixer ∧ t.monitors = s.monitors ∧ limiterNews t = limiterNews s := by
  cases h with
  | fade => exact ⟨by simp, by simp, limiterNews_fadeRequest ..⟩
  | write | remove => simp [limiterNews]
  | complete => simp [completed, limiterNews]
  | advance => simp [stepOn, limiterNews]
  | raised _ c f kept =>
    exact ⟨rfl, rfl, raise_limiterNews (by simpa [Part.ofShow, Part.ofCue] using hp) kept s⟩
  | inputs | counters | hold | triggers | skips | slot | free | start | role | release | calls | inCall =>
    exact ⟨rfl, rfl, rfl⟩
  | _ => cases hp

/-- The limiter of a mix: its ceiling and its protect attenuation. -/
def limiterOf (x : Mix) : Int × Nat := (x.ceiling, x.protect)

theorem limiterOf_levels {x y : Mix} (h : y = { x with master := y.master, duck := y.duck, entries := y.entries }) :
    limiterOf y = limiterOf x := by rw [h]; rfl

theorem Change.limiter_stands (h : Change G p s t) (hp : p.ofShow = true) (f : Fin 12) :
    limiterOf (t.mix f) = limiterOf (s.mix f) := by
  cases h with
  | fade => exact limiterOf_levels (fadeRequest_mix ..).1
  | write => exact limiterOf_levels (directWrite_mix ..).1
  | remove => rw [removeEntry_mix]
  | complete => exact limiterOf_levels (completed_mix ..).1
  | advance => exact limiterOf_levels (write_mix ..).1
  | raised | inputs | counters | hold | triggers | skips | slot | free | start | role | release | calls | inCall => rfl
  | _ => cases hp

/-- What the show leaves of the Mix Engine, the monitors and the limiters. -/
def gaugesStand (s t : State) : Prop :=
  t.mixer = s.mixer ∧ t.monitors = s.monitors ∧ limiterNews t = limiterNews s ∧
    ∀ f, limiterOf (t.mix f) = limiterOf (s.mix f)

theorem Run.gauges (h : Run G showing s t) : gaugesStand s t :=
  h.keeps (P := gaugesStand s) (fun p hp a b c ⟨mixer, monitors, news, limiters⟩ => by
    rcases hp with rfl | hp
    · cases c
      exact ⟨mixer, monitors, news, limiters⟩
    · obtain ⟨mixer', monitors', news'⟩ := c.gauges hp
      exact ⟨mixer'.trans mixer, monitors'.trans monitors, news'.trans news, fun f => (c.limiter_stands hp f).trans (limiters f)⟩)
    ⟨rfl, rfl, rfl, fun _ => rfl⟩

/-! ## The step of a monitor (R141) -/

/-- A monitor after one more end at which its condition is true. -/
def counted (x : Monitor) (n : Nat) : Monitor := { x with state := if x.hold ≤ n then .tripped else .counting, count := n }

/-- A monitor after its step (R141). -/
def monitorAfter (x : Monitor) (holds : Bool) : Monitor :=
  match x.state with
  | .off => x
  | .watching => if holds then counted x 1 else { x with count := 0 }
  | .counting => if holds then counted x (x.count + 1) else { x with state := .watching, count := 0 }
  | .tripped => if holds then x else { x with state := .watching, count := 0 }

theorem tripMonitor_monitor (i m : Fin 16) (n : Nat) (s : State) (long : (s.monitor i).hold ≤ n) :
    (tripMonitor i n s).monitor m = if i = m then counted (s.monitor m) n else s.monitor m := by
  rw [trip_eq]
  refine (Table.get_modify ..).trans ?_
  split
  · subst_vars
    exact congrArg (fun x => { s.monitor m with state := x, count := n }) (if_pos long).symm
  · rfl

theorem countMonitor_monitor (i m : Fin 16) (n : Nat) (s : State) :
    (countMonitor i n s).monitor m = if i = m then counted (s.monitor m) n else s.monitor m := by
  unfold countMonitor
  split
  case isTrue long => exact tripMonitor_monitor i m n s long
  case isFalse short =>
    rw [modMonitor_monitor]
    split
    · subst_vars
      rw [counted, if_neg short]
    · rfl

theorem stepMonitor_monitor (s : State) (i m : Fin 16) :
    (stepMonitor s i).monitor m =
      if i = m then monitorAfter (s.monitor m) (monitorTrue (s.monitor m) s) else s.monitor m := by
  cases state : (s.monitor i).state <;> cases holds : monitorTrue (s.monitor i) s <;>
    simp only [stepMonitor, state, holds, Bool.false_eq_true, if_false, if_true, countMonitor_monitor, modMonitor_monitor]
  all_goals
    split
    · subst_vars
      simp only [monitorAfter, state, holds, Bool.false_eq_true, if_false, if_true]
    · rfl

theorem stepMonitor_gauges (s : State) (i : Fin 16) : (stepMonitor s i).mixer = s.mixer :=
  (run_stepMonitor (G := False) i).stands fun p hp _ _ c => by
    rcases hp with rfl | rfl | rfl | rfl <;> cases c <;> rfl

/-- Every monitor that has not taken its step takes it, on the peaks that stand (R141). -/
theorem stepMonitors_monitor (s : State) (m : Fin 16) :
    (stepMonitors s).monitor m =
      if inSet s.ending.monitors m = true then s.monitor m else (stepMonitor s m).monitor m := by
  have fold := foldl_once (f := stepMonitor) (get := fun u => (u.monitor m, u.mixer)) (i := m)
    (g := fun x => (monitorAfter x.1 (windowTrue x.1.condition x.1.low x.1.high (x.2.peaks.get (pointIndex x.1.point))), x.2))
    (fun u => Prod.ext ((stepMonitor_monitor ..).trans (if_pos rfl)) (stepMonitor_gauges ..))
    (fun u j _ hj => Prod.ext ((stepMonitor_monitor ..).trans (if_neg hj)) (stepMonitor_gauges ..))
    ((List.nodup_finRange 16).filter (fun i => !inSet s.ending.monitors i)) s
  have own := congrArg Prod.fst fold
  rw [stepMonitor_monitor, if_pos rfl]
  refine (Eq.trans rfl own).trans ?_
  cases marked : inSet s.ending.monitors m <;> simp [marked, monitorTrue, State.peak]

/-! ## The monitors at the end of an interval -/

/-- What a monitor is after the end, where the parts that are left write neither it nor the peaks (R141). -/
def monitored (s : State) (m : Fin 16) : Monitor :=
  if inSet s.ending.monitors m = true then s.monitor m else (stepMonitor s m).monitor m

theorem monitored_congr (mixer : t.mixer = s.mixer) (monitors : t.monitors = s.monitors)
    (marks : t.ending.monitors = s.ending.monitors) (m : Fin 16) : monitored t m = monitored s m := by
  have record : t.monitor m = s.monitor m := by rw [State.monitor, monitors, State.monitor]
  have holds : monitorTrue (s.monitor m) t = monitorTrue (s.monitor m) s := by
    simp only [monitorTrue, State.peak, mixer]
  simp only [monitored, stepMonitor_monitor, if_true, record, marks, holds]

theorem finishBlock_marks {b : EndBlock} (hb : b ≠ .monitors) (s : State) :
    (finishBlock b s).ending.monitors = s.ending.monitors := by
  cases b with
  | fades =>
    simp only [finishBlock, finishFades]
    split
    · rfl
    · rw [modEnding_ending, stepFades_ending]
  | monitors => exact absurd rfl hb
  | relay =>
    simp only [finishBlock, finishRelay]
    split
    · rfl
    · rw [modEnding_ending, countCall_ending]
  | cue =>
    simp only [finishBlock, finishCue]
    split
    · rfl
    · rw [modEnding_ending, linesLeft_ending]
      simp only [cueCounts]
      split
      · rfl
      · rw [takeCounts_ending]

theorem finishMonitors_monitor (s : State) (m : Fin 16) : (finishMonitors s).monitor m = monitored s m := by
  rw [finishMonitors, modEnding_monitor, stepMonitors_monitor, monitored]

theorem monitored_finishBlock (b : EndBlock) (s : State) (m : Fin 16) : monitored (finishBlock b s) m = monitored s m := by
  by_cases hb : b = .monitors
  · subst hb
    have marked : inSet (finishMonitors s).ending.monitors m = true := by
      exact (BitVec.getLsbD_allOnes ..).trans (decide_eq_true m.isLt)
    rw [finishBlock, monitored, if_pos marked, finishMonitors_monitor]
  · obtain ⟨mixer, monitors, -⟩ := (show_finishBlock (G := False) hb nofun).gauges (s := s)
    exact monitored_congr mixer monitors (finishBlock_marks hb s) m

theorem monitored_finishOpen (measured : s.ending.measured = true) (m : Fin 16) :
    monitored (finishOpen s) m = monitored s m := by
  rcases finishOpen_cases s with ⟨-, e⟩ | ⟨b, -, e⟩ <;> rw [e]
  rw [takePeaks_of measured]
  have closed : monitored ((finishBlock b s).modEnding (fun x => { x with block := none })) m = monitored (finishBlock b s) m := by
    refine monitored_congr ?_ ?_ ?_ m <;> rfl
  exact closed.trans (monitored_finishBlock b s m)

/-- The limiters write neither the peaks nor the monitors. -/
theorem stepLimiters_stands (s : State) : (stepLimiters s).mixer = s.mixer ∧ (stepLimiters s).monitors = s.monitors ∧
    (stepLimiters s).ending = s.ending :=
  (run_stepLimiters (G := False)).keeps (P := fun u => u.mixer = s.mixer ∧ u.monitors = s.monitors ∧ u.ending = s.ending)
    (fun p hp _ _ c kept => by rcases hp with rfl | rfl <;> cases c <;> exact kept) ⟨rfl, rfl, rfl⟩

/-- Every monitor takes its step at the end, on the peaks of the interval that ended (R38, R141). -/
theorem intervalEnd_monitor (g h c : Option Line) (s : State) (m : Fin 16) :
    (intervalEnd g h c s).monitor m =
      if inSet s.ending.monitors m = true then s.monitor m else (stepMonitor (takePeaks s) m).monitor m := by
  have measured := takePeaks_measured (moveLines g h c s)
  have start : monitored (takePeaks (moveLines g h c s)) m = monitored (takePeaks s) m := by
    refine monitored_congr ?_ ?_ ?_ m <;> unfold takePeaks <;> rw [moveLines, modEngine_ending] <;> split <;> rfl
  have first := monitored_finishOpen measured m
  have fades := monitored_finishBlock .fades (finishOpen (takePeaks (moveLines g h c s))) m
  obtain ⟨mixer, monitors, ending⟩ := stepLimiters_stands (finishFades (finishOpen (takePeaks (moveLines g h c s))))
  have limits := monitored_congr mixer monitors (by rw [ending]) m
  have step := finishMonitors_monitor (stepLimiters (finishFades (finishOpen (takePeaks (moveLines g h c s))))) m
  have here : monitored (takePeaks s) m =
      if inSet s.ending.monitors m = true then s.monitor m else (stepMonitor (takePeaks s) m).monitor m := by
    rw [monitored, takePeaks_ending, takePeaks_eq]
    rfl
  rw [← here, ← start, ← first]
  unfold intervalEnd
  generalize finishOpen (takePeaks (moveLines g h c s)) = u at *
  generalize finishMonitors (stepLimiters (finishFades u)) = v at *
  have relay := (cue_finishRelay (G := False) (s := v)).mono cueParts_sub_showing
  have cue := (cue_finishCue (G := False) (s := finishRelay v) nofun).mono cueParts_sub_showing
  obtain ⟨-, later, -⟩ := (relay.trans cue).gauges
  calc (closeEnd (finishCue (finishRelay v))).monitor m = v.monitor m := congrArg (fun x => x.get m) later
    _ = monitored u m := step.trans (limits.trans fades)

end Sys2Proof.Machine

open Sys2Proof Sys2Proof.Machine

/-- Settles O28: the step of a monitor is `monitorAfter`, and no other part of the end writes a monitor or a peak. -/
theorem monitorStepTable : Obligations.MonitorStepTable := by
  unfold Obligations.MonitorStepTable
  refine ⟨fun x s => ?_, fun g h c s live due runs => ⟨_, exec_controlIntervalEnd live due runs, intervalEnd_monitor g h c s⟩,
    fun m s => ?_⟩
  · cases window : x.condition <;> simp only [monitorTrue, windowTrue, window, decide_eq_true_eq] <;> exact Iff.rfl
  · have after : (stepMonitor s m).monitor m = monitorAfter (s.monitor m) (monitorTrue (s.monitor m) s) :=
      (stepMonitor_monitor ..).trans (if_pos rfl)
    refine ⟨fun off => ?_, fun on no => ?_, fun tripped holds => ?_, fun watching holds long => ?_, fun watching holds one => ?_,
      fun counting holds => ?_⟩
    · simp only [stepMonitor, off]
    · rw [after, no]
      cases state : (s.monitor m).state <;> simp only [monitorAfter, state, Bool.false_eq_true, if_false]
      exact absurd state on
    · simp only [stepMonitor, tripped, holds, if_true]
    · have short : ¬ (s.monitor m).hold ≤ 1 := Nat.not_le.2 long
      simp only [after, monitorAfter, watching, holds, if_true, counted, if_neg short]
    · have long : (s.monitor m).hold ≤ 1 := Nat.le_of_eq one
      simp only [after, monitorAfter, watching, holds, if_true, counted, if_pos long]
    · simp only [after, monitorAfter, counting, holds, if_true, counted]

end

section
/-! The records of a fired GO, and the end of an interval as a whole (2.6, 5.3, 5.7, 6.4). -/

namespace Sys2Proof.Machine

variable {G : Prop} {K : Set Part} {s t u : State} {p : Part} {k : Fin 8}

/-! ## A GO writes its slot, standby and the counters, and its actions write none of them (R81) -/

theorem Run.settings (h : Run G K s t) (acts : ∀ p ∈ K, p.acts = true) : Machine.settings t = Machine.settings s :=
  h.stands fun p hp _ _ c => c.settings (acts p hp)

theorem calling_acts (h : p ∈ calling) : p.acts = true := by rcases h with rfl | rfl | rfl | ⟨n, rfl⟩ <;> rfl

theorem settling_acts (h : p ∈ settling) : p.acts = true := by rcases h with rfl | ⟨j, rfl⟩ <;> rfl

theorem fadesEnd_acts (h : p ∈ fadesEnd) : p.acts = true := by
  rcases h with ⟨el, rfl | ⟨o, rfl | ⟨r, -, rfl | rfl⟩⟩⟩ | h
  any_goals rfl
  exact settling_acts h

theorem settings_fadeRequest (el : Element) (z : Int) (d : Nat) (o : FadeOwner) (s : State) :
    settings (fadeRequest el z d o s).2 = settings s := by simp [settings]

theorem settings_settle (k : Fin 8) (s : State) : settings (settle k s) = settings s := by
  rcases settle_cases k s with ⟨-, e⟩ | ⟨-, e⟩ <;> rw [e]
  rfl

theorem settings_settleOthers (k : Fin 8) (s : State) : settings (settleOthers k s) = settings s :=
  (run_settleOthers (G := False) k).settings fun _ h => settling_acts (settlingOthers_sub k h)

theorem settings_callRequest (q : Fin 16) (o : Origin) (s : State) : settings (callRequest q o s).2 = settings s :=
  (run_callRequest (G := False) q o).settings fun _ => calling_acts

theorem settings_execAction (k : Fin 8) (forced : Bool) (a : Action) (s : State) :
    settings (execAction k forced a s) = settings s := by
  unfold execAction
  split
  · rfl
  cases a.body with
  | level el z d =>
    simp only [actOn]
    split
    · exact settings_fadeRequest ..
    · rfl
  | member r g | route r b =>
    simp only [actOn]
    split <;> rfl
  | call q =>
    simp only [actOn]
    split
    · exact settings_callRequest ..
    · rfl
  | trigger c =>
    simp only [actOn, pushTrigger]
    split <;> rfl

theorem settings_runDue (k : Fin 8) (s : State) : settings (runDue k s) = settings s := by
  refine foldl_keeps settings (fun u q => ?_) _ s
  rw [settings_settleOthers]
  exact settings_execAction ..

theorem settings_forceComplete (k : Fin 8) (s : State) : settings (forceComplete k s) = settings s := by
  have acts := foldl_keeps (f := fun s q => settleOthers k (execAction k true q.action s)) settings (fun u q => by
    rw [settings_settleOthers, settings_execAction]) (s.slot k).actions s
  have owned := fun u : State => (run_completeOwned (G := False) (k := k) (s := u) nofun).settings fun p hp => by
    obtain ⟨el, rfl | ⟨r, -, rfl | rfl⟩⟩ := hp <;> rfl
  exact Eq.trans rfl ((owned _).trans acts)

theorem settings_makeRoom (s : State) : settings (makeRoom s).2 = settings s := by
  rcases makeRoom_cases s with ⟨k, -, e⟩ | ⟨k, -, -, e⟩ <;> rw [e]
  exact settings_forceComplete k s

/-- What a GO of any source writes but for what its actions do (R81, R94). -/
def fired (cue : Cue) (s : State) : State :=
  { s with
    cues := { s.cues with standby := nextAbove cue.number s.cues.cues }
    engine := { s.engine with
      serial := s.engine.serial + 1#32, lastInterval := s.engine.timer, timer := 0, follow := cue.follow } }

theorem settings_fired (h : settings t = settings s) (cue : Cue) : settings (fired cue t) = settings (fired cue s) := by
  show settings (fired cue (settings t)) = settings (fired cue (settings s))
  rw [h]

theorem settings_fireGo (src : GoSource) (cue : Cue) (s : State) :
    settings (fireGo src cue s).2 = settings (fired cue s) := by
  rw [fireGo_eq, settings_settle]
  refine Eq.trans (Eq.trans rfl (settings_runDue _ (startCue _ src cue (makeRoom s).2))) ?_
  exact Eq.trans rfl (settings_fired (settings_makeRoom s) cue)

/-! ## The limiters (R113, R114) -/

/-- The limiter of a mix starts at this end: its attenuation leaves 0 (R114). -/
def startsLimiter (s : State) (f : Fin 12) : Prop :=
  (s.mix f).protect = 0 ∧ 0 < limiterStep (s.mix f).ceiling (s.peak (.mix f)) (s.mix f).protect

theorem stepLimiter_mixer (s : State) (f : Fin 12) : (stepLimiter s f).mixer = s.mixer := by
  unfold stepLimiter
  dsimp only
  split <;> rfl

theorem stepLimiter_mix (s : State) (f g : Fin 12) : (stepLimiter s f).mix g =
    if f = g then { s.mix g with protect := limiterStep (s.mix g).ceiling (s.peak (.mix g)) (s.mix g).protect }
    else s.mix g := by
  have step : (stepLimiter s f).mix g = (s.modMix f (fun x => { x with
      protect := limiterStep (s.mix f).ceiling (s.peak (.mix f)) (s.mix f).protect })).mix g := by
    unfold stepLimiter
    dsimp only
    split <;> rfl
  rw [step, modMix_mix]
  split
  · subst_vars; rfl
  · rfl

/-- The set of LIMITER, and whether it is raised, after the step of one limiter (R114). -/
theorem stepLimiter_news (s : State) (f g : Fin 12) :
    (inSet (limiterNews (stepLimiter s f)).1 g = true ↔ inSet (limiterNews s).1 g = true ∨ (f = g ∧ startsLimiter s f)) ∧
    ((limiterNews (stepLimiter s f)).2 = true ↔ (limiterNews s).2 = true ∨ startsLimiter s f) := by
  unfold stepLimiter
  dsimp only
  split
  case isTrue h =>
    have starts : startsLimiter s f := h
    have flag : (only (condBit .limiter)).getLsbD 13 = true := by decide
    constructor
    · refine (Bool.eq_iff_iff.1 (inSet_with ..)).trans ?_
      rw [Bool.or_eq_true, decide_eq_true_eq]
      simp only [starts, and_true, eq_comm (a := g)]
      rfl
    · simp only [starts, or_true, iff_true]
      show (s.attention.flags ||| only (condBit .limiter)).getLsbD 13 = true
      rw [BitVec.getLsbD_or, flag, Bool.or_true]
  case isFalse h =>
    have still : ¬ startsLimiter s f := h
    simp only [still, and_false, or_false]
    exact ⟨Iff.rfl, Iff.rfl⟩

theorem startsLimiter_stepLimiter {f g : Fin 12} (h : f ≠ g) (s : State) :
    startsLimiter (stepLimiter s f) g ↔ startsLimiter s g := by
  simp only [startsLimiter, stepLimiter_mix, if_neg h, State.peak, stepLimiter_mixer]

theorem foldl_stepLimiter_news {l : List (Fin 12)} (distinct : l.Nodup) (s : State) :
    (∀ g, inSet (limiterNews (l.foldl stepLimiter s)).1 g = true ↔
      inSet (limiterNews s).1 g = true ∨ (g ∈ l ∧ startsLimiter s g)) ∧
    ((limiterNews (l.foldl stepLimiter s)).2 = true ↔ (limiterNews s).2 = true ∨ ∃ g ∈ l, startsLimiter s g) := by
  induction l generalizing s with
  | nil => simp
  | cons f l ih =>
    obtain ⟨fresh, distinct⟩ := List.nodup_cons.1 distinct
    obtain ⟨sets, flag⟩ := ih distinct (stepLimiter s f)
    have later : ∀ g ∈ l, (startsLimiter (stepLimiter s f) g ↔ startsLimiter s g) := fun g hg =>
      startsLimiter_stepLimiter (by rintro rfl; exact fresh hg) s
    refine ⟨fun g => ?_, ?_⟩
    · rw [List.foldl_cons, sets, (stepLimiter_news s f g).1, or_assoc]
      refine or_congr_right ?_
      rw [and_congr_right (later g)]
      by_cases hf : f = g
      · subst hf; simp [fresh]
      · simp [hf, Ne.symm hf]
    · rw [List.foldl_cons, flag, (stepLimiter_news s f f).2, or_assoc]
      refine or_congr_right ?_
      simp only [List.mem_cons, exists_eq_or_imp]
      exact or_congr_right (exists_congr fun g => and_congr_right (later g))

/-- The limiters take one step on the peaks that stand (R113, R114). -/
theorem stepLimiters_limits (s : State) :
    (∀ f, limiterOf ((stepLimiters s).mix f) =
      ((s.mix f).ceiling, limiterStep (s.mix f).ceiling (s.peak (.mix f)) (s.mix f).protect)) ∧
    (∀ g, inSet (limiterNews (stepLimiters s)).1 g = true ↔ inSet (limiterNews s).1 g = true ∨ startsLimiter s g) ∧
    ((limiterNews (stepLimiters s)).2 = true ↔ (limiterNews s).2 = true ∨ ∃ g, startsLimiter s g) := by
  obtain ⟨sets, flag⟩ := foldl_stepLimiter_news (List.nodup_finRange 12) s
  refine ⟨fun f => ?_, fun g => (sets g).trans (by simp), flag.trans (by simp)⟩
  have fold := foldl_once (f := stepLimiter) (get := fun u => (u.mix f, u.mixer)) (i := f)
    (g := fun x => ({ x.1 with protect := limiterStep x.1.ceiling (x.2.peaks.get (pointIndex (.mix f))) x.1.protect }, x.2))
    (fun u => Prod.ext ((stepLimiter_mix ..).trans (if_pos rfl)) (stepLimiter_mixer ..))
    (fun u j _ hj => Prod.ext ((stepLimiter_mix ..).trans (if_neg hj)) (stepLimiter_mixer ..))
    (List.nodup_finRange 12) s
  rw [if_pos (List.mem_finRange f)] at fold
  have own := congrArg Prod.fst fold
  simp only at own
  rw [stepLimiters, own, limiterOf, State.peak]

end Sys2Proof.Machine
end

section
/-! The end of an interval: the limiters, the timer, and the commands that find it whole (2.6, 5.7, 6.4, 9.1). -/

namespace Sys2Proof.Machine

variable {G : Prop} {K : Set Part} {s t u : State} {p : Part} {g h c : Option Line}

/-! ## What the blocks leave of the limiters -/

/-- The peaks, the limiters and LIMITER stand. -/
def limitsStand (s t : State) : Prop :=
  t.mixer = s.mixer ∧ limiterNews t = limiterNews s ∧ ∀ f, limiterOf (t.mix f) = limiterOf (s.mix f)

theorem limitsStand_trans (h : limitsStand s t) (h' : limitsStand t u) : limitsStand s u := by
  obtain ⟨mixer, news, limiters⟩ := h
  obtain ⟨mixer', news', limiters'⟩ := h'
  exact ⟨mixer'.trans mixer, news'.trans news, fun f => (limiters' f).trans (limiters f)⟩

theorem limitsStand_of_show (h : Run G showing s t) : limitsStand s t := by
  obtain ⟨mixer, -, news, limiters⟩ := h.gauges
  exact ⟨mixer, news, limiters⟩

theorem limitsStand_finishMonitors (s : State) : limitsStand s (finishMonitors s) := by
  suffices steps : limitsStand s (stepMonitors s) from steps
  refine (run_stepMonitors (G := False)).keeps (P := limitsStand s) (fun p hp a b c kept => ?_) ⟨rfl, rfl, fun _ => rfl⟩
  rcases hp with rfl | rfl | rfl | rfl
  · cases c; exact kept
  · cases c with
    | raised _ _ f same => exact limitsStand_trans kept ⟨rfl, raise_limiterNews (by decide) same a, fun _ => rfl⟩
  · cases c; exact kept
  · cases c; exact kept

theorem limitsStand_finishBlock (b : EndBlock) (s : State) : limitsStand s (finishBlock b s) := by
  by_cases hb : b = .monitors
  · subst hb
    exact limitsStand_finishMonitors s
  · exact limitsStand_of_show (show_finishBlock (G := False) hb nofun)

theorem limitsStand_finishOpen (measured : s.ending.measured = true) : limitsStand s (finishOpen s) := by
  rcases finishOpen_cases s with ⟨-, e⟩ | ⟨b, -, e⟩ <;> rw [e]
  · exact ⟨rfl, rfl, fun _ => rfl⟩
  · rw [takePeaks_of measured]
    exact limitsStand_finishBlock b s

theorem takePeaks_moveLines (g h c : Option Line) (s : State) :
    (takePeaks (moveLines g h c s)).mixer = (takePeaks s).mixer := by
  unfold takePeaks
  rw [moveLines, modEngine_ending]
  split <;> rfl

/-- The peaks and the limiters after the end (R37, R38, R113, R114). -/
theorem intervalEnd_limits (g h c : Option Line) (s : State) :
    (intervalEnd g h c s).mixer = (takePeaks s).mixer ∧
    (∀ f, ((intervalEnd g h c s).mix f).protect = limiterStep (s.mix f).ceiling
      ((takePeaks s).mixer.peaks.get (pointIndex (.mix f))) (s.mix f).protect) ∧
    (∀ f, inSet (intervalEnd g h c s).attention.details.limiter f = true ↔ inSet s.attention.details.limiter f = true ∨
      (s.mix f).protect = 0 ∧ 0 < ((intervalEnd g h c s).mix f).protect) ∧
    ((intervalEnd g h c s).attention.flags.getLsbD 13 = true ↔ s.attention.flags.getLsbD 13 = true ∨
      ∃ f, (s.mix f).protect = 0 ∧ 0 < ((intervalEnd g h c s).mix f).protect) := by
  have peaks := takePeaks_moveLines g h c s
  have first : limitsStand (takePeaks (moveLines g h c s)) (finishFades (finishOpen (takePeaks (moveLines g h c s)))) :=
    limitsStand_trans (limitsStand_finishOpen (takePeaks_measured _)) (limitsStand_finishBlock .fades _)
  have start : limiterNews (takePeaks (moveLines g h c s)) = limiterNews s ∧
      ∀ f, limiterOf ((takePeaks (moveLines g h c s)).mix f) = limiterOf (s.mix f) := by
    rw [takePeaks_eq]
    exact ⟨rfl, fun _ => rfl⟩
  unfold intervalEnd
  generalize takePeaks (moveLines g h c s) = v at *
  generalize finishFades (finishOpen v) = w at *
  obtain ⟨steps, sets, flag⟩ := stepLimiters_limits w
  have mixer := (stepLimiters_stands w).1
  have later : limitsStand (stepLimiters w) (closeEnd (finishCue (finishRelay (finishMonitors (stepLimiters w))))) :=
    limitsStand_trans (limitsStand_finishMonitors _)
      (limitsStand_trans (limitsStand_finishBlock .relay _) (limitsStand_finishBlock .cue _))
  generalize closeEnd (finishCue (finishRelay (finishMonitors (stepLimiters w)))) = t at *
  generalize stepLimiters w = x at *
  obtain ⟨mixer', news', limits'⟩ := first
  obtain ⟨mixer'', news'', limits''⟩ := later
  obtain ⟨news, limits⟩ := start
  have ceiling : ∀ f, (w.mix f).ceiling = (s.mix f).ceiling := fun f =>
    congrArg Prod.fst ((limits' f).trans (limits f))
  have protect : ∀ f, (w.mix f).protect = (s.mix f).protect := fun f =>
    congrArg Prod.snd ((limits' f).trans (limits f))
  have after : ∀ f, (t.mix f).protect = limiterStep (s.mix f).ceiling
      ((takePeaks s).mixer.peaks.get (pointIndex (.mix f))) (s.mix f).protect := fun f => by
    have step := congrArg Prod.snd ((limits'' f).trans (steps f))
    rwa [ceiling, protect, State.peak, mixer', peaks] at step
  have starts : ∀ f, startsLimiter w f ↔ (s.mix f).protect = 0 ∧ 0 < (t.mix f).protect := fun f => by
    rw [startsLimiter, after, ceiling, protect, State.peak, mixer', peaks]
  have old : limiterNews w = limiterNews s := news'.trans news
  refine ⟨mixer''.trans (mixer.trans (mixer'.trans peaks)), after, fun f => ?_, ?_⟩
  · have set := sets f
    rw [← news'', old, starts] at set
    exact set
  · rw [← news'', old] at flag
    simp only [starts] at flag
    exact flag

/-! ## The timer (R94, R95) -/

/-- No edge of GO_N acts at this end, and no follow compare fires (R76, R95). -/
def noCue (s : State) : Prop :=
  (∀ e, (sampleInput s.engine.goInput).2 = some e → edgeActs s.engine.goInput e = false) ∧
    (s.engine.hold = false → s.ending.counted = false →
      followReached s.engine.follow (min (s.engine.timer + 1) Config.timerTop) = false)

/-- The timer after the end, where no cue is fired (R94). -/
def timed (s : State) : Nat :=
  if s.ending.sampled = .all ∨ s.ending.counted = true ∨ s.engine.hold = true then s.engine.timer
  else min (s.engine.timer + 1) Config.timerTop

/-- What decides the timer: the engine but for its slots and triggers, and how far the Cue Engine's part is taken. -/
def timing (s : State) : CueEngine × Bool × Sampled := ((settings s).engine, s.ending.counted, s.ending.sampled)

theorem timed_congr (same : timing t = timing s) : timed t = timed s ∧ (noCue t ↔ noCue s) ∧ t.ending.sampled = s.ending.sampled := by
  have engine := congrArg Prod.fst same
  have counted : t.ending.counted = s.ending.counted := congrArg (fun x => x.2.1) same
  have sampled : t.ending.sampled = s.ending.sampled := congrArg (fun x => x.2.2) same
  have timer : t.engine.timer = s.engine.timer := congrArg (fun x => x.timer) engine
  have hold : t.engine.hold = s.engine.hold := congrArg (fun x => x.hold) engine
  have follow : t.engine.follow = s.engine.follow := congrArg (fun x => x.follow) engine
  have input : t.engine.goInput = s.engine.goInput := congrArg (fun x => x.goInput) engine
  simp only [timed, noCue, counted, sampled, timer, hold, follow, input, and_self]

theorem countTimer_unreached (hold : s.engine.hold = false)
    (unreached : followReached s.engine.follow (min (s.engine.timer + 1) Config.timerTop) = false) :
    countTimer s = s.modEngine (fun x => { x with timer := min (x.timer + 1) Config.timerTop }) := by
  simp only [countTimer, hold, modEngine_engine, unreached, Bool.false_eq_true, if_false]

theorem settings_engine (same : settings t = settings s) : t.engine.timer = s.engine.timer ∧
    t.engine.follow = s.engine.follow ∧ t.engine.hold = s.engine.hold ∧ t.engine.goInput = s.engine.goInput :=
  ⟨congrArg (fun x => x.engine.timer) same, congrArg (fun x => x.engine.follow) same,
    congrArg (fun x => x.engine.hold) same, congrArg (fun x => x.engine.goInput) same⟩

/-- Stages 1 and 2 bring the timer on where they are taken (R82, R94). -/
theorem cueCounts_timer (still : noCue s) (open_ : s.ending.sampled ≠ .all) :
    (cueCounts s).engine.timer = timed s ∧ (cueCounts s).engine.goInput = s.engine.goInput ∧
      (cueCounts s).ending.sampled = s.ending.sampled := by
  unfold cueCounts timed
  by_cases h : s.ending.counted = true ∨ s.engine.hold = true
  · have stop : (s.ending.counted || s.engine.hold) = true := by simpa using h
    rw [if_pos stop, if_pos (.inr h)]
    exact ⟨rfl, rfl, rfl⟩
  · have go : ¬ (s.ending.counted || s.engine.hold) = true := by simpa using h
    rw [if_neg go, if_neg (by simp only [open_, h, or_self, not_false_eq_true])]
    simp only [not_or, Bool.not_eq_true] at h
    obtain ⟨uncounted, free⟩ := h
    obtain ⟨timer, follow, hold, input⟩ := settings_engine (settings_countSlots s)
    have unreached := still.2 free uncounted
    have count := countTimer_unreached (s := countSlots s) (hold.trans free) (by rw [follow, timer]; exact unreached)
    have sampled : (takeCounts s).ending.sampled = s.ending.sampled := by rw [takeCounts_ending]
    refine ⟨?_, ?_, sampled⟩ <;> rw [takeCounts, count]
    · exact congrArg (fun n => min (n + 1) Config.timerTop) timer
    · exact input

theorem sampleHold_timer (s : State) : (sampleHold s).engine.timer = s.engine.timer ∧
    (sampleHold s).engine.goInput = s.engine.goInput := by
  unfold sampleHold onEdge holdEdge takeHold
  dsimp only
  repeat' split
  all_goals exact ⟨rfl, rfl⟩

/-- The filter leaves the enable and the acting edge of its input (R75). -/
theorem edgeActs_sampleInput (i : ShowInput) (e : Edge) : edgeActs (sampleInput i).1 e = edgeActs i e := by
  unfold sampleInput
  repeat' split
  all_goals rfl

theorem sampleGo_timer (still : ∀ e, (sampleInput s.engine.goInput).2 = some e → edgeActs s.engine.goInput e = false) :
    (sampleGo s).engine.timer = s.engine.timer := by
  simp only [sampleGo]
  cases h : (sampleInput s.engine.goInput).2 with
  | none => rfl
  | some e => simp only [onEdge, goEdge, modEngine_engine, edgeActs_sampleInput, still e h, Bool.false_eq_true, if_false]

theorem sampleCall_timer (s : State) : (sampleCall s).engine.timer = s.engine.timer := by
  have edge : ∀ e u, (callEdge e u).engine.timer = u.engine.timer := fun e u =>
    (settings_engine ((run_callEdge (G := False) (s := u) e).settings fun _ => calling_acts)).1
  simp only [sampleCall]
  cases (sampleInput s.engine.callInput).2 with
  | none => rfl
  | some e => exact edge e _

/-- The Cue Engine's part leaves the timer as `timed` says (R94). -/
theorem finishCue_timer (still : s.ending.sampled = .all ∨ noCue s) :
    (finishCue s).engine.timer = timed s ∧ (finishCue s).ending.sampled = .all := by
  unfold finishCue
  by_cases all : s.ending.sampled = .all
  · rw [if_pos all, timed, if_pos (.inl all)]
    exact ⟨rfl, all⟩
  · rw [if_neg all]
    refine ⟨?_, rfl⟩
    have still := still.resolve_left all
    obtain ⟨timer, input, sampled⟩ := cueCounts_timer still all
    rw [modEnding_engine, ← timer]
    have go := still.1
    rw [← input] at go
    generalize cueCounts s = v at *
    cases lines : s.ending.sampled with
    | none =>
      obtain ⟨hold, input⟩ := sampleHold_timer v
      rw [linesLeft, sampleInputs, sampleCall_timer, sampleGo_timer (by rwa [input]), hold]
    | hold => rw [linesLeft, sampleCall_timer, sampleGo_timer go]
    | go => rw [linesLeft, sampleCall_timer]
    | all => exact absurd lines all

theorem timing_of (engine : settings t = settings s) (counted : t.ending.counted = s.ending.counted)
    (sampled : t.ending.sampled = s.ending.sampled) : timing t = timing s := by simp only [timing, engine, counted, sampled]

/-- The parts of the other blocks write nothing that decides the timer. -/
theorem finishBlock_timing {b : EndBlock} (hb : b ≠ .cue) (s : State) : timing (finishBlock b s) = timing s := by
  cases b with
  | fades =>
    simp only [finishBlock, finishFades]
    split
    · rfl
    · have same := (run_stepFades (G := False) (s := s)).settings fun _ => fadesEnd_acts
      have ending := stepFades_ending s
      generalize stepFades s = u at *
      exact timing_of same (congrArg (fun x => x.counted) ending) (congrArg (fun x => x.sampled) ending)
  | monitors =>
    have engine : (stepMonitors s).engine = s.engine := (run_stepMonitors (G := False)).stands fun p hp _ _ c => by
      rcases hp with rfl | rfl | rfl | rfl <;> cases c <;> rfl
    have ending := stepMonitors_ending s
    simp only [finishBlock, finishMonitors]
    generalize stepMonitors s = u at *
    exact Prod.ext (congrArg (fun x : CueEngine => { x with slots := Table.replicate 8 {}, triggers := [] }) engine)
      (Prod.ext (congrArg (fun x => x.counted) ending) (congrArg (fun x => x.sampled) ending))
  | relay =>
    simp only [finishBlock, finishRelay]
    split
    · rfl
    · have same := (run_countCall (G := False) (s := s)).settings fun _ => calling_acts
      have ending := countCall_ending s
      generalize countCall s = u at *
      exact timing_of same (congrArg (fun x => x.counted) ending) (congrArg (fun x => x.sampled) ending)
  | cue => exact absurd rfl hb

theorem stepLimiters_timing (s : State) : timing (stepLimiters s) = timing s := by
  have engine : (stepLimiters s).engine = s.engine := (run_stepLimiters (G := False)).stands fun p hp _ _ c => by
    rcases hp with rfl | rfl <;> cases c <;> rfl
  obtain ⟨-, -, ending⟩ := stepLimiters_stands s
  simp only [timing, settings, ending, engine]

theorem takePeaks_timing (s : State) : timing (takePeaks s) = timing s := by
  unfold takePeaks
  split <;> rfl

/-- The Cue Engine's part fires no cue, or has been taken. -/
def still (s : State) : Prop := s.ending.sampled = .all ∨ noCue s

theorem timed_of (same : timing t = timing s) : timed t = timed s ∧ (still t ↔ still s) := by
  obtain ⟨timed, quiet, sampled⟩ := timed_congr same
  exact ⟨timed, or_congr (by rw [sampled]) quiet⟩

theorem finishBlock_timer (b : EndBlock) (h : still s) : timed (finishBlock b s) = timed s ∧ still (finishBlock b s) := by
  by_cases hb : b = .cue
  · subst hb
    obtain ⟨timer, all⟩ := finishCue_timer h
    refine ⟨?_, .inl all⟩
    rw [finishBlock, timed, if_pos (.inl all), timer]
  · obtain ⟨timed, quiet⟩ := timed_of (finishBlock_timing hb s)
    exact ⟨timed, quiet.2 h⟩

theorem finishOpen_timer (measured : s.ending.measured = true) (h : still s) :
    timed (finishOpen s) = timed s ∧ still (finishOpen s) := by
  rcases finishOpen_cases s with ⟨-, e⟩ | ⟨b, -, e⟩ <;> rw [e]
  · exact ⟨rfl, h⟩
  · rw [takePeaks_of measured]
    exact finishBlock_timer b h

/-- The timer after the end, where no cue is fired (R94). -/
theorem intervalEnd_timer (h' : still (moveLines g h c s)) : (intervalEnd g h c s).engine.timer = timed s := by
  have moved : timed (moveLines g h c s) = timed s := rfl
  obtain ⟨peaks, quiet⟩ := timed_of (takePeaks_timing (moveLines g h c s))
  obtain ⟨first, quiet⟩ := finishOpen_timer (takePeaks_measured _) (quiet.2 h')
  rw [← moved, ← peaks, ← first]
  unfold intervalEnd
  generalize finishOpen (takePeaks (moveLines g h c s)) = v at *
  obtain ⟨fades, quiet⟩ := finishBlock_timer .fades quiet
  obtain ⟨limits, quiet'⟩ := timed_of (stepLimiters_timing (finishFades v))
  obtain ⟨monitors, quiet⟩ := finishBlock_timer .monitors (quiet'.2 quiet)
  obtain ⟨relay, quiet⟩ := finishBlock_timer .relay quiet
  calc (finishCue (finishRelay (finishMonitors (stepLimiters (finishFades v))))).engine.timer
      = timed (finishRelay (finishMonitors (stepLimiters (finishFades v)))) := (finishCue_timer quiet).1
    _ = timed v := relay.trans (monitors.trans (limits.trans fades))

/-! ## Commands that find an end whole (R82, R172) -/

theorem request_wholeEnd (code : Nat) (me : Instr) (body : State → Answer) (live : s.inReset = false)
    (idle : isExecuting s.port.response = false) (whole : (wholeEnd s).inReset = false)
    (port : (wholeEnd s).port = s.port) : request code me body (wholeEnd s) = request code me body s := by
  rw [request_ok ⟨whole, port ▸ idle, wholeEnd_begun s⟩]
  rcases request_cases code me body s with e | ⟨⟨k, h⟩, -⟩ | ⟨-, dead | ⟨k, other, h, -⟩⟩
  · exact e.symm
  · rw [h] at idle; cases idle
  · rw [live] at dead; cases dead
  · rw [h] at idle; cases idle

theorem event_wholeEnd (f : State → State) (live : s.inReset = false) (whole : (wholeEnd s).inReset = false) :
    event f (wholeEnd s) = event f s := by
  simp only [event, outsideReset, live, whole, Bool.false_eq_true, if_false, wholeEnd_idem]

/-- A command that is no part of the end acts on the state that the end leaves (R172). -/
theorem exec_wholeEnd {i : Instr} (finds : findsWhole i = true) (live : s.inReset = false)
    (idle : isExecuting s.port.response = false) : exec i s = exec i (wholeEnd s) := by
  have stands := (run_wholeEnd (G := False) (s := s) nofun).besidesEnd
  have whole : (wholeEnd s).inReset = false := (besidesEnd_inReset stands).trans live
  by_cases isRequest : (requestCode i).isSome
  · obtain ⟨code, hcode⟩ := Option.isSome_iff_exists.1 isRequest
    obtain ⟨body, runs, -⟩ := exec_request hcode
    rw [runs, runs, request_wholeEnd code i body live idle whole (congrArg (fun x => x.port) stands)]
  · have events := fun f => (event_wholeEnd f live whole).symm
    cases i with
    | linkFrameArrival | partialFrameDiscard | linkLost | fallback | returnToWck | returnAbandoned | frameSync =>
      exact events _
    | outputLinkFrame n => exact events (fun s => if paused s then s else sendFrame n s)
    | transaction | transactionBegin | powerCause | supplyCause | pinCause | causeEnd | clkroleLatch | resetProcedureEnd
    | frame | controlIntervalEnd | fadeComplete | actionDue | followGo | callTimeout | callSilent | monitorTrip
    | goNPress | holdNPress | callNPress | callNRelease => cases finds
    | _ => exact absurd rfl isRequest

/-- Another block's part acts on the state in which the block that has begun its part is whole (R82). -/
theorem blockPart_finishOpen {b d : EndBlock} (f : State → State) (block : s.ending.block = some d) (hd : d ≠ b)
    (live : s.inReset = false) (due : s.ending.due = true) (runs : paused s = false) :
    blockPart b f s = blockPart b f (finishOpen s) := by
  have stands := (run_finishOpen (G := False) (s := s) nofun).besidesEnd
  have parts : takesParts b (finishOpen s) := ⟨(besidesEnd_inReset stands).trans live, (finishOpen_due s).trans due,
    (besidesEnd_paused stands).trans runs, .inl (finishOpen_block s)⟩
  have meets : meetBlock b s = finishOpen s := if_neg (by rw [block]; exact fun e => hd (Option.some.inj e))
  rw [blockPart_ok parts, blockPart, endPart, outsideReset_ok live, inEnd, endOpen, due, runs, meets]
  rfl

theorem exec_finishOpen {i : Instr} {b d : EndBlock} (part : endBlock i = some b) (block : s.ending.block = some d)
    (hd : d ≠ b) (live : s.inReset = false) (due : s.ending.due = true) (runs : paused s = false) :
    exec i s = exec i (finishOpen s) := by
  cases i with
  | fadeComplete | monitorTrip | callTimeout | callSilent | actionDue | followGo =>
    cases part
    exact blockPart_finishOpen _ block hd live due runs
  | _ => cases part

theorem followReached_false {follow : Option Nat} {n : Nat} (h : ∀ time, follow = some time → n < max time 1) :
    followReached follow n = false := by
  cases follow with
  | none => rfl
  | some time => exact decide_eq_false (Nat.not_le.2 (h time rfl))

theorem cueCounts_eq (s : State) :
    cueCounts s = if s.ending.counted = true ∨ s.engine.hold = true then s else takeCounts s := by
  simp only [cueCounts, Bool.or_eq_true]

theorem finishCue_lines {l : Sampled} (lines : s.ending.sampled = l) (open_ : l ≠ .all) :
    finishCue s = (linesLeft l (if s.ending.counted = true ∨ s.engine.hold = true then s else takeCounts s)).modEnding
      (fun x => { x with sampled := .all }) := by
  rw [finishCue, lines, if_neg open_, cueCounts_eq]

/-! ## What the end leaves of the other records -/

theorem besidesEnd_labels (h : besidesEnd t = besidesEnd s) :
    t.table.groups.map (fun x => x.label) = s.table.groups.map (fun x => x.label) := by
  have levels : t.table.groups.map (fun x => { x with level := 0 }) = s.table.groups.map (fun x => { x with level := 0 }) :=
    congrArg (fun x => x.table.groups) h
  refine Table.ext_get fun i => ?_
  have here := congrArg (fun x => (x.get i).label) levels
  simpa only [Table.get_map] using here

theorem goUnasked_fires {cue : Cue} (src : GoSource) (hold : s.engine.hold = false) (standby : standbyCue s = some cue) :
    goUnasked src s = (fireGo src cue s).2 := by rw [goUnasked, goEvent_fires src hold standby]

/-- Where the follow compare reaches its time, the standby cue is fired and the interval captured (R94, R95). -/
theorem countTimer_fires {time : Nat} {cue : Cue} (hold : s.engine.hold = false) (armed : s.engine.follow = some time)
    (reached : max time 1 ≤ min (s.engine.timer + 1) Config.timerTop) (standby : standbyCue s = some cue) :
    settings (countTimer s) = settings (fired cue (s.modEngine (fun x => { x with
      timer := min (x.timer + 1) Config.timerTop, follow := none }))) := by
  have fires := goUnasked_fires (s := s.modEngine (fun x => { x with
    timer := min (x.timer + 1) Config.timerTop, follow := none })) .follow hold standby
  have now : followReached s.engine.follow (min (s.engine.timer + 1) Config.timerTop) = true := by
    rw [armed]
    exact followReached_some reached
  simp only [countTimer, hold, modEngine_engine, now, Bool.false_eq_true, if_false, if_true]
  exact (congrArg settings fires).trans (settings_fireGo ..)

end Sys2Proof.Machine

open Sys2Proof Sys2Proof.Machine

/-- Settles O26: the peaks and limiters are `intervalEnd_limits`, the timer `intervalEnd_timer`; the end itself is composed as
`intervalEnd` says, and what is no part of it finds it whole by `exec_wholeEnd`. -/
theorem intervalEndPeaksAndLimiters : Obligations.IntervalEndPeaksAndLimiters := by
  unfold Obligations.IntervalEndPeaksAndLimiters
  intro g h c s live
  refine ⟨fun none => exec_controlIntervalEnd_none live none, fun due runs => ?_, fun s => ?_, ?_, ?_, fun s => ?_, fun s => ?_,
    fun k s => ?_⟩
  · have stands := (run_intervalEnd (G := False) (s := s) g h c nofun).besidesEnd
    obtain ⟨mixer, protect, sets, flag⟩ := intervalEnd_limits g h c s
    obtain ⟨measured, completes⟩ := takePeaks_mixer s
    have labels := besidesEnd_labels stands
    have timer := intervalEnd_timer (g := g) (h := h) (c := c) (s := s)
    refine ⟨_, exec_controlIntervalEnd live due runs, fun no i => ?_, fun yes => ?_, ?_, congrArg (fun x => x.links.clock) stands,
      rfl, fun f => ?_, ⟨sets, flag⟩, congrArg (fun x => x.port) stands, congrArg (fun x => x.resets) stands,
      congrArg (fun x => x.pending) stands, congrArg (fun x => x.links.outputs) stands,
      congrArg (fun x => x.cues.cues) stands, labels, rfl, fun idle => ⟨fun stops => ?_, fun free uncounted open_ unreached => ?_⟩⟩
    · rw [mixer]
      exact (completes no).2 i
    · rw [mixer, measured yes]
    · rw [mixer]
      cases h : s.ending.measured with
      | false => exact (completes h).1
      | true => rw [measured h]
    · rw [protect, mixer]
      rfl
    · refine (timer (.inr ⟨fun e he => idle e he, fun free uncounted => ?_⟩)).trans (if_pos (.inr stops.symm))
      rcases stops with held | counted
      · exact absurd held (by simp [show s.engine.hold = false from free])
      · exact absurd counted (by simp [show s.ending.counted = false from uncounted])
    · refine (timer (.inr ⟨fun e he => idle e he, fun _ _ => followReached_false unreached⟩)).trans (if_neg ?_)
      simp [open_, uncounted, free]
  · refine ⟨fun hold => by simp only [countTimer, hold, if_true], fun free => ⟨fun unreached => ?_, fun time cue armed reached standby => ?_⟩⟩
    · exact countTimer_unreached free (followReached_false unreached)
    · have same := congrArg (fun x => x.engine) (countTimer_fires free armed reached standby)
      exact ⟨congrArg (fun x => x.lastInterval) same, congrArg (fun x => x.timer) same, congrArg (fun x => x.follow) same⟩
  · intro i s finds live idle due begun runs
    have whole : wholeEnd s = intervalEnd none none none s := by simp only [wholeEnd, begun, if_true]
    exact ⟨_, exec_controlIntervalEnd live due runs, rfl, by rw [← whole, ← exec_wholeEnd finds live idle]⟩
  · intro i b d s part block hd live due runs
    exact exec_finishOpen part block hd live due runs
  · refine ⟨fun none => ?_, fun b block => ?_, fun yes => if_pos yes, fun no => ?_, rfl, fun yes => if_pos yes, fun no => ?_,
      fun all => if_pos all, fun none => ?_, fun hold => ?_, fun go => ?_⟩
    · simp only [finishOpen, none]
    · cases b <;> simp only [finishOpen, block] <;> rfl
    · simp only [finishFades, no, Bool.false_eq_true, if_false]
    · simp only [finishRelay, no, Bool.false_eq_true, if_false]
    all_goals exact finishCue_lines ‹_› (by decide)
  · rfl
  · refine (modSlot_slot ..).trans (if_pos rfl)

end

section
/-! The step of the fade table and its completions (3.6), and the end of a crossfade (1.9). -/

namespace Sys2Proof.Machine

variable {s t u : State} {el x : Element} {e : FadeEntry} {k : Fin 8}

/-! ## One completion (R53) -/

theorem completed_entry (e : FadeEntry) (s : State) (x : Element) :
    (completed e s).entry? x = if x = e.element then none else s.entry? x := by
  rw [State.entry?, completed_fades, State.entry?]
  split
  · subst_vars
    simp [List.find?_eq_none]
  case isFalse h =>
    rw [List.find?_filter]
    congr 1
    funext y
    by_cases hy : y.element = x
    · simp [hy, h]
    · simp [hy]

/-- The completion of any entry but XOUT's is told to no other block (R53). -/
theorem completeEntry_told (h : ∀ r, e.element ≠ .xout r) : completeEntry e s = completed e s := by
  rw [completeEntry_eq]
  cases hel : e.element with
  | xout r => exact absurd hel (h r)
  | _ => rfl

theorem fadeComplete_completes (open_ : s.ending.stepped = false) (due : el ∉ s.ending.fresh) (he : s.entry? el = some e)
    (moves : frozen s e = true → s.ending.counted = true) (last : e.duration ≤ e.elapsed + 1) :
    fadeComplete el s = settleAll (completeEntry e (beginBlock .fades s)) := by
  have steps : standsStill s e = false := by
    unfold standsStill
    cases h : frozen s e with
    | false => rfl
    | true => rw [moves h]; rfl
  have fresh : s.ending.fresh.contains el = false := by simpa using due
  simp only [fadeComplete, he, open_, fresh, steps, lastStep, decide_eq_true last, Bool.not_false, Bool.and_self, if_true]

theorem fadeComplete_waits (h : el ∈ s.ending.fresh ∨ s.ending.stepped = true) : fadeComplete el s = s := by
  unfold fadeComplete
  split
  · rfl
  · rw [if_neg]
    rcases h with h | h <;> simp [h]

theorem settled_owned (h : (u.slot k).owned = (s.slot k).owned - 1) :
    ((settleAll u).slot k).owned = (s.slot k).owned - 1 ∨ (settleAll u).slot k = {} := by
  rw [settleAll_slot]
  split
  · exact .inr rfl
  · exact .inl h

/-! ## The end of a crossfade (R21) -/

theorem endCrossfade_role (r q : Fin 64) (s : State) : (endCrossfade r s).role q =
    if r = q then { s.role q with releasing := none, xout := 0 } else s.role q := by
  rw [endCrossfade_eq, directWrite_xout_role]
  simp only [released_role]
  by_cases h : r = q
  · subst h
    simp [clampCode, off]
  · simp [h]

end Sys2Proof.Machine

open Sys2Proof Sys2Proof.Machine

/-- Settles O31: the entry completes by `completed`, and the loss of its place is tested for completion. -/
theorem fadeCompleteWritesTarget : Obligations.FadeCompleteWritesTarget := by
  unfold Obligations.FadeCompleteWritesTarget
  intro el e s parts law
  refine ⟨fun waits => (blockPart_ok parts).trans (congrArg _ (fadeComplete_waits waits)),
    fun due open_ he moves last notXout lo hi stands => ?_⟩
  have hel := entry_element he
  obtain ⟨v, hv⟩ := Option.isSome_iff_exists.1 stands
  have run := fadeComplete_completes open_ due he moves last
  rw [completeEntry_told fun r => hel ▸ notXout r] at run
  have value := completed_value e (beginBlock .fades s)
  have entry := completed_entry e (beginBlock .fades s)
  have slot := completed_slot e (beginBlock .fades s)
  have rest : (completed e (beginBlock .fades s)).ending = (beginBlock .fades s).ending ∧
      (completed e (beginBlock .fades s)).cues = s.cues ∧ (completed e (beginBlock .fades s)).port = s.port ∧
      (completed e (beginBlock .fades s)).table.channels = s.table.channels := by
    simp [completed, beginBlock]
  obtain ⟨ending, cues, port, channels⟩ := rest
  have told : ∀ x, (settleAll (completed e (beginBlock .fades s))).entry? x =
      (completed e (beginBlock .fades s)).entry? x := entry_congr (settleAll_fades _)
  refine ⟨_, (blockPart_ok parts).trans (congrArg _ run), ?_, ?_, fun x hx => ⟨?_, ?_⟩, fun k owner => ?_, ?_, ?_, ?_, ?_⟩
  · rw [value_settleAll, value, if_pos hel.symm, hel]
    exact (congrArg (Option.map fun _ => elemClamp el e.target) hv).trans
      (congrArg some (elemClamp_of_inRange ⟨lo, hi⟩))
  · rw [told, entry, if_pos hel.symm]
  · rw [told, entry, if_neg (hel ▸ hx)]
    rfl
  · rw [value_settleAll, value, if_neg (hel ▸ hx)]
    rfl
  · refine settled_owned ?_
    rw [slot, gains, if_pos owner]
    rfl
  · rw [settleAll_ending, ending]
    rfl
  · rw [settleAll_cues, cues]
  · rw [settleAll_port, port]
  · rw [settleAll_table, channels]

/-- Settles O32: the Role Table's part of the completion is `endCrossfade`, after the target of XOUT is written. -/
theorem crossfadeEnds : Obligations.CrossfadeEnds := by
  unfold Obligations.CrossfadeEnds
  intro r c e s parts law open_ due he thawed last releasing
  have hel := entry_element he
  have run := fadeComplete_completes open_ due he (fun h => by rw [thawed] at h; cases h) last
  have told : completeEntry e (beginBlock .fades s) = endCrossfade r (completed e (beginBlock .fades s)) := by
    rw [completeEntry_eq, hel]
    rfl
  rw [told] at run
  have roles : ∀ q, (completed e (beginBlock .fades s)).role q =
      if r = q then { s.role q with xout := ((completed e (beginBlock .fades s)).role q).xout } else s.role q := fun q => by
    have write : ∀ z (u : State), (u.write (.xout r) z).role q =
        if r = q then { u.role q with xout := ((u.write (.xout r) z).role q).xout } else u.role q := fun z u => by
      rw [State.write, modRole_role]
      split <;> rfl
    have at_ : ∀ v : State, (lossReport e.owner v).role q = v.role q := fun v => by
      rw [State.role, lossReport_table, State.role]
    rw [completed, at_, hel]
    exact write ..
  have channels : ∀ d, (completed e (beginBlock .fades s)).channel d = s.channel d := fun d => by
    simp [completed, beginBlock, State.channel]
  generalize completed e (beginBlock .fades s) = u at *
  have role := fun q => (role_settleAll (endCrossfade r u) q).trans (endCrossfade_role r q u)
  have freed : (u.role r).releasing = some c := by rw [roles, if_pos rfl]; exact releasing
  have channel : ∀ d, (settleAll (endCrossfade r u)).channel d = if c = d then { s.channel d with binding := .none } else s.channel d := fun d => by
    rw [channel_settleAll, endCrossfade_eq, directWrite_channel, released_channel, freed, channels]
    simp only [Option.some.injEq]
  refine ⟨_, (blockPart_ok parts).trans (congrArg _ run), ?_, ?_, ?_, ?_, ?_, fun q hq => ?_, fun d hd => ?_⟩
  · rw [channel, if_pos rfl]
  · rw [role, if_pos rfl]
  · rw [role, if_pos rfl]
  · rw [entry_congr (settleAll_fades _), endCrossfade_eq, entry_directWrite, if_pos rfl]
  · rw [role, if_pos rfl, roles, if_pos rfl]
  · rw [role, if_neg fun h => hq h.symm, roles, if_neg fun h => hq h.symm]
  · rw [channel, if_neg fun h => hd h.symm]

end

section
/-! The step of the fade table at the end of an interval (3.6), element by element. -/

namespace Sys2Proof.Machine

variable {G : Prop} {K : Set Part} {p : Part} {s t u : State} {el x : Element} {e : FadeEntry} {k : Fin 8}

/-! ## Changes that leave an element -/

/-- The parts of which a change writes the value of an element or the entry on it. -/
def Part.touches (el : Element) : Part → Bool
  | .fade _ x | .complete _ x | .write x | .advance x => decide (x = el)
  | .cast _ | .sends _ | .relaySends | .wipe | .reset | .abandon => true
  | _ => false

/-- The value of an element and the entry on it. -/
def track (el : Element) (s : State) : Option FadeEntry × Option Int := (s.entry? el, s.value? el)

theorem stepOn_entry (h : s.entry? x = some e) : (stepOn x e s).entry? el =
    if x = el then some { e with elapsed := e.elapsed + 1 } else s.entry? el := by
  have rewrite : ∀ l : List FadeEntry,
      (l.map (fun y => if y.element = x then { y with elapsed := y.elapsed + 1 } else y)).find? (fun y => decide (y.element = el)) =
        (l.find? (fun y => decide (y.element = el))).map
          (fun y => if y.element = x then { y with elapsed := y.elapsed + 1 } else y) := fun l => by
    rw [List.find?_map]
    congr 2
    funext y
    simp only [Function.comp]
    split <;> rfl
  rw [State.entry?, stepOn_fades, rewrite]
  by_cases hx : x = el
  · subst hx
    rw [if_pos rfl, show s.fades.find? (fun y => decide (y.element = x)) = some e from h, Option.map_some,
      if_pos (entry_element h)]
  · rw [if_neg hx]
    cases hy : s.entry? el with
    | none => exact congrArg (Option.map _) hy
    | some y =>
      have other : y.element ≠ x := fun e => hx (e.symm.trans (entry_element hy))
      rw [show s.fades.find? (fun y => decide (y.element = el)) = some y from hy, Option.map_some, if_neg other]

theorem Change.track (h : Change G p s t) (hp : p.touches el = false) : Machine.track el t = Machine.track el s := by
  by_cases moving : p.fading = false ∧ p.moving = false
  · obtain ⟨fades, values⟩ := moving
    exact Prod.ext (entry_congr (h.fades fades) el) (h.value values el)
  · cases h with
    | fade _ x z d o =>
      have other : el ≠ x := fun e => by simp [Part.touches, e] at hp
      exact Prod.ext (entry_fadeRequest_ne other ..) (value_fadeRequest_ne other ..)
    | complete _ e he =>
      have other : el ≠ e.element := fun same => by simp [Part.touches, same] at hp
      exact Prod.ext ((completed_entry ..).trans (if_neg other)) ((completed_value ..).trans (if_neg other))
    | write _ x z =>
      have other : el ≠ x := fun e => by simp [Part.touches, e] at hp
      exact Prod.ext ((entry_directWrite ..).trans (if_neg other)) ((value_directWrite ..).trans (if_neg other))
    | remove _ x =>
      have other : el ≠ x := fun e => by simp [Part.touches, e] at hp
      exact Prod.ext ((entry_removeEntry ..).trans (if_neg other)) (value_removeEntry ..)
    | advance _ x e he =>
      have other : x ≠ el := by simpa [Part.touches] using hp
      refine Prod.ext ((stepOn_entry he).trans (if_neg other)) ?_
      rw [stepOn]
      exact (value_write ..).trans (if_neg fun e => other e.symm)
    | cast | vacate | addSend | dropSend | addRelaySend | dropRelaySend | wipe | reset | abandon => cases hp
    | _ => exact absurd ⟨rfl, rfl⟩ moving

theorem Run.track (h : Run G K s t) (spared : ∀ p ∈ K, p.touches el = false) : Machine.track el t = Machine.track el s :=
  h.stands fun p hp _ _ c => c.track (spared p hp)

/-! ## The step of one entry (R50) -/

theorem stepping_touches (h : p ∈ stepping x) (other : x ≠ el) : p.touches el = false := by
  rcases h with rfl | ⟨o, rfl | ⟨r, -, rfl | rfl⟩⟩
  any_goals exact decide_eq_false other
  rfl

theorem stepping_sub (x : Element) : stepping x ⊆ fadesEnd := fun _ h => .inl ⟨x, h⟩

/-- HOLD, and whether the running cues have counted at this end: these decide which entries are frozen (R52). -/
def freezing (s : State) : Bool × Bool := (s.engine.hold, s.ending.counted)

theorem standsStill_congr (h : freezing t = freezing s) (e : FadeEntry) : standsStill t e = standsStill s e := by
  obtain ⟨hold, counted⟩ := Prod.ext_iff.1 h
  have hold : t.engine.hold = s.engine.hold := hold
  have counted : t.ending.counted = s.ending.counted := counted
  simp only [standsStill, frozen, hold, counted]

theorem stepEntry_freezing (x : Element) (s : State) : freezing (stepEntry x s) = freezing s := by
  have run := (run_stepEntry (G := False) (s := s) x).mono (stepping_sub x)
  have ending := run.ending_stands fun _ => fadesEnd_timing
  refine Prod.ext (congrArg (fun y => y.engine.hold) (run.settings fun _ => fadesEnd_acts)) ?_
  exact congrArg (fun y => y.counted) ending

/-- What a step makes of an element's entry and value (R50, R53). -/
def stepped (el : Element) (x : Option FadeEntry × Option Int) : Option FadeEntry × Option Int :=
  match x.1 with
  | none => x
  | some e =>
    if lastStep e then (none, x.2.map (fun _ => elemClamp el e.target))
    else (some { e with elapsed := e.elapsed + 1 },
      x.2.map (fun _ => elemClamp el (interp el e.start e.target (e.elapsed + 1) e.duration)))

theorem stepEntry_track (notXout : lastStep e = true → ∀ r, el ≠ .xout r) (he : s.entry? el = some e)
    (moves : standsStill s e = false) : track el (stepEntry el s) = stepped el (track el s) := by
  have hel := entry_element he
  rcases stepEntry_cases el s with ⟨none | ⟨y, hy, still⟩, -⟩ | ⟨y, hy, -, last, eq⟩ | ⟨y, hy, -, last, eq⟩
  · rw [none] at he; cases he
  · rw [hy] at he
    cases he
    rw [still] at moves
    cases moves
  · rw [hy] at he
    cases he
    rw [eq, completeEntry_told fun r => hel ▸ notXout last r]
    simp only [track, stepped, hy, last, if_true, completed_entry, completed_value, hel]
  · rw [hy] at he
    cases he
    rw [eq]
    refine Prod.ext ?_ ?_
    · simp only [track, stepped, hy, last, Bool.false_eq_true, if_false]
      exact (stepOn_entry hy).trans (if_pos rfl)
    · simp only [track, stepped, hy, last, Bool.false_eq_true, if_false]
      rw [stepOn, value_write, if_pos rfl]
      rfl

/-! ## The step of the table -/

/-- A fold whose other steps leave a record takes the step of one member of its list on the record that stands. -/
theorem foldl_at {α β : Type} {f : State → β → State} {get : State → α} {i : β} {l : List β} (mem : i ∈ l)
    (distinct : l.Nodup) (other : ∀ u, ∀ j ∈ l, j ≠ i → get (f u j) = get u) (s : State) :
    ∃ u, get u = get s ∧ get (l.foldl f s) = get (f u i) := by
  obtain ⟨before, after, rfl⟩ := List.append_of_mem mem
  obtain ⟨-, fresh, apart⟩ := List.nodup_append.1 distinct
  have first : ∀ j ∈ before, j ≠ i := fun j hj e => apart j hj i List.mem_cons_self e
  have later : ∀ j ∈ after, j ≠ i := fun j hj e => (List.nodup_cons.1 fresh).1 (e ▸ hj)
  refine ⟨before.foldl f s, foldl_stands (fun u j hj => other u j (by simp [hj]) (first j hj)) s, ?_⟩
  rw [List.foldl_append, List.foldl_cons]
  exact foldl_stands (fun u j hj => other u j (by simp [hj]) (later j hj)) _

theorem track_settleAll (el : Element) (s : State) : track el (settleAll s) = track el s := by
  have fades := settleAll_fades s
  have value := value_settleAll s el
  generalize settleAll s = u at *
  exact Prod.ext (entry_congr fades el) value

theorem stepEntry_other {j : Element} (h : j ≠ el) (s : State) : track el (stepEntry j s) = track el s :=
  (run_stepEntry (G := False) j).track fun _ hp => stepping_touches hp h

/-- An entry that moves takes one step (R50). -/
theorem stepFades_steps (law : fadeLaw s) (due : el ∉ s.ending.fresh) (he : s.entry? el = some e)
    (moves : standsStill s e = false) (notXout : lastStep e = true → ∀ r, el ≠ .xout r) :
    track el (stepFades s) = stepped el (track el s) := by
  have mem : el ∈ steppingElements s := by
    refine List.mem_filter.2 ⟨List.mem_map.2 ⟨e, List.mem_of_find?_eq_some he, entry_element he⟩, ?_⟩
    simpa using due
  obtain ⟨u, same, eq⟩ := foldl_at (f := fun s el => stepEntry el s) (get := fun u => (track el u, freezing u)) mem
    (law.2.filter _) (fun u j _ hj => Prod.ext (stepEntry_other hj u) (stepEntry_freezing j u)) s
  obtain ⟨tracked, frozen⟩ := Prod.ext_iff.1 same
  have tracked : track el u = track el s := tracked
  have hu : u.entry? el = some e := (congrArg Prod.fst tracked).trans he
  rw [stepFades, track_settleAll]
  refine (congrArg Prod.fst eq).trans ((stepEntry_track notXout hu ?_).trans (by rw [tracked]))
  rw [standsStill_congr frozen, moves]

/-- An entry whose fade belongs to the interval that follows takes no step (R47). -/
theorem stepFades_waits (fresh : el ∈ s.ending.fresh) : track el (stepFades s) = track el s := by
  rw [stepFades, track_settleAll]
  refine foldl_stands (fun u j hj => stepEntry_other ?_ u) s
  rintro rfl
  simp [steppingElements, fresh] at hj

end Sys2Proof.Machine
end

section
/-! The elements that neither a cue nor a call moves, at the end of an interval (3.6). -/

namespace Sys2Proof.Machine

variable {G : Prop} {K : Set Part} {p : Part} {s t u : State} {el x : Element} {e : FadeEntry}

/-! ## Elements of the blocks' own -/

/-- No cue and no call fades the element, and no crossfade ends on it (R40, R87). -/
def apart (el : Element) : Prop := elemOpen el = false ∧ (∀ n, el ≠ .duck n) ∧ ∀ r, el ≠ .xout r

theorem fresh_fadeRequest (other : x ≠ el) (z : Int) (d : Nat) (o : FadeOwner) (s : State) :
    el ∈ (fadeRequest x z d o s).2.ending.fresh ↔ el ∈ s.ending.fresh := by
  have note : ∀ due : Bool,
      el ∈ (if due then { s.ending with fresh := x :: s.ending.fresh } else s.ending).fresh ↔ el ∈ s.ending.fresh := fun due => by
    cases due with
    | false => rfl
    | true => exact List.mem_cons.trans (or_iff_right fun e => other e.symm)
  rcases fadeRequest_spec x z d o s with ⟨-, e⟩ | ⟨cur, -, ⟨-, e⟩ | ⟨-, -, ⟨old, -, e⟩ | ⟨-, -, e⟩ | ⟨-, -, e⟩⟩⟩ <;> rw [e]
  · rw [directWrite_ending]
  · rw [replaceEntry_ending]
    exact note _
  · rw [newEntry_ending]
    exact note _
  · rw [snapTo_ending]

theorem Change.fresh (h : Change G p s t) (spared : p.touches el = false) (timing : p.timing = false) :
    el ∈ t.ending.fresh ↔ el ∈ s.ending.fresh := by
  cases h with
  | fade _ x z d o => exact fresh_fadeRequest (of_decide_eq_false spared) ..
  | ending | reset => cases timing
  | write | remove => simp
  | complete => simp [completed]
  | advance => simp [stepOn]
  | wipe | abandon => cases spared
  | _ => rfl

/-- A change that a cue or a call makes leaves an element that stands apart from them. -/
theorem Change.touches_apart (h : Change True p s t) (hp : p.ofCue = true) (away : apart el) (classes : Machine.classLaw s) :
    p.touches el = false := by
  obtain ⟨shut, duck, xout⟩ := away
  have other : ∀ x, elemOpen x = true → decide (x = el) = false := fun x hx => decide_eq_false fun e => by
    rw [e, shut] at hx
    cases hx
  cases h with
  | fade _ x z d o asked =>
    cases o with
    | cue k => exact other x (asks_open classes asked nofun)
    | host => cases hp
    | system =>
      cases x with
      | duck n => exact decide_eq_false fun e => duck n e.symm
      | _ => cases hp
  | complete _ e he =>
    refine other e.element (classes.1 e (List.mem_of_find?_eq_some (he trivial)) fun owner => ?_)
    rw [owner] at hp
    cases hp
  | write _ x =>
    cases x with
    | xout r => exact decide_eq_false fun e => xout r e.symm
    | _ => cases hp
  | remove _ x =>
    cases x with
    | xout r => exact decide_eq_false fun e => xout r e.symm
    | _ => cases hp
  | raised | inputs | counters | hold | triggers | skips | slot | free | start | role | release | calls | inCall => rfl
  | _ => cases hp

/-! ## What the blocks leave of such an element -/

/-- The state keeps the laws, the element, and how far the end is taken for it. -/
def spares (el : Element) (s t : State) : Prop :=
  fadeLaw t ∧ classLaw t ∧ track el t = track el s ∧ (el ∈ t.ending.fresh ↔ el ∈ s.ending.fresh) ∧
    t.ending.stepped = s.ending.stepped

theorem spares_trans (h : spares el s t) (h' : spares el t u) : spares el s u := by
  obtain ⟨-, -, track, fresh, stepped⟩ := h
  obtain ⟨law, classes, track', fresh', stepped'⟩ := h'
  exact ⟨law, classes, track'.trans track, fresh'.trans fresh, stepped'.trans stepped⟩

theorem Run.spares (h : Run True K s t) (away : apart el)
    (parts : ∀ p ∈ K, p.timing = false ∧ (p.ofCue = true ∨ p.touches el = false)) (law : Machine.fadeLaw s)
    (classes : Machine.classLaw s) : Machine.spares el s t :=
  h.keeps (P := Machine.spares el s) (fun p hp a b c kept => by
    obtain ⟨timing, own⟩ := parts p hp
    obtain ⟨law, classes, -⟩ := id kept
    have spared : p.touches el = false := own.elim (fun cue => c.touches_apart cue away classes) id
    have stepped : b.ending.stepped = a.ending.stepped := congrArg (fun x => x.stepped) (c.ending_stands timing)
    exact spares_trans kept ⟨c.fadeLaw law, c.classLaw classes, c.track spared, c.fresh spared timing, stepped⟩)
    ⟨law, classes, rfl, Iff.rfl, rfl⟩

theorem spares_modEnding (law : fadeLaw s) (classes : classLaw s) {f : Ending → Ending}
    (fresh : (f s.ending).fresh = s.ending.fresh) (stepped : (f s.ending).stepped = s.ending.stepped) :
    spares el s (s.modEnding f) :=
  ⟨law, classes, rfl, by rw [modEnding_ending, fresh], by rw [modEnding_ending, stepped]⟩

section
variable (away : apart el) (law : fadeLaw s) (classes : classLaw s)
include away law classes

theorem spares_finishRelay : spares el s (finishRelay s) := by
  unfold finishRelay
  split
  · exact ⟨law, classes, rfl, Iff.rfl, rfl⟩
  · have run := (run_countCall (G := True)).spares away (fun p hp => ⟨calling_timing hp, .inl (calling_ofCue hp)⟩) law classes
    obtain ⟨law, classes, -⟩ := id run
    exact spares_trans run (spares_modEnding law classes rfl rfl)

theorem spares_finishMonitors : spares el s (finishMonitors s) := by
  have run := (run_stepMonitors (G := True)).spares away (fun p hp => ⟨monitoring_timing hp, .inr (by
    rcases hp with rfl | rfl | rfl | rfl <;> rfl)⟩) law classes
  obtain ⟨law, classes, -⟩ := id run
  exact spares_trans run (spares_modEnding law classes rfl rfl)

theorem spares_stepLimiters : spares el s (stepLimiters s) :=
  (run_stepLimiters (G := True)).spares away (fun p hp => by rcases hp with rfl | rfl <;> exact ⟨rfl, .inr rfl⟩) law classes

theorem spares_cueCounts : spares el s (cueCounts s) := by
  rw [cueCounts_eq]
  split
  · exact ⟨law, classes, rfl, Iff.rfl, rfl⟩
  · have slots := (run_countSlots (G := True)).spares away (fun p ⟨k, hp⟩ => ⟨taking_timing hp, .inl (taking_ofCue hp)⟩) law classes
    obtain ⟨law, classes, -⟩ := id slots
    have timer := (run_countTimer (G := True) fun _ => law).spares away
      (fun p hp => ⟨counting_timing hp, .inl (counting_ofCue hp)⟩) law classes
    obtain ⟨law, classes, -⟩ := id timer
    exact spares_trans slots (spares_trans timer (spares_modEnding law classes rfl rfl))

theorem spares_linesLeft (l : Sampled) : spares el s (linesLeft l s) := by
  have run : Run True sampling s (linesLeft l s) := by
    cases l with
    | none =>
      have hold := run_sampleHold (G := True) (s := s)
      exact hold.trans ((run_sampleGo fun _ => hold.fadeLaw law).trans run_sampleCall)
    | hold => exact (run_sampleGo fun _ => law).trans run_sampleCall
    | go => exact run_sampleCall
    | all => exact Run.refl ..
  exact run.spares away (fun p hp => ⟨sampling_timing hp, .inl (sampling_ofCue hp)⟩) law classes

theorem spares_finishCue : spares el s (finishCue s) := by
  unfold finishCue
  split
  · exact ⟨law, classes, rfl, Iff.rfl, rfl⟩
  · have counts := spares_cueCounts away law classes
    obtain ⟨law, classes, -⟩ := id counts
    have lines := spares_linesLeft away law classes s.ending.sampled
    obtain ⟨law, classes, -⟩ := id lines
    exact spares_trans counts (spares_trans lines (spares_modEnding law classes rfl rfl))

end

/-! ## The element at the end of an interval (R47, R50) -/

/-- What the end makes of such an element: one step of its fade, where it has not been taken and is not of the interval that
follows. -/
def finalOf (el : Element) (s : State) : Option FadeEntry × Option Int :=
  if s.ending.stepped = true ∨ el ∈ s.ending.fresh then track el s else stepped el (track el s)

theorem finalOf_spares (h : spares el s t) : finalOf el t = finalOf el s := by
  obtain ⟨-, -, track, fresh, stepped⟩ := h
  simp only [finalOf, track, fresh, stepped]

/-- The state keeps the laws, and what the end makes of the element. -/
def carries (el : Element) (s t : State) : Prop := fadeLaw t ∧ classLaw t ∧ finalOf el t = finalOf el s

theorem carries_of_spares (h : spares el s t) : carries el s t := ⟨h.1, h.2.1, finalOf_spares h⟩

theorem carries_trans (h : carries el s t) (h' : carries el t u) : carries el s u :=
  ⟨h'.1, h'.2.1, h'.2.2.trans h.2.2⟩

/-- Only a block itself fades an element that stands apart, so its entry is not frozen (R52). -/
theorem standsStill_apart (away : apart el) (classes : classLaw s) (he : s.entry? el = some e) : standsStill s e = false := by
  have system : e.owner = .system := by
    by_contra other
    have opens := classes.1 e (List.mem_of_find?_eq_some he) other
    rw [entry_element he, away.1] at opens
    cases opens
  simp only [standsStill, frozen, system, Bool.false_and]

theorem stepEntry_none (none : s.entry? el = none) : stepEntry el s = s := by simp only [stepEntry, none]

theorem stepFades_none (none : s.entry? el = none) : track el (stepFades s) = track el s := by
  rw [stepFades, track_settleAll]
  refine foldl_stands (fun u j hj => stepEntry_other ?_ u) s
  rintro rfl
  obtain ⟨y, hy, same⟩ := List.mem_map.1 (List.mem_filter.1 hj).1
  have := List.find?_eq_none.1 none y hy
  simp [same] at this

theorem finishFades_final (away : apart el) (law : fadeLaw s) (classes : classLaw s) :
    carries el s (finishFades s) ∧ track el (finishFades s) = finalOf el s ∧ (finishFades s).ending.stepped = true := by
  unfold finishFades
  by_cases taken : s.ending.stepped = true
  · rw [if_pos taken, finalOf, if_pos (.inl taken)]
    exact ⟨⟨law, classes, rfl⟩, rfl, taken⟩
  · rw [if_neg taken]
    have run := run_stepFades (G := True) (s := s)
    have final : track el (stepFades s) = finalOf el s := by
      unfold finalOf
      by_cases fresh : el ∈ s.ending.fresh
      · rw [if_pos (.inr fresh), stepFades_waits fresh]
      · rw [if_neg (not_or.2 ⟨taken, fresh⟩)]
        cases he : s.entry? el with
        | none => rw [stepFades_none he, stepped, track, he]
        | some e => exact stepFades_steps law fresh he (standsStill_apart away classes he) fun _ => away.2.2
    have laws : fadeLaw (stepFades s) ∧ classLaw (stepFades s) :=
      ⟨run.fadeLaw law, run.keeps (P := classLaw) (fun _ _ _ _ c => c.classLaw) classes⟩
    generalize stepFades s = v at *
    exact ⟨⟨laws.1, laws.2, (if_pos (.inl rfl)).trans final⟩, final, rfl⟩

theorem finishBlock_carries (away : apart el) (law : fadeLaw s) (classes : classLaw s) (b : EndBlock) :
    carries el s (finishBlock b s) := by
  cases b with
  | fades => exact (finishFades_final away law classes).1
  | monitors => exact carries_of_spares (spares_finishMonitors away law classes)
  | relay => exact carries_of_spares (spares_finishRelay away law classes)
  | cue => exact carries_of_spares (spares_finishCue away law classes)

theorem takePeaks_spares (law : fadeLaw s) (classes : classLaw s) : spares el s (takePeaks s) := by
  unfold takePeaks
  split
  · exact ⟨law, classes, rfl, Iff.rfl, rfl⟩
  · exact ⟨law, classes, rfl, Iff.rfl, rfl⟩

theorem finishOpen_carries (away : apart el) (law : fadeLaw s) (classes : classLaw s) : carries el s (finishOpen s) := by
  rcases finishOpen_cases s with ⟨-, e⟩ | ⟨b, -, e⟩ <;> rw [e]
  · exact ⟨law, classes, rfl⟩
  · have peaks := takePeaks_spares (el := el) law classes
    obtain ⟨law, classes, -⟩ := id peaks
    have block := finishBlock_carries away law classes b
    obtain ⟨law, classes, -⟩ := id block
    exact carries_trans (carries_of_spares peaks)
      (carries_trans block (carries_of_spares (spares_modEnding law classes rfl rfl)))

/-- What the end leaves of an element that stands apart from cues and calls. -/
theorem intervalEnd_track (away : apart el) (law : fadeLaw s) (classes : classLaw s) (g h c : Option Line) :
    track el (intervalEnd g h c s) = finalOf el s := by
  have lines : spares el s (moveLines g h c s) := ⟨law, classes, rfl, Iff.rfl, rfl⟩
  have peaks := takePeaks_spares (el := el) (s := moveLines g h c s) law classes
  obtain ⟨law, classes, -⟩ := id peaks
  have first := finishOpen_carries away law classes
  obtain ⟨law, classes, -⟩ := id first
  obtain ⟨⟨law, classes, -⟩, final, taken⟩ := finishFades_final away law classes
  have start := carries_trans (carries_of_spares (spares_trans lines peaks)) first
  unfold intervalEnd
  generalize finishOpen (takePeaks (moveLines g h c s)) = v at *
  have limits := spares_stepLimiters away law classes
  obtain ⟨law, classes, -⟩ := id limits
  have monitors := spares_finishMonitors away law classes
  obtain ⟨law, classes, -⟩ := id monitors
  have relay := spares_finishRelay away law classes
  obtain ⟨law, classes, -⟩ := id relay
  have cue := spares_finishCue away law classes
  obtain ⟨-, -, later, -⟩ := spares_trans limits (spares_trans monitors (spares_trans relay cue))
  exact later.trans (final.trans start.2.2)

end Sys2Proof.Machine
open Sys2Proof Sys2Proof.Machine

/-- Settles O33: `stepped` is the step of one entry, which the table takes once for every entry that moves; at the end of an
interval no other part writes an element that stands apart from cues and calls (`intervalEnd_track`). -/
theorem fadeStepInterpolates : Obligations.FadeStepInterpolates := by
  unfold Obligations.FadeStepInterpolates
  intro el e s law he a b v
  have writes : elemClamp el (interp el e.start e.target (e.elapsed + 1) e.duration) = elemClamp el v := rfl
  have short : e.elapsed + 1 < e.duration → lastStep e = false := fun h => decide_eq_false (Nat.not_le.2 h)
  have advances : e.elapsed + 1 < e.duration → (s.value? el).isSome →
      stepped el (track el s) = (some { e with elapsed := e.elapsed + 1 }, some (elemClamp el v)) := fun h stands => by
    obtain ⟨z, hz⟩ := Option.isSome_iff_exists.1 stands
    simp only [stepped, track, he, short h, Bool.false_eq_true, if_false, hz, Option.map_some, writes]
  refine ⟨fun moves h stands due => ?_, fun fresh _ => ?_, fun g h c live due runs classes kind => ?_⟩
  · have free : standsStill s e = false := by
      unfold standsStill
      cases frost : frozen s e with
      | false => rfl
      | true => rw [moves frost]; rfl
    have step := (stepFades_steps law due he free fun last => by rw [short h] at last; cases last).trans (advances h stands)
    generalize stepFades s = t at *
    exact ⟨congrArg Prod.fst step, congrArg Prod.snd step⟩
  · have step := stepFades_waits fresh
    generalize stepFades s = t at *
    exact ⟨(congrArg Prod.fst step).trans he, congrArg Prod.snd step⟩
  · have away : apart el := by
      rcases kind with ⟨r, rfl⟩ | ⟨f, rfl⟩ | ⟨n, rfl⟩ <;> exact ⟨rfl, nofun, nofun⟩
    have final := intervalEnd_track away law classes g h c
    have ok := exec_controlIntervalEnd (g := g) (h := h) (c := c) live due runs
    generalize intervalEnd g h c s = t at *
    refine ⟨t, ok, fun h stands due open_ _ => ?_, fun h stands due open_ _ => ?_, fun waits => ?_⟩
    · rw [finalOf, if_neg (by simp [due, open_]), advances h stands] at final
      exact ⟨congrArg Prod.fst final, congrArg Prod.snd final⟩
    · obtain ⟨z, hz⟩ := Option.isSome_iff_exists.1 stands
      have last : lastStep e = true := decide_eq_true h
      rw [finalOf, if_neg (by simp [due, open_])] at final
      simp only [stepped, track, he, last, if_true, hz, Option.map_some] at final
      exact ⟨congrArg Prod.fst final, congrArg Prod.snd final⟩
    · rw [finalOf, if_pos waits.symm] at final
      exact ⟨(congrArg Prod.fst final).trans he, congrArg Prod.snd final⟩

end

section
/-! The end of an interval under HOLD (5.8). -/

namespace Sys2Proof.Machine

variable {G : Prop} {K : Set Part} {p : Part} {s t u : State} {el x : Element} {e : FadeEntry} {k : Fin 8}

/-! ## What HOLD stops -/

theorem countSlots_held (hold : s.engine.hold = true) : countSlots s = s := if_pos hold

theorem countTimer_held (hold : s.engine.hold = true) : countTimer s = s := if_pos hold

theorem actionDue_held (hold : s.engine.hold = true) (k : Fin 8) : actionDue k s = s := by
  simp only [actionDue, hold, Bool.not_true, Bool.false_and, Bool.false_eq_true, if_false]

theorem followGo_held (hold : s.engine.hold = true) : followGo s = s := by
  simp only [followGo, hold, Bool.not_true, Bool.false_and, Bool.false_eq_true, if_false]

/-- An entry of class CUE is frozen (R52). -/
theorem standsStill_held (hold : s.engine.hold = true) (uncounted : s.ending.counted = false)
    (cue : ∃ k, e.owner = .cue k) : standsStill s e = true := by
  obtain ⟨k, owner⟩ := cue
  simp only [standsStill, frozen, owner, hold, uncounted, Bool.not_false, Bool.and_self]

theorem stepEntry_still (he : s.entry? el = some e) (still : standsStill s e = true) : stepEntry el s = s := by
  simp only [stepEntry, he, still, if_true]

theorem fadeComplete_still (he : s.entry? el = some e) (still : standsStill s e = true) : fadeComplete el s = s := by
  simp only [fadeComplete, he, still, Bool.not_true, Bool.and_false, Bool.false_and, Bool.false_eq_true, if_false]

/-- A part of an end that does nothing on the state as it stands. -/
theorem blockPart_idle {b : EndBlock} {f : State → State} (block : s.ending.block = none ∨ s.ending.block = some b)
    (idle : f s = s) : blockPart b f s = .next s := by
  have here : f (meetBlock b s) = s := by rw [meetBlock_of block, idle]
  simp only [blockPart, endPart, outsideReset, inEnd, here, ite_self]

/-! ## The parts of an end under HOLD -/

/-- The parts that an end under HOLD writes. -/
def Part.ofHeld : Part → Bool
  | .raised _ | .ending | .mixer | .monitors | .inputs | .slot _ | .fade .system (.duck _) | .complete _ _ | .write _ | .advance _
  | .channel | .release _ | .protect | .relay | .calls | .inCall => true
  | _ => false

/-- The cue list, and the engine but for its inputs, slots and triggers. -/
def cueView (s : State) : CueList × BitVec 32 × Nat × Nat × Option Nat × Bool :=
  (s.cues, s.engine.serial, s.engine.timer, s.engine.lastInterval, s.engine.follow, s.engine.hold)

theorem Change.cueView (h : Change G p s t) (hp : p.ofHeld = true) : Machine.cueView t = Machine.cueView s := by
  cases h with
  | fade | write | remove => simp [Machine.cueView]
  | complete => simp [completed, Machine.cueView]
  | advance => simp [stepOn, Machine.cueView]
  | raised | ending | mixer | monitors | inputs | slot | free | channel | release | protect | relay | calls | inCall => rfl
  | _ => cases hp

/-- A slot counts nothing and executes nothing: it loses fades, or becomes FREE. -/
def slotHeld (x y : Slot) : Prop := (y = { x with owned := y.owned } ∧ y.owned ≤ x.owned) ∨ y = {}

theorem slotHeld_trans {x y z : Slot} (h : slotHeld x y) (h' : slotHeld y z) : slotHeld x z := by
  rcases h' with ⟨eq', le'⟩ | free
  · rcases h with ⟨eq, le⟩ | free
    · refine .inl ⟨?_, le'.trans le⟩
      rw [eq', eq]
    · refine .inr ?_
      subst free
      have none : z.owned = 0 := Nat.le_zero.1 le'
      rw [eq', none]
  · exact .inr free

theorem slotHeld_fadeRequest (x : Element) (z : Int) (d : Nat) (s : State) (k : Fin 8) :
    slotHeld (s.slot k) ((fadeRequest x z d .system s).2.slot k) := by
  have lowers : ∀ n, slotHeld (s.slot k) { s.slot k with owned := (s.slot k).owned - n } := fun n =>
    .inl ⟨rfl, Nat.sub_le ..⟩
  rcases fadeRequest_spec x z d .system s with ⟨-, e⟩ | ⟨cur, -, ⟨-, e⟩ | ⟨-, -, ⟨old, -, e⟩ | ⟨-, -, e⟩ | ⟨-, -, e⟩⟩⟩ <;>
    rw [e]
  · exact lowers 0
  · rw [directWrite_slot]
    exact lowers _
  · rw [replaceEntry_slot]
    exact lowers _
  · rw [newEntry_slot]
    exact lowers 0
  · rw [snapTo_slot, directWrite_slot]
    exact lowers _

theorem Change.slotHeld (h : Change G p s t) (hp : p.ofHeld = true) (other : ∀ j, p ≠ .slot j) (k : Fin 8) :
    Machine.slotHeld (s.slot k) (t.slot k) := by
  cases h with
  | fade _ x z d o =>
    cases o with
    | system => exact slotHeld_fadeRequest ..
    | cue | host => cases hp
  | write => exact .inl (by rw [directWrite_slot]; exact ⟨rfl, Nat.sub_le ..⟩)
  | remove => exact .inl (by rw [removeEntry_slot]; exact ⟨rfl, Nat.sub_le ..⟩)
  | complete => exact .inl (by rw [completed_slot]; exact ⟨rfl, Nat.sub_le ..⟩)
  | advance => exact .inl (by rw [stepOn, write_slot]; exact ⟨rfl, Nat.le_refl _⟩)
  | slot _ j | free _ j => exact absurd rfl (other j)
  | raised | ending | mixer | monitors | inputs | channel | release | protect | relay | calls | inCall =>
    exact .inl ⟨rfl, Nat.le_refl _⟩
  | _ => cases hp

/-- HOLD is in force at an end that has not counted (R97). -/
def held (s : State) : Prop := s.engine.hold = true ∧ s.ending.counted = false

/-- What HOLD keeps: the cue list and the counters, what the slots run, and the entries of class CUE with their elements. -/
def frost (s t : State) : Prop :=
  cueView t = cueView s ∧ t.ending.counted = s.ending.counted ∧ (∀ k, slotHeld (s.slot k) (t.slot k)) ∧
    ∀ el e, s.entry? el = some e → (∃ k, e.owner = .cue k) → elemOpen el = true → track el t = track el s

theorem frost_refl (s : State) : frost s s := ⟨rfl, rfl, fun _ => .inl ⟨rfl, Nat.le_refl _⟩, fun _ _ _ _ _ => rfl⟩

theorem frost_trans (h : frost s t) (h' : frost t u) : frost s u := by
  obtain ⟨view, counted, slots, entries⟩ := h
  obtain ⟨view', counted', slots', entries'⟩ := h'
  refine ⟨view'.trans view, counted'.trans counted, fun k => slotHeld_trans (slots k) (slots' k), fun el e he cue opens => ?_⟩
  have same := entries el e he cue opens
  exact (entries' el e ((congrArg Prod.fst same).trans he) cue opens).trans same

theorem held_of_frost (h : held s) (f : frost s t) : held t :=
  ⟨(congrArg (fun x => x.2.2.2.2.2) f.1).trans h.1, f.2.1.trans h.2⟩

/-- A run of such parts that opens no element leaves what HOLD keeps. -/
theorem Run.frost (h : Run G K s t) (parts : ∀ p ∈ K, p.ofHeld = true ∧ (∀ j, p ≠ .slot j) ∧ p.timing = false)
    (apart : ∀ p ∈ K, ∀ el, elemOpen el = true → p.touches el = false) : Machine.frost s t :=
  h.keeps (P := Machine.frost s) (fun p hp a b c kept => by
    obtain ⟨own, other, timing⟩ := parts p hp
    refine frost_trans kept ⟨c.cueView own, ?_, c.slotHeld own other, fun el e _ _ opens => c.track (apart p hp el opens)⟩
    exact congrArg (fun x => x.counted) (c.ending_stands timing)) (frost_refl s)

theorem frost_modEnding {f : Ending → Ending} (counted : (f s.ending).counted = s.ending.counted) : frost s (s.modEnding f) :=
  ⟨rfl, counted, fun _ => .inl ⟨rfl, Nat.le_refl _⟩, fun _ _ _ _ _ => rfl⟩

/-! ## The blocks under HOLD -/

theorem calling_held (h : p ∈ calling) : p.ofHeld = true ∧ (∀ j, p ≠ .slot j) ∧ p.timing = false := by
  rcases h with rfl | rfl | rfl | ⟨n, rfl⟩ <;> exact ⟨rfl, nofun, rfl⟩

theorem calling_apart (h : p ∈ calling) (opens : elemOpen el = true) : p.touches el = false := by
  rcases h with rfl | rfl | rfl | ⟨n, rfl⟩
  any_goals rfl
  exact decide_eq_false fun e => by rw [← e] at opens; cases opens

theorem frost_stepEntry (h : held s) (j : Element) : frost s (stepEntry j s) := by
  have run := run_stepEntry (G := False) (s := s) j
  have parts : ∀ p ∈ stepping j, p.ofHeld = true ∧ (∀ j, p ≠ .slot j) ∧ p.timing = false := by
    rintro p (rfl | ⟨o, rfl | ⟨r, -, rfl | rfl⟩⟩) <;> exact ⟨rfl, nofun, rfl⟩
  refine ⟨run.stands fun p hp _ _ c => c.cueView (parts p hp).1, ?_, fun k => ?_, fun el e he cue opens => ?_⟩
  · exact congrArg (fun x => x.counted) (run.ending_stands fun p hp => (parts p hp).2.2)
  · exact run.keeps (P := fun u => slotHeld (s.slot k) (u.slot k))
      (fun p hp _ _ c kept => slotHeld_trans kept (c.slotHeld (parts p hp).1 (parts p hp).2.1 k)) (.inl ⟨rfl, Nat.le_refl _⟩)
  · by_cases same : j = el
    · subst same
      rw [stepEntry_still he (standsStill_held h.1 h.2 cue)]
    · exact stepEntry_other same s

theorem frost_foldl {β : Type} {f : State → β → State} (each : ∀ u b, held u → frost u (f u b)) (l : List β) (h : held s) :
    frost s (l.foldl f s) := by
  induction l generalizing s with
  | nil => exact frost_refl s
  | cons b l ih =>
    have step := each s b h
    exact frost_trans step (ih (held_of_frost h step))

theorem frost_settleAll (s : State) : frost s (settleAll s) := by
  have view : cueView (settleAll s) = cueView s := by simp [cueView]
  have ending := settleAll_ending s
  have slots := settleAll_slot s
  have tracks := fun el => track_settleAll el s
  generalize settleAll s = t at *
  refine ⟨view, congrArg (fun x => x.counted) ending, fun k => ?_, fun el _ _ _ _ => tracks el⟩
  rw [slots]
  split
  · exact .inr rfl
  · exact .inl ⟨rfl, Nat.le_refl _⟩

theorem frost_stepFades (h : held s) : frost s (stepFades s) := by
  rw [stepFades]
  exact frost_trans (frost_foldl (fun u j hu => frost_stepEntry hu j) _ h) (frost_settleAll _)

theorem frost_finishFades (h : held s) : frost s (finishFades s) := by
  have steps := frost_stepFades h
  unfold finishFades
  split
  · exact frost_refl s
  · generalize stepFades s = v at *
    exact frost_trans steps (frost_modEnding rfl)

theorem frost_finishMonitors (s : State) : frost s (finishMonitors s) :=
  frost_trans ((run_stepMonitors (G := False)).frost
    (fun p hp => by rcases hp with rfl | rfl | rfl | rfl <;> exact ⟨rfl, nofun, rfl⟩)
    (fun p hp el _ => by rcases hp with rfl | rfl | rfl | rfl <;> rfl)) (frost_modEnding rfl)

theorem frost_stepLimiters (s : State) : frost s (stepLimiters s) :=
  (run_stepLimiters (G := False)).frost (fun p hp => by rcases hp with rfl | rfl <;> exact ⟨rfl, nofun, rfl⟩)
    (fun p hp el _ => by rcases hp with rfl | rfl <;> rfl)

theorem frost_finishRelay (s : State) : frost s (finishRelay s) := by
  unfold finishRelay
  split
  · exact frost_refl s
  · exact frost_trans ((run_countCall (G := False)).frost (fun _ => calling_held) fun _ hp _ => calling_apart hp)
      (frost_modEnding rfl)

/-- The parts that the lines write under HOLD: an edge of HOLD_N finds it in force, and a GO is turned away (R80, R97). -/
def heldLines : Set Part := {p | p = .inputs ∨ p = .raised .goIgnored ∨ p ∈ calling}

theorem Run.heldLines (h : Run G heldLines s t) : Machine.frost s t :=
  h.frost (by
    rintro p (rfl | rfl | hp)
    · exact ⟨rfl, nofun, rfl⟩
    · exact ⟨rfl, nofun, rfl⟩
    · exact calling_held hp)
    (by
    rintro p (rfl | rfl | hp) el opens
    · rfl
    · rfl
    · exact calling_apart hp opens)

theorem run_heldInputs (f : CueEngine → CueEngine) {g h c : ShowInput}
    (hf : f s.engine = { s.engine with goInput := g, holdInput := h, callInput := c }) :
    Run False heldLines s (s.modEngine f) := by
  rw [State.modEngine, hf]
  exact run_inputs g h c (.inl rfl)

theorem held_sampleHold (hold : s.engine.hold = true) : Run False heldLines s (sampleHold s) := by
  have moved := run_heldInputs (s := s) (fun x => { x with holdInput := (sampleInput s.engine.holdInput).1 }) rfl
  have idle : ∀ e, holdEdge e (s.modEngine (fun x => { x with holdInput := (sampleInput s.engine.holdInput).1 })) =
      s.modEngine (fun x => { x with holdInput := (sampleInput s.engine.holdInput).1 }) := fun e => by
    unfold holdEdge
    rw [takeHold_held (s := s.modEngine fun x => { x with holdInput := (sampleInput s.engine.holdInput).1 }) hold, ite_self]
  simp only [sampleHold]
  cases (sampleInput s.engine.holdInput).2 with
  | none => exact moved
  | some e => rw [onEdge, idle]; exact moved

theorem held_sampleGo (hold : s.engine.hold = true) : Run False heldLines s (sampleGo s) := by
  have moved := run_heldInputs (s := s) (fun x => { x with goInput := (sampleInput s.engine.goInput).1 }) rfl
  simp only [sampleGo]
  cases (sampleInput s.engine.goInput).2 with
  | none => exact moved
  | some e =>
    refine moved.trans ?_
    simp only [onEdge, goEdge]
    split
    · rw [goUnasked_held (s := s.modEngine fun x => { x with goInput := (sampleInput s.engine.goInput).1 }) .line hold]
      exact Run.one (p := .raised .goIgnored) (.inr (.inl rfl)) (.raised _ .goIgnored _ fun _ _ => rfl)
    · exact Run.refl ..

theorem held_sampleCall (s : State) : Run False heldLines s (sampleCall s) := by
  have moved := run_heldInputs (s := s) (fun x => { x with callInput := (sampleInput s.engine.callInput).1 }) rfl
  simp only [sampleCall]
  cases (sampleInput s.engine.callInput).2 with
  | none => exact moved
  | some e => exact moved.trans ((run_callEdge e).mono fun _ h => .inr (.inr h))

theorem frost_linesLeft (h : held s) (l : Sampled) : frost s (linesLeft l s) := by
  have go : ∀ u, held u → frost u (sampleGo u) := fun u hu => (held_sampleGo hu.1).heldLines
  have call : ∀ u, frost u (sampleCall u) := fun u => (held_sampleCall u).heldLines
  cases l with
  | none =>
    have first := (held_sampleHold h.1).heldLines
    exact frost_trans first (frost_trans (go _ (held_of_frost h first)) (call _))
  | hold => exact frost_trans (go s h) (call _)
  | go => exact call s
  | all => exact frost_refl s

theorem frost_finishCue (h : held s) : frost s (finishCue s) := by
  unfold finishCue
  split
  · exact frost_refl s
  · rw [cueCounts_eq, if_pos (.inr h.1)]
    exact frost_trans (frost_linesLeft h _) (frost_modEnding rfl)

theorem frost_finishBlock (h : held s) (b : EndBlock) : frost s (finishBlock b s) := by
  cases b with
  | fades => exact frost_finishFades h
  | monitors => exact frost_finishMonitors s
  | relay => exact frost_finishRelay s
  | cue => exact frost_finishCue h

theorem frost_takePeaks (s : State) : frost s (takePeaks s) := by
  unfold takePeaks
  split
  · exact frost_refl s
  · exact ⟨rfl, rfl, fun _ => .inl ⟨rfl, Nat.le_refl _⟩, fun _ _ _ _ _ => rfl⟩

theorem frost_finishOpen (h : held s) : frost s (finishOpen s) := by
  rcases finishOpen_cases s with ⟨-, e⟩ | ⟨b, -, e⟩ <;> rw [e]
  · exact frost_refl s
  · have peaks := frost_takePeaks s
    exact frost_trans peaks (frost_trans (frost_finishBlock (held_of_frost h peaks) b) (frost_modEnding rfl))

/-- What HOLD keeps at an end of an interval (R52, R82, R97). -/
def rests (s t : State) : Prop :=
  cueView t = cueView s ∧ (∀ k, slotHeld (s.slot k) (t.slot k)) ∧
    ∀ el e, s.entry? el = some e → (∃ k, e.owner = .cue k) → elemOpen el = true → track el t = track el s

theorem rests_moveLines (g h c : Option Line) (s : State) : rests s (moveLines g h c s) :=
  ⟨rfl, fun _ => .inl ⟨rfl, Nat.le_refl _⟩, fun _ _ _ _ _ => rfl⟩

theorem rests_intervalEnd (h' : held s) (g h c : Option Line) : rests s (intervalEnd g h c s) := by
  have lines : frost s (moveLines g h c s) := ⟨rfl, rfl, fun _ => .inl ⟨rfl, Nat.le_refl _⟩, fun _ _ _ _ _ => rfl⟩
  have peaks := frost_trans lines (frost_takePeaks _)
  have first := frost_trans peaks (frost_finishOpen (held_of_frost h' peaks))
  have fades := frost_trans first (frost_finishFades (held_of_frost h' first))
  unfold intervalEnd
  generalize finishFades (finishOpen (takePeaks (moveLines g h c s))) = v at *
  have others := frost_trans fades (frost_trans (frost_stepLimiters v)
    (frost_trans (frost_finishMonitors (stepLimiters v)) (frost_finishRelay (finishMonitors (stepLimiters v)))))
  generalize finishRelay (finishMonitors (stepLimiters v)) = w at *
  obtain ⟨view, -, slots, entries⟩ := frost_trans others (frost_finishCue (held_of_frost h' others))
  exact ⟨view, slots, entries⟩

end Sys2Proof.Machine

open Sys2Proof Sys2Proof.Machine

/-- Settles O27: each block's part of an end leaves what `frost` names while HOLD is in force. -/
theorem holdFreezesCues : Obligations.HoldFreezesCues := by
  unfold Obligations.HoldFreezesCues
  intro s hold uncounted
  refine ⟨by rw [countSlots_held hold, countTimer_held hold], actionDue_held hold, followGo_held hold,
    fun el e he cue => stepEntry_still he (standsStill_held hold uncounted cue),
    fun block => ⟨fun k => blockPart_idle block (actionDue_held hold k), blockPart_idle block (followGo_held hold)⟩,
    fun block el e he cue => blockPart_idle block (fadeComplete_still he (standsStill_held hold uncounted cue)),
    fun g h c live => ?_⟩
  obtain ⟨t, ok, view, slots, entries⟩ : ∃ t, exec (.controlIntervalEnd g h c) s = .next t ∧ rests s t := by
    by_cases due : s.ending.due = true ∧ paused s = false
    · exact ⟨_, exec_controlIntervalEnd live due.1 due.2, rests_intervalEnd ⟨hold, uncounted⟩ g h c⟩
    · refine ⟨_, exec_controlIntervalEnd_none live ?_, rests_moveLines g h c s⟩
      cases marked : s.ending.due with
      | false => exact .inl rfl
      | true =>
        cases stopped : paused s with
        | false => exact absurd ⟨marked, stopped⟩ due
        | true => exact .inr rfl
  have after := fun {α : Type} (f : CueList × BitVec 32 × Nat × Nat × Option Nat × Bool → α) => congrArg f view
  refine ⟨t, ok, (after fun x => x.2.2.2.2.2).trans hold, after fun x => x.2.2.1, after fun x => x.2.2.2.1,
    after fun x => x.2.2.2.2.1, after fun x => x.2.1, after fun x => x.1, fun k => ?_, fun el e he cue opens => ?_⟩
  · rcases slots k with ⟨same, -⟩ | free
    · rw [same]
      exact .inl ⟨rfl, rfl⟩
    · exact .inr free
  · have same := entries el e he cue opens
    exact ⟨(congrArg Prod.fst same).trans he, congrArg Prod.snd same⟩

end

section
/-! LINK_SET and SLOT_MAP_SET (9.5). -/

namespace Sys2Proof.Machine

variable {s t u : State} {n m : Fin 4} {f : LinkFields}

/-! ## LINK_SET (R154, R156, R159) -/

/-- The state but for the links, the fade table and the slots. -/
def besidesLinks (s : State) : State := { besidesFades s with links := {}, attention := s.attention }

theorem besidesLinks_removeEntry (el : Element) (s : State) : besidesLinks (removeEntry el s) = besidesLinks s := by
  simp [besidesLinks, besidesFades]

theorem besidesLinks_writeLink (n : Fin 4) (z : Int) (s : State) : besidesLinks (directWrite (.link n) z s) = besidesLinks s :=
  besidesLinks_removeEntry (.link n) s

theorem removeEntry_receiver (el : Element) (s : State) (m : Fin 4) : (removeEntry el s).receiver m = s.receiver m :=
  congrArg (fun x => x.receivers.get m) (removeEntry_links el s)

theorem writeLink_receiver (n m : Fin 4) (z : Int) (s : State) :
    (directWrite (.link n) z s).receiver m =
      if n = m then { s.receiver m with ramp := elemClamp (.link n) z } else s.receiver m := by
  show ((removeEntry (.link n) s).modReceiver n _).receiver m = _
  rw [modReceiver_receiver, removeEntry_receiver]

/-- The receiver of a link that is turned on (R154). -/
def turnedOn (x : Receiver) : Receiver :=
  if x.enable then x
  else { x with enable := true, state := .waitSync, receiving := false, newest := none, held := Table.replicate 16 0, missed := 0 }

/-- The receiver of a link that is turned off (R154). -/
def turnedOff (x : Receiver) : Receiver := ⟨false, .disabled, false, none, Table.replicate 16 0, 0, x.slips, off⟩

/-- A receiver and the fade on its ramp. -/
def linkAt (n : Fin 4) (s : State) : Receiver × Option FadeEntry := (s.receiver n, s.entry? (.link n))

/-- What an input link item makes of them. -/
def inputAfter (v : Option Nat) (x : Receiver × Option FadeEntry) : Receiver × Option FadeEntry :=
  match v with
  | none => x
  | some v => if isOn v then (turnedOn x.1, x.2) else if x.1.enable then (turnedOff x.1, none) else x

theorem linkAt_enableLink (n m : Fin 4) (s : State) :
    linkAt m (enableLink n s) = if n = m then (turnedOn (s.receiver m), s.entry? (.link m)) else linkAt m s := by
  simp only [enableLink, linkAt, turnedOn]
  split
  · by_cases h : n = m
    · subst h
      simp only [*, if_true]
    · rw [if_neg h]
  · simp only [modReceiver_receiver, modReceiver_entry]
    by_cases h : n = m
    · subst h
      simp only [*, if_true]
      rfl
    · simp only [if_neg h]

theorem linkAt_disableLink (n m : Fin 4) (s : State) :
    linkAt m (disableLink n s) =
      if n = m ∧ (s.receiver m).enable = true then (turnedOff (s.receiver m), none) else linkAt m s := by
  simp only [disableLink, linkAt]
  by_cases h : n = m
  · subst h
    by_cases on : (s.receiver n).enable = true
    · rw [if_pos on, if_pos ⟨rfl, on⟩, entry_directWrite, if_pos rfl, writeLink_receiver, if_pos rfl, modReceiver_receiver,
        if_pos rfl]
      rfl
    · rw [if_neg on, if_neg fun a => on a.2]
  · have none : ¬(n = m ∧ (s.receiver m).enable = true) := fun a => h a.1
    rw [if_neg none]
    have apart : Element.link m ≠ .link n := fun e => h (Element.link.inj e).symm
    split
    · simp only [writeLink_receiver, entry_directWrite, modReceiver_receiver, modReceiver_entry, if_neg h, if_neg apart]
    · rfl

theorem linkAt_setInput (f : LinkFields) (s : State) (n : Fin 4) :
    linkAt n (setInput f s n) = inputAfter (f.inputs.get n) (linkAt n s) := by
  unfold setInput
  cases f.inputs.get n with
  | none => rfl
  | some v =>
    simp only [inputAfter]
    split
    · exact (linkAt_enableLink ..).trans (if_pos rfl)
    · refine (linkAt_disableLink ..).trans ?_
      simp only [true_and]
      rfl

theorem linkAt_setInput_ne (f : LinkFields) (s : State) (h : n ≠ m) : linkAt m (setInput f s n) = linkAt m s := by
  unfold setInput
  split
  · rfl
  · split
    · exact (linkAt_enableLink ..).trans (if_neg h)
    · exact (linkAt_disableLink ..).trans (if_neg fun a => h a.1)

/-- An input link item leaves all but the receivers, and the entries on other elements. -/
theorem besidesLinks_setInput (f : LinkFields) (s : State) (n : Fin 4) : besidesLinks (setInput f s n) = besidesLinks s := by
  unfold setInput enableLink disableLink
  repeat' split
  any_goals rfl
  exact besidesLinks_writeLink ..

theorem setInput_clock (f : LinkFields) (s : State) (n : Fin 4) : (setInput f s n).links.clock = s.links.clock := by
  unfold setInput enableLink disableLink
  repeat' split
  any_goals rfl
  exact directWrite_clock ..

theorem setInput_outputs (f : LinkFields) (s : State) (n : Fin 4) : (setInput f s n).links.outputs = s.links.outputs := by
  unfold setInput enableLink disableLink
  repeat' split
  any_goals rfl
  exact directWrite_outputs ..

theorem entry_setInput {el : Element} (h : ∀ n, el ≠ .link n) (f : LinkFields) (s : State) (n : Fin 4) :
    (setInput f s n).entry? el = s.entry? el := by
  unfold setInput enableLink disableLink
  repeat' split
  any_goals rfl
  rw [entry_directWrite, if_neg (h n), modReceiver_entry]

/-- What an output link item makes of an output link (R156). -/
def outputAfter (v : Option Nat) (x : OutLink) : OutLink :=
  match v with
  | none => x
  | some v => { x with waitingEnable := if isOn v = x.enable then none else some (isOn v) }

theorem setOutput_output (f : LinkFields) (s : State) (n m : Fin 4) :
    (setOutput f s n).output m = if n = m then outputAfter (f.outputs.get m) (s.output m) else s.output m := by
  unfold setOutput
  by_cases h : n = m
  · subst h
    rw [if_pos rfl]
    cases f.outputs.get n with
    | none => rfl
    | some v => exact (modOutput_output ..).trans (if_pos rfl)
  · rw [if_neg h]
    split
    · rfl
    · exact (modOutput_output ..).trans (if_neg h)

/-- The state but for the output links. -/
def besidesOutputs (s : State) : State := { s with links := { s.links with outputs := Table.replicate 4 {} } }

theorem besidesOutputs_setOutput (f : LinkFields) (s : State) (n : Fin 4) :
    besidesOutputs (setOutput f s n) = besidesOutputs s := by
  unfold setOutput
  split <;> rfl

/-- What the items of LINK_SET make of the state. -/
structure LinksApplied (f : LinkFields) (s t : State) : Prop where
  inputs : ∀ n, linkAt n t = inputAfter (f.inputs.get n) (linkAt n s)
  outputs : ∀ n, t.output n = outputAfter (f.outputs.get n) (s.output n)
  clock : t.links.clock = { s.links.clock with monitor := (f.monitor.map isOn).getD s.links.clock.monitor }
  entries : ∀ el, (∀ n, el ≠ .link n) → t.entry? el = s.entry? el
  aside : besidesLinks t = besidesLinks s

theorem linksApplied (f : LinkFields) (s : State) : LinksApplied f s (applyLinks f s) := by
  have inputs := fun n => foldl_once (get := linkAt n) (fun u => linkAt_setInput f u n)
    (fun u j _ h => linkAt_setInput_ne f u h) (List.nodup_finRange 4) s
  have entries := fun el hel => foldl_keeps (fun u => u.entry? el) (entry_setInput (el := el) hel f) (List.finRange 4) s
  have clock := foldl_keeps (fun u => u.links.clock) (setInput_clock f) (List.finRange 4) s
  have outs := foldl_keeps (fun u => u.links.outputs) (setInput_outputs f) (List.finRange 4) s
  have aside := foldl_keeps besidesLinks (besidesLinks_setInput f) (List.finRange 4) s
  simp only [applyLinks]
  generalize (List.finRange 4).foldl (setInput f) s = v at *
  have outputs := fun n => foldl_once (f := setOutput f) (get := fun u => u.output n) (i := n)
    (g := outputAfter (f.outputs.get n)) (fun u => (setOutput_output f u n n).trans (if_pos rfl))
    (fun u j _ h => (setOutput_output f u j n).trans (if_neg h)) (List.nodup_finRange 4) v
  have same := foldl_keeps besidesOutputs (besidesOutputs_setOutput f) (List.finRange 4) v
  generalize (List.finRange 4).foldl (setOutput f) v = w at *
  have monitor : besidesLinks (setClockMonitor f w) = besidesLinks w ∧ (setClockMonitor f w).links.clock =
      { w.links.clock with monitor := (f.monitor.map isOn).getD w.links.clock.monitor } ∧
      (setClockMonitor f w).links.receivers = w.links.receivers ∧ (setClockMonitor f w).links.outputs = w.links.outputs ∧
      (setClockMonitor f w).fades = w.fades := by
    unfold setClockMonitor
    cases f.monitor <;> exact ⟨rfl, rfl, rfl, rfl, rfl⟩
  generalize setClockMonitor f w = t at *
  obtain ⟨rest, set, receivers, outputs', fades⟩ := monitor
  have entry := entry_congr (fades.trans (congrArg (fun x => x.fades) same))
  have sameReceivers : t.links.receivers = v.links.receivers := receivers.trans (congrArg (fun x => x.links.receivers) same)
  have sameClock : w.links.clock = s.links.clock := (congrArg (fun x => x.links.clock) same).trans clock
  refine ⟨fun n => ?_, fun n => ?_, by rw [set, sameClock], fun el hel => (entry el).trans (entries el hel),
    rest.trans ((congrArg besidesLinks same).trans aside)⟩
  · refine Eq.trans ?_ ((inputs n).trans (if_pos (List.mem_finRange n)))
    exact Prod.ext (congrArg (fun x => x.get n) sameReceivers) (entry _)
  · have start : v.output n = s.output n := congrArg (fun x => x.get n) outs
    refine (congrArg (fun x => x.get n) outputs').trans ((outputs n).trans ?_)
    rw [if_pos (List.mem_finRange n), start]

/-- Every selected input is turned on or off. -/
theorem entry_inputAfter (values : linkValuesOk f = true) (n : Fin 4) (x : Receiver × Option FadeEntry) :
    (inputAfter (f.inputs.get n) x).2 = if f.inputs.get n = some 0 ∧ x.1.enable = true then none else x.2 := by
  have fits : optOk onOffOk (f.inputs.get n) = true := by
    simp only [linkValuesOk, Bool.and_eq_true] at values
    obtain ⟨⟨⟨-, inputs⟩, -⟩, -⟩ := values
    exact List.all_eq_true.1 inputs _ (List.get_mem ..)
  cases hv : f.inputs.get n with
  | none => simp [inputAfter]
  | some v =>
    rw [hv] at fits
    have range : v ≤ 1 := by simpa [optOk, onOffOk] using fits
    obtain rfl | rfl : v = 0 ∨ v = 1 := by omega
    · simp only [inputAfter, show isOn 0 = false from rfl, Bool.false_eq_true, if_false, true_and]
      split <;> rfl
    · simp [inputAfter, isOn]

theorem linkSet_ok (values : linkValuesOk f = true) : linkSet f s = .ok (linkSetFields (applyLinks f s), applyLinks f s) := by
  simp only [linkSet, values, require_true, ok_bind]

/-! ## SLOT_MAP_SET (R157) -/

/-- A map entry that waits. -/
def waitsAt (n : Fin 4) (k : Fin 16) (s : State) : Option SlotSource := (s.output n).waitingSlots.get k

theorem setMapSlot_output (s : State) (i : Fin 4 × Fin 16 × SlotSource) (n : Fin 4) :
    (setMapSlot s i).output n =
      if i.1 = n then { s.output n with waitingSlots := (s.output n).waitingSlots.set i.2.1 (some i.2.2) } else s.output n :=
  modOutput_output ..

theorem waitsAt_setMapSlot (n : Fin 4) (k : Fin 16) (src : SlotSource) (s : State) :
    waitsAt n k (setMapSlot s (n, k, src)) = some src := by
  rw [waitsAt, setMapSlot_output, if_pos rfl]
  exact Table.get_set_self ..

theorem waitsAt_setMapSlot_ne {k : Fin 16} {i : Fin 4 × Fin 16 × SlotSource} (h : (i.1, i.2.1) ≠ (n, k)) (s : State) :
    waitsAt n k (setMapSlot s i) = waitsAt n k s := by
  rw [waitsAt, setMapSlot_output]
  split
  · exact Table.get_set_ne _ _ fun e => h (Prod.ext ‹_› e)
  · rfl

/-- The items of a request, as its payload names them. -/
def slotItem (i : Fin 4 × Fin 16 × SlotSource) : SlotItem := ⟨num i.1, num i.2.1, slotSourceNum i.2.2⟩

theorem slotSourceOf_num (x : SlotSource) : slotSourceOf (slotSourceNum x) = some x := by
  cases x with
  | none | relay | trigger => rfl
  | programme b => revert b; decide
  | mix f => revert f; decide
  | station n => revert n; decide

theorem slotTarget_item {i : Fin 4 × Fin 16 × SlotSource} (h : i.2.2 = .trigger → i.1 = 3 ∧ i.2.1 = 15) :
    slotTarget (slotItem i) = some i := by
  have fits : triggerFits i.1 i.2.1 i.2.2 = true := by
    by_cases trigger : i.2.2 = .trigger
    · simp [triggerFits, h trigger]
    · simp [triggerFits, trigger]
  simp only [slotTarget, slotItem, idx_num, Option.bind_some, slotSourceOf_num, fits, if_true]

theorem slotTargets_items {items : List (Fin 4 × Fin 16 × SlotSource)}
    (h : ∀ i ∈ items, i.2.2 = .trigger → i.1 = 3 ∧ i.2.1 = 15) : slotTargets (items.map slotItem) = some items := by
  induction items with
  | nil => rfl
  | cons i rest ih =>
    rw [List.map_cons, slotTargets, slotTarget_item (h i List.mem_cons_self),
      ih fun j hj => h j (List.mem_cons_of_mem i hj)]
    rfl

theorem slotMapSet_ok {items : List (Fin 4 × Fin 16 × SlotSource)} (some : 1 ≤ items.length) (few : items.length ≤ 64)
    (differ : (items.map (fun i => (i.1, i.2.1))).Nodup) (fits : ∀ i ∈ items, i.2.2 = .trigger → i.1 = 3 ∧ i.2.1 = 15) :
    slotMapSet (items.map slotItem) s = .ok ([], items.foldl setMapSlot s) := by
  have indices : (items.map slotItem).all slotItemIndexOk = true := by
    simp only [List.all_map, List.all_eq_true]
    intro i _
    simp [slotItemIndexOk, slotItem, idx_num, slotSourceOf_num]
  have length : decide (1 ≤ (items.map slotItem).length ∧ (items.map slotItem).length ≤ 64) = true := by
    simp [some, few]
  simp only [slotMapSet, indices, length, require_true, slotTargets_items fits, need_some, ok_bind, distinct_of_nodup differ]

end Sys2Proof.Machine

open Sys2Proof Sys2Proof.Machine

/-- Settles O58. -/
theorem linksSet : Obligations.LinksSet := by
  unfold Obligations.LinksSet
  refine ⟨fun f s h values => ?_, fun items s h some few differ fits => ?_⟩
  · have ok := linkSet_ok (s := s) values
    obtain ⟨inputs, outputs, clock, entries, aside⟩ := linksApplied f s
    generalize applyLinks f s = u at *
    have receiver := fun n => congrArg Prod.fst (inputs n)
    have entry := fun n => congrArg Prod.snd (inputs n)
    refine ⟨_, next_answered h ok, fun n none => ?_, fun n on => ?_, fun n off runs => ?_, fun n off idle => ?_, fun n => ?_,
      clock, fun el => ?_, rfl, congrArg (fun x => x.attention) aside, ?_⟩
    · have := inputs n
      rw [none] at this
      exact ⟨congrArg Prod.fst this, congrArg Prod.snd this⟩
    · have := receiver n
      rw [on] at this
      exact this
    · have := inputs n
      rw [off, inputAfter, if_neg (by decide), if_pos (show (linkAt n s).1.enable = true from runs)] at this
      exact ⟨congrArg Prod.snd this, congrArg Prod.fst this⟩
    · have := receiver n
      rw [off, inputAfter, if_neg (by decide), if_neg (show ¬(linkAt n s).1.enable = true by simp [linkAt, idle])] at this
      exact this
    · refine (outputs n).trans ?_
      cases f.outputs.get n <;> rfl
    · by_cases link : ∃ n, el = .link n
      · obtain ⟨n, rfl⟩ := link
        refine (entry n).trans ?_
        have same : (∃ m, Element.link n = .link m ∧ f.inputs.get m = some 0 ∧ (s.receiver m).enable = true) ↔
            f.inputs.get n = some 0 ∧ (s.receiver n).enable = true :=
          ⟨fun ⟨m, e, h⟩ => Element.link.inj e ▸ h, fun h => ⟨n, rfl, h⟩⟩
        rw [if_congr same rfl rfl, entry_inputAfter values]
        rfl
      · have other := fun n e => link ⟨n, e⟩
        refine (entries el other).trans ?_
        rw [if_neg fun ⟨n, e, _⟩ => other n e]
    · exact congrArg (fun x => { x with
        links := u.links, fades := u.fades, engine := { x.engine with slots := u.engine.slots }
        port := (answered 56 (linkSetFields u) u).port }) aside
  · have ok := slotMapSet_ok (s := s) some few differ fits
    have member := fun n k src (mem : (n, k, src) ∈ items) => foldl_at (get := waitsAt n k) mem (List.Nodup.of_map _ differ)
      (fun u j hj ne => waitsAt_setMapSlot_ne (fun same => ne (List.inj_on_of_nodup_map differ hj mem same)) u) s
    have other := fun n k (absent : (n, k) ∉ items.map (fun i => (i.1, i.2.1))) => foldl_stands (get := waitsAt n k)
      (fun u i hi => waitsAt_setMapSlot_ne (fun same => absent (same ▸ List.mem_map_of_mem hi)) u) s
    have rest := fun n => foldl_keeps (f := setMapSlot) (fun u => { u.output n with waitingSlots := Table.replicate 16 none })
      (fun u i => by dsimp only; rw [setMapSlot_output]; split <;> rfl) items s
    have same := foldl_keeps besidesOutputs (f := setMapSlot) (fun _ _ => rfl) items s
    generalize items.foldl setMapSlot s = u at *
    refine ⟨_, next_answered h ok, fun n k src mem => ?_, fun n k absent => other n k absent, fun n => ?_, ?_⟩
    · obtain ⟨v, -, e⟩ := member n k src mem
      exact e.trans (waitsAt_setMapSlot ..)
    · exact (congrArg (fun x => { x with waitingSlots := (u.output n).waitingSlots }) (rest n))
    · exact congrArg (fun x => answered 58 [] { x with links := { x.links with outputs := u.links.outputs } }) same
end

section
/-! The receivers, the output links and the frame clock between frames (9.1, 9.2, 9.4). -/

namespace Sys2Proof.Machine

variable {s t u : State} {n m : Fin 4}

/-- An event outside an end that has begun leaves what its function does. -/
theorem event_eq {f : State → State} (live : s.inReset = false) (whole : s.ending.begun = false) (h : f s = t) :
    event f s = .next t := by
  rw [event_ok live whole, h]

/-! ## Receivers (R152, R153, R155) -/

/-- A receiver that is receiving stands as a partial frame is discarded (R152). -/
theorem partialDiscard_stands (n : Fin 4) (runs : (s.receiver n).receiving = true) : partialDiscard n s = s := by
  have same : s.links.receivers.modify n (fun x : Receiver => { x with receiving := true }) = s.links.receivers := by
    refine Table.ext_get fun m => ?_
    rw [Table.get_modify]
    split
    · subst_vars
      show { s.receiver m with receiving := true } = s.receiver m
      rw [← runs]
    · rfl
  unfold partialDiscard
  split
  · rw [State.modReceiver, same]
  · rfl

theorem fadeRequest_link_receiver (n m : Fin 4) (z : Int) (d : Nat) (o : FadeOwner) (s : State) :
    (fadeRequest (.link n) z d o s).2.receiver m =
      if n = m then { s.receiver m with ramp := ((fadeRequest (.link n) z d o s).2.receiver m).ramp } else s.receiver m := by
  have write : ∀ z, (directWrite (.link n) z s).receiver m =
      if n = m then { s.receiver m with ramp := ((directWrite (.link n) z s).receiver m).ramp } else s.receiver m := fun z => by
    rw [writeLink_receiver]
    split <;> rfl
  have same : s.receiver m = if n = m then { s.receiver m with ramp := (s.receiver m).ramp } else s.receiver m := by
    split <;> rfl
  rcases fadeRequest_cases (.link n) z d o s with e | e | ⟨_, _, e⟩ | ⟨_, e⟩ | e <;> rw [e]
  · exact same
  · exact write _
  · simp [State.receiver]
  · simp [State.receiver]
  · exact write _

theorem fadeRequest_link_table (n : Fin 4) (z : Int) (d : Nat) (o : FadeOwner) (s : State) :
    (fadeRequest (.link n) z d o s).2.table = s.table := by
  have write : ∀ z, (directWrite (.link n) z s).table = s.table := fun z => removeEntry_table (.link n) s
  rcases fadeRequest_cases (.link n) z d o s with e | e | ⟨_, _, e⟩ | ⟨_, e⟩ | e <;> rw [e]
  · exact write _
  · simp
  · simp
  · exact write (elemClamp (.link n) z)

theorem lockLink_receiver (n m : Fin 4) (s : State) :
    (lockLink n s).receiver m =
      if n = m then { s.receiver m with state := .locked, missed := 0, ramp := ((lockLink n s).receiver m).ramp }
      else s.receiver m := by
  refine (fadeRequest_link_receiver n m 0 20 .system _).trans ?_
  rw [modReceiver_receiver]
  split <;> rfl

theorem lockLink_entry (ramp : (s.receiver n).ramp ≠ 0) (place : s.fades.length < 128) :
    (lockLink n s).entry? (.link n) = some ⟨.link n, .system, (s.receiver n).ramp, 0, 20, 0⟩ := by
  have value : (s.modReceiver n fun x => { x with state := .locked, missed := 0 }).value? (.link n) =
      some (s.receiver n).ramp := by
    rw [State.value?, modReceiver_receiver, if_pos rfl]
  exact (fadeRequest_fading (el := .link n) (z := 0) (o := .system) value (d := 20) (by decide) (Ne.symm ramp) (.inr place)).2.1.1

/-- What is said of a link whose change has been raised (R155). -/
theorem raiseLinkChange_raised (n : Fin 4) (s : State) :
    (raiseLinkChange n s).attention.flags = s.attention.flags ||| 0x10#16 ∧
      inSet (raiseLinkChange n s).attention.details.links n = true := by
  refine ⟨rfl, ?_⟩
  show inSet (s.attention.details.links ||| only n) n = true
  rw [inSet_or, inSet_only]
  simp

/-- The receiver after a link frame has come (R152, R155): what its state says, the others standing. -/
theorem linkArrival_receiver (n m : Fin 4) (samples : Table Int 16) (s : State) :
    (linkArrival n samples s).receiver m =
      if n = m then { takeFrame samples (s.receiver m) with
        state := ((linkArrival n samples s).receiver m).state
        missed := ((linkArrival n samples s).receiver m).missed
        ramp := ((linkArrival n samples s).receiver m).ramp }
      else s.receiver m := by
  have taken : (s.modReceiver n (takeFrame samples)).receiver m =
      if n = m then takeFrame samples (s.receiver m) else s.receiver m := modReceiver_receiver ..
  have plain : (s.modReceiver n (takeFrame samples)).receiver m =
      if n = m then { takeFrame samples (s.receiver m) with
        state := ((s.modReceiver n (takeFrame samples)).receiver m).state
        missed := ((s.modReceiver n (takeFrame samples)).receiver m).missed
        ramp := ((s.modReceiver n (takeFrame samples)).receiver m).ramp }
      else s.receiver m := by
    rw [taken]
    split <;> rfl
  have locks : (lockLink n (s.modReceiver n (takeFrame samples))).receiver m =
      if n = m then { takeFrame samples (s.receiver m) with
        state := ((lockLink n (s.modReceiver n (takeFrame samples))).receiver m).state
        missed := ((lockLink n (s.modReceiver n (takeFrame samples))).receiver m).missed
        ramp := ((lockLink n (s.modReceiver n (takeFrame samples))).receiver m).ramp }
      else s.receiver m := by
    rw [lockLink_receiver, taken]
    split <;> rfl
  unfold linkArrival
  cases (s.receiver n).state with
  | waitSync | lost => exact locks
  | locked | disabled => exact plain

theorem linkArrival_locks (samples : Table Int 16) (waits : (s.receiver n).state = .waitSync ∨ (s.receiver n).state = .lost) :
    linkArrival n samples s = lockLink n (s.modReceiver n (takeFrame samples)) := by
  unfold linkArrival
  rcases waits with h | h <;> rw [h]

theorem linkArrival_locked (samples : Table Int 16) (locked : (s.receiver n).state = .locked) :
    linkArrival n samples s = s.modReceiver n (takeFrame samples) := by
  unfold linkArrival
  rw [locked]

theorem linkArrival_table (n : Fin 4) (samples : Table Int 16) (s : State) : (linkArrival n samples s).table = s.table := by
  unfold linkArrival
  cases (s.receiver n).state with
  | waitSync | lost => exact fadeRequest_link_table ..
  | locked | disabled => rfl

theorem linkArrival_clock (n : Fin 4) (samples : Table Int 16) (s : State) :
    (linkArrival n samples s).links.clock = s.links.clock := by
  unfold linkArrival
  cases (s.receiver n).state with
  | waitSync | lost => exact fadeRequest_clock ..
  | locked | disabled => rfl

theorem loseLink_receiver (n m : Fin 4) (s : State) :
    (loseLink n s).receiver m =
      if n = m then { s.receiver m with state := .lost, held := Table.replicate 16 0, missed := 0, ramp := off }
      else s.receiver m := by
  show (directWrite (.link n) off _).receiver m = _
  rw [writeLink_receiver, modReceiver_receiver]
  split <;> rfl

theorem loseLink_entry (n : Fin 4) (s : State) (el : Element) :
    (loseLink n s).entry? el = if el = .link n then none else s.entry? el := by
  show (directWrite (.link n) off _).entry? el = _
  rw [entry_directWrite, modReceiver_entry]

theorem loseLink_attention (n : Fin 4) (s : State) : (loseLink n s).attention = (raiseLinkChange n s).attention := by
  rw [loseLink, raiseLinkChange, State.raise]
  simp only [directWrite_attention]
  rfl

theorem linkSpent_iff (x : Receiver) : linkSpent x = true ↔ x.state = .locked ∧ x.newest = none ∧ 4 ≤ x.missed := by
  simp only [linkSpent, Bool.and_eq_true, decide_eq_true_eq, Option.isNone_iff_eq_none, and_assoc]
  exact Iff.rfl

/-! ## Output links (R156 to R158) -/

theorem contains_trigger (t : Table SlotSource 16) : t.rows.contains .trigger = true ↔ ∃ k, t.get k = .trigger := by
  rw [List.contains_iff_mem, List.mem_iff_get]
  refine ⟨fun ⟨i, h⟩ => ⟨⟨i.1, i.2.trans_eq t.size⟩, h⟩, fun ⟨k, h⟩ => ⟨⟨k.1, k.2.trans_eq t.size.symm⟩, h⟩⟩

/-- The words an output link sends (R157, R158). -/
def wordsOf (x : OutLink) (s : State) : Table (Option SlotWord) 16 :=
  if x.enable then x.slots.map (slotOutput s.mixer.out (s.engine.triggers.headD 0)) else Table.replicate 16 none

theorem sendFrame_eq (n : Fin 4) (s : State) :
    sendFrame n s =
      let x := applyWaiting (s.output n)
      let t := s.modOutput n (fun _ => { x with sent := wordsOf x s })
      if fillsTrigger x then t.modEngine (fun e => { e with triggers := e.triggers.tail }) else t := rfl

theorem sendFrame_output (n m : Fin 4) (s : State) :
    (sendFrame n s).output m =
      if n = m then { applyWaiting (s.output n) with sent := wordsOf (applyWaiting (s.output n)) s } else s.output m := by
  rw [sendFrame_eq]
  dsimp only
  split <;> exact modOutput_output ..

theorem sendFrame_engine (n : Fin 4) (s : State) :
    (sendFrame n s).engine = if fillsTrigger (applyWaiting (s.output n)) then
      { s.engine with triggers := s.engine.triggers.tail } else s.engine := by
  rw [sendFrame_eq]
  dsimp only
  split <;> rfl

theorem besides_sendFrame (n : Fin 4) (s : State) :
    { besidesOutputs (sendFrame n s) with engine := s.engine } = besidesOutputs s := by
  rw [sendFrame_eq]
  dsimp only
  split <;> rfl

/-! ## The frame clock (R147, R149, R150) -/

theorem paused_iff (s : State) : paused s = true ↔ s.links.clock.source = .wck ∧ 3 ≤ s.links.clock.wckAge := by
  simp only [paused, wckPresent, Bool.and_eq_true, decide_eq_true_eq, Bool.not_eq_true', decide_eq_false_iff_not, not_lt]
  exact Iff.rfl

end Sys2Proof.Machine

open Sys2Proof Sys2Proof.Machine

/-- Settles O59. -/
theorem linksReceive : Obligations.LinksReceive := by
  unfold Obligations.LinksReceive
  intro n words s live whole
  refine ⟨fun on runs => ⟨event_eq live whole (partialDiscard_stands n runs), ?_⟩, fun on => ?_, fun runs locked empty missed => ?_⟩
  · have arrival : frameArrival n words s = linkArrival n (words.map wordSample) s := by simp [frameArrival, on, runs]
    have table := linkArrival_table n (words.map wordSample) s
    have clock := linkArrival_clock n (words.map wordSample) s
    have receiver := fun m => linkArrival_receiver n m (words.map wordSample) s
    have own := (receiver n).trans (if_pos rfl)
    refine ⟨_, event_eq live whole arrival, ⟨words.map wordSample, ?_, fun i => Table.get_map ..⟩,
      ?_, fun locked => ?_, fun waits => ?_, fun m hm => (receiver m).trans (if_neg (Ne.symm hm)), table, clock⟩
    · rw [own]
      rfl
    · rw [own]
      rfl
    · rw [linkArrival_locked _ locked, modReceiver_receiver, if_pos rfl]
      exact ⟨locked, rfl, rfl⟩
    · rw [linkArrival_locks _ waits, lockLink_receiver, if_pos rfl]
      obtain ⟨flags, links⟩ := raiseLinkChange_raised n (fadeRequest (.link n) 0 20 .system
        ((s.modReceiver n (takeFrame (words.map wordSample))).modReceiver n fun x => { x with state := .locked, missed := 0 })).2
      refine ⟨rfl, rfl, ?_, links, fun ramp free place => ?_⟩
      · refine (congrArg (fun x => x.getLsbD 4) flags).trans ?_
        simp
      · have same : ((s.modReceiver n (takeFrame (words.map wordSample))).receiver n).ramp = (s.receiver n).ramp := by
          rw [modReceiver_receiver, if_pos rfl]
          rfl
        rw [← same]
        exact lockLink_entry (s := s.modReceiver n (takeFrame (words.map wordSample))) (by rw [same]; exact ramp) place
  · have sync : frameSync n s = s.modReceiver n (fun x => { x with receiving := true }) := if_pos on
    exact ⟨_, event_eq live whole sync,
      (modReceiver_receiver s n (fun x => { x with receiving := true }) n).trans (if_pos rfl), rfl⟩
  · have spent : linkSpent (s.receiver n) = true := (linkSpent_iff _).2 ⟨locked, empty, missed.ge⟩
    have lost : linkLost n s = loseLink n s := by simp [linkLost, runs, spent]
    have attention := loseLink_attention n s
    obtain ⟨flags, links⟩ := raiseLinkChange_raised n s
    refine ⟨_, event_eq live whole lost, (loseLink_receiver ..).trans (if_pos rfl),
      (loseLink_entry ..).trans (if_pos rfl), by rw [attention]; exact links, by rw [attention]; exact flags,
      fun m hm => (loseLink_receiver ..).trans (if_neg (Ne.symm hm))⟩

/-- Settles O60. -/
theorem outputFramesAndClock : Obligations.OutputFramesAndClock := by
  unfold Obligations.OutputFramesAndClock
  refine ⟨fun s => ⟨paused_iff s, fun stopped => if_pos stopped, fun live stops => ⟨?_, fun whole n => ?_⟩, fun live runs => ?_⟩,
    fun n s live runs whole => ?_, fun s => ⟨fun h master => ?_, fun h slave wck => ?_, fun h slave internal => ?_,
      fun live whole waits => ⟨?_, ?_⟩, fun live whole slave wck monitor => ?_, fun live whole wck stays => ?_,
      fun idle => ⟨_, rfl, ?_⟩⟩⟩
  · simp [linkClocks, live, stops]
  · exact event_eq (f := fun s => if paused s then s else sendFrame n s) live whole (if_pos stops)
  · simp [linkClocks, live, runs]
  · have output := sendFrame_output n n s
    rw [if_pos rfl] at output
    have engine := sendFrame_engine n s
    have others := fun m (hm : m ≠ n) => (sendFrame_output n m s).trans (if_neg (Ne.symm hm))
    have frame := besides_sendFrame n s
    have ok : exec (.outputLinkFrame n) s = .next (sendFrame n s) :=
      event_eq (f := fun s => if paused s then s else sendFrame n s) live whole (if_neg (by rw [runs]; exact Bool.false_ne_true))
    generalize sendFrame n s = t at *
    have silent : (applyWaiting (s.output n)).enable = false → t.engine = s.engine := fun off => by
      rw [engine, fillsTrigger, off]
      rfl
    refine ⟨t, ok, by rw [output]; rfl, by rw [output]; rfl, fun k => ?_, fun off => ?_, fun on k => ?_, fun on trigger => ?_,
      fun none => ?_, others, ?_⟩
    · rw [output]
      exact ⟨Table.get_ofFn .., Table.get_replicate ..⟩
    · rw [output] at off ⊢
      refine ⟨fun k => ?_, silent off⟩
      show (wordsOf (applyWaiting (s.output n)) s).get k = _
      rw [wordsOf, off]
      exact Table.get_replicate ..
    · rw [output] at on ⊢
      show (wordsOf (applyWaiting (s.output n)) s).get k = _
      rw [wordsOf, if_pos on, Table.get_map]
      cases (applyWaiting (s.output n)).slots.get k <;> rfl
    · rw [output] at on trigger
      refine engine.trans (if_pos ?_)
      rw [fillsTrigger, Bool.and_eq_true]
      exact ⟨on, (contains_trigger _).2 trigger⟩
    · rw [output] at none
      refine engine.trans (if_neg fun fills => ?_)
      rw [fillsTrigger, Bool.and_eq_true] at fills
      obtain ⟨k, hk⟩ := (contains_trigger _).1 fills.2
      exact none k hk
    · exact congrArg (fun x => { x with links := { x.links with outputs := t.links.outputs }, engine := t.engine }) frame
  · refine next_refused h ?_
    simp only [clockReturn, master]
  · refine next_answered h ?_
    simp only [clockReturn, slave, wck]
  · have body : clockReturn s = if wckPresent s then .ok ([], s.modClock (fun x => { x with returnWaiting := true }))
        else .error .invalid := by simp only [clockReturn, slave, internal]
    by_cases present : s.links.clock.wckAge < 3
    · rw [if_pos present]
      exact next_answered h (body.trans (if_pos (decide_eq_true present)))
    · rw [if_neg present]
      exact next_refused h (body.trans (if_neg fun e => present (of_decide_eq_true e)))
  · exact event_eq live whole (if_pos waits)
  · exact event_eq live whole (if_pos waits)
  · have falls : fallsBack s = true := by simp [fallsBack, slave, wck, monitor]
    have body : fallback s = fallBack (markAbsent s) := by simp only [fallback, wck, falls, if_true]
    exact event_eq live whole body
  · have holds : fallsBack s = false := by rcases stays with h | h <;> simp [fallsBack, h]
    have body : fallback s = markAbsent s := by simp only [fallback, wck, holds, Bool.false_eq_true, if_false]
    exact event_eq live whole body
  · simp only [causeArrives, idle]
    rfl
end

section
/-! The arithmetic of a frame: the multiplier table, the thresholds, effective levels, and the terms of each destination
(chapter 2). -/

namespace Sys2Proof.Machine

variable {c m n : Nat} {q p : Int} {s : State}

/-! ## Rounding to the nearest integer (R32, R37) -/

theorem halfBelow_iff (c : Nat) (q : Int) (m : Nat) :
    halfBelow c q m = true ↔ (2 * m - 1) ^ 80 * 10 ^ (-q).toNat ≤ (2 * c) ^ 80 * 10 ^ q.toNat := decide_eq_true_iff

theorem halfBelow_zero (c : Nat) (q : Int) : halfBelow c q 0 = true := by
  rw [halfBelow_iff, Nat.mul_zero, Nat.zero_sub, Nat.zero_pow (by decide), Nat.zero_mul]
  exact Nat.zero_le _

theorem halfBelow_mono (le : m ≤ n) (h : halfBelow c q n = true) : halfBelow c q m = true := by
  rw [halfBelow_iff] at h ⊢
  exact (Nat.mul_le_mul_right _ (Nat.pow_le_pow_left (by omega) _)).trans h

/-- The search by halves ends at a number that passes, whose successor does not. -/
theorem nearestFrom_spec (b r : Nat) (low : halfBelow c q r = true) (high : halfBelow c q (r + 2 ^ b) = false) :
    halfBelow c q (nearestFrom c q b r) = true ∧ halfBelow c q (nearestFrom c q b r + 1) = false := by
  induction b generalizing r with
  | zero => exact ⟨low, high⟩
  | succ b ih =>
    rw [nearestFrom]
    split
    · refine ih _ ‹_› ?_
      rwa [Nat.add_assoc, ← Nat.two_mul, Nat.mul_comm, ← Nat.pow_succ]
    · exact ih r low (Bool.eq_false_iff.2 ‹_›)

/-- What is to be rounded stays below 2^26. -/
def capped (c : Nat) (q : Int) : Prop := halfBelow c q (2 ^ 26) = false

theorem nearest_spec (cap : capped c q) :
    halfBelow c q (nearest c q) = true ∧ halfBelow c q (nearest c q + 1) = false :=
  nearestFrom_spec 26 0 (halfBelow_zero c q) (by rw [Nat.zero_add]; exact cap)

/-- A number is at most the rounded one exactly when its half-step lies below what is rounded. -/
theorem le_nearest_iff (cap : capped c q) (m : Nat) : m ≤ nearest c q ↔ halfBelow c q m = true := by
  obtain ⟨low, high⟩ := nearest_spec cap
  refine ⟨fun le => halfBelow_mono le low, fun h => ?_⟩
  by_contra less
  exact absurd (halfBelow_mono (m := nearest c q + 1) (by omega) h) (by simp [high])

theorem roundsTo_nearest (cap : capped c q) : roundsTo (nearest c q) c q := by
  obtain ⟨low, high⟩ := nearest_spec cap
  refine ⟨(halfBelow_iff ..).1 low, ?_⟩
  have above := mt (halfBelow_iff ..).2 (Bool.eq_false_iff.1 high)
  rwa [Nat.not_le, show 2 * (nearest c q + 1) - 1 = 2 * nearest c q + 1 by omega] at above

theorem ten_pow_le {k : Nat} (n : Nat) (h : k ≤ 5 * n) : 10 ^ k ≤ (10 ^ 5) ^ n := by
  rw [← Nat.pow_mul]
  exact Nat.pow_le_pow_right (by decide) h

theorem nearest_pos (cap : capped c q) (low : -400 ≤ q) (hc : 10 ^ 5 ≤ 2 * c) : 0 < nearest c q := by
  refine (le_nearest_iff cap 1).2 ((halfBelow_iff ..).2 ?_)
  calc (2 * 1 - 1) ^ 80 * 10 ^ (-q).toNat
      = 10 ^ (-q).toNat := by rw [Nat.one_pow, Nat.one_mul]
    _ ≤ (10 ^ 5) ^ 80 := ten_pow_le 80 (by omega)
    _ ≤ (2 * c) ^ 80 := Nat.pow_le_pow_left hc _
    _ ≤ (2 * c) ^ 80 * 10 ^ q.toNat := Nat.le_mul_of_pos_right _ (Nat.pow_pos (by decide))

theorem capped_of (h : (2 * c) ^ 80 * 10 ^ q.toNat < (2 * 2 ^ 26 - 1) ^ 80) : capped c q := by
  refine decide_eq_false (Nat.not_le.2 (h.trans_le ?_))
  exact Nat.le_mul_of_pos_right _ (Nat.pow_pos (by decide))

theorem capped_gain (high : q ≤ 48) : capped 4194304 q := by
  refine capped_of (lt_of_le_of_lt (Nat.mul_le_mul_left _ (Nat.pow_le_pow_right (j := 48) (by decide) (by omega))) ?_)
  norm_num

theorem capped_threshold (high : q ≤ 0) : capped 8388608 q := by
  refine capped_of (lt_of_le_of_lt (Nat.mul_le_mul_left _ (Nat.pow_le_pow_right (j := 0) (by decide) (by omega))) ?_)
  norm_num

/-! ## Multipliers, thresholds and peak codes (R32, R37) -/

theorem gain_off (h : q ≤ -400) : gain q = 0 := if_pos h

theorem gain_nearest (h : -400 < q) : gain q = (nearest 4194304 q : Int) := if_neg (Int.not_le.2 h)

theorem gain_zero : gain 0 = 4194304 := by
  obtain ⟨low, high⟩ := roundsTo_nearest (capped_gain (q := 0) (by decide))
  rw [gain_nearest (by decide)]
  simp only [Int.neg_zero, Int.toNat_zero, Nat.pow_zero, Nat.mul_one] at low high
  have atMost := le_of_pow_le_pow_left₀ (by decide : 80 ≠ 0) (Nat.zero_le _) low
  have atLeast := lt_of_pow_lt_pow_left₀ 80 (Nat.zero_le _) high
  omega

theorem threshold_mono (le : q ≤ p) (high : p ≤ 0) : threshold q ≤ threshold p := by
  refine (le_nearest_iff (capped_threshold high) _).2 ?_
  have low := (halfBelow_iff ..).1 (nearest_spec (capped_threshold (le.trans high))).1
  rw [halfBelow_iff]
  rw [show q.toNat = 0 by omega] at low
  rw [show p.toNat = 0 by omega]
  exact (Nat.mul_le_mul_left _ (Nat.pow_le_pow_right (by decide) (by omega))).trans low

theorem threshold_pos (low : -400 ≤ q) (high : q ≤ 0) : 0 < threshold q :=
  nearest_pos (capped_threshold high) low (by decide)

/-- No code of the search is reached. -/
theorem peakFrom_below (k : Nat) (p : Int) (none : ∀ q, p - k < q → q ≤ p → m < threshold q) : peakFrom m k p = off := by
  induction k generalizing p with
  | zero => rfl
  | succ k ih =>
    rw [peakFrom, if_neg (Nat.not_le.2 (none p (by omega) (Int.le_refl p)))]
    exact ih (p - 1) fun q lo hi => none q (by omega) (by omega)

/-- The search finds a code that is reached while those above it are not. -/
theorem peakFrom_found (k : Nat) (p : Int) (reached : threshold q ≤ m) (above : ∀ x, q < x → x ≤ p → m < threshold x)
    (lo : p - k < q) (hi : q ≤ p) : peakFrom m k p = q := by
  induction k generalizing p with
  | zero => omega
  | succ k ih =>
    rw [peakFrom]
    by_cases same : q = p
    · rw [if_pos (same ▸ reached), same]
    · rw [if_neg (Nat.not_le.2 (above p (by omega) (Int.le_refl p)))]
      exact ih (p - 1) (fun x lo hi => above x lo (by omega)) (by omega) (by omega)

theorem peakCode_zero : peakCode 0 = -400 := if_pos rfl

theorem peakCode_below (h : m < threshold (-399)) : peakCode m = -400 := by
  unfold peakCode
  split
  · rfl
  · exact peakFrom_below 400 0 fun q lo hi => h.trans_le (threshold_mono (by omega) hi)

theorem peakCode_found (lo : -399 ≤ q) (hi : q ≤ 0) (reached : threshold q ≤ m) (top : q = 0 ∨ m < threshold (q + 1)) :
    peakCode m = q := by
  have some : m ≠ 0 := by have := threshold_pos (by omega : -400 ≤ q) hi; omega
  rw [peakCode, if_neg some]
  refine peakFrom_found 400 0 reached (fun x above le => ?_) (by omega) hi
  rcases top with zero | less
  · omega
  · exact less.trans_le (threshold_mono (by omega) le)

/-! ## From terms to a sample (R33) -/

theorem mixDown_eq (terms : List Term) :
    mixDown terms = max (-8388608) (min 8388607
      (Int.fdiv ((terms.map (fun x => x.sample * gain x.level)).sum + 2097152) 4194304)) := by
  rw [Int.fdiv_eq_ediv_of_nonneg _ (by decide)]
  rfl

theorem mixDown_silent {terms : List Term} (off : ∀ x ∈ terms, x.level = -400) : mixDown terms = 0 := by
  have zero : ∀ y ∈ terms.map (fun x => x.sample * gain x.level), y = 0 := by
    intro y hy
    obtain ⟨x, hx, rfl⟩ := List.mem_map.1 hy
    rw [off x hx, gain_off (by decide), Int.mul_zero]
  rw [mixDown, accumulate, List.sum_eq_zero zero]
  rfl

theorem mixDown_unity {x : Int} (lo : -8388608 ≤ x) (hi : x ≤ 8388607) : mixDown [⟨x, 0⟩] = x := by
  have shift : roundShift (x * 4194304) = x := by
    unfold roundShift
    omega
  simp only [mixDown, accumulate, List.map_cons, List.map_nil, List.sum_cons, List.sum_nil, Int.add_zero, gain_zero, shift,
    saturate, clampCode, lowest, highest]
  omega

theorem effective_eq (muted : Bool) (parts less : List Int) :
    effective muted parts less =
      if muted = true ∨ (-400 : Int) ∈ parts then -400 else max (-400) (min 48 (parts.sum - less.sum)) := by
  have test : (muted || parts.contains off) = true ↔ muted = true ∨ (-400 : Int) ∈ parts := by
    rw [Bool.or_eq_true, List.contains_iff_mem]
    rfl
  unfold effective
  exact if_congr test rfl rfl

/-! ## The terms (R24 to R30) -/

theorem optTerm_eq (c : Option (Fin 64)) (f : Fin 64 → Term) : optTerm c f = termsOf c f := by
  cases c <;> rfl

theorem groupTerm_eq (s : State) (g : Option (Fin 16)) : groupTerm s g = (g.map (fun g => (s.group g).level)).getD 0 := by
  cases g <;> rfl

theorem withPolarity_eq (p : Polarity) (x : Int) :
    withPolarity p x = match p with
      | .normal => x
      | .inverted => if x = -8388608 then 8388607 else -x := by
  cases p <;> rfl

theorem and_term {α : Type} (a b : Bool) (x y : α) :
    (if (a && b) = true then x else y) = if a = true ∧ b = true then x else y :=
  if_congr (Bool.and_eq_true ..).to_iff rfl rfl

theorem wordSample_range (w : SlotWord) : -8388608 ≤ wordSample w ∧ wordSample w ≤ 8388607 := by
  have low := BitVec.le_toInt (w.extractLsb' 8 24)
  have high := BitVec.toInt_lt (x := w.extractLsb' 8 24)
  unfold wordSample
  omega

end Sys2Proof.Machine

open Sys2Proof Sys2Proof.Machine

/-- Settles O25. -/
theorem frameArithmetic : Obligations.FrameArithmetic := by
  unfold Obligations.FrameArithmetic
  refine ⟨gain_off (by decide), fun q lo hi => ?_, fun q lo hi => roundsTo_nearest (capped_threshold hi), peakCode_zero,
    fun m h => peakCode_below h, fun m q lo hi reached top => peakCode_found lo hi reached top,
    fun g h c s live due runs fresh => ⟨_, exec_controlIntervalEnd live due runs, fun i => ?_⟩, mixDown_eq,
    fun terms off => mixDown_silent off, fun x lo hi => mixDown_unity lo hi, fun input s => ?_, effective_eq,
    fun input s bus rly => ?_, wordSample_range⟩
  · rw [gain_nearest (by omega), Int.toNat_natCast]
    exact ⟨Int.ofNat_lt.2 (nearest_pos (capped_gain hi) (by omega) (by decide)), roundsTo_nearest (capped_gain hi)⟩
  · rw [(intervalEnd_limits g h c s).1]
    exact (((takePeaks_mixer s).2 fresh).2 i).1
  · exact ⟨fun b => Table.get_ofFn .., fun f => Table.get_ofFn .., rfl, fun n => Table.get_ofFn ..⟩
  · intro raw voice group
    have voices : channelTerm input s = voice := by
      funext c parts less
      exact congrArg (fun x => Term.mk x _) (withPolarity_eq (s.channel c).polarity (raw c))
    have groups : groupTerm s = group := funext (groupTerm_eq s)
    refine ⟨fun c => ⟨rfl, rfl⟩, fun b => ?_, fun f => ?_, ?_, fun n => ?_⟩
    · refine congrArg₂ (· ++ ·) (congrArg (List.flatMap · _) (funext fun r => ?_)) (congrArg (List.flatMap · _) (funext fun c => ?_))
      · simp only [roleBusTerms, voices, groups, optTerm_eq, and_term]
      · simp only [directBusTerms, voices, groups, and_term, decide_eq_true_eq]
    · refine congrArg₂ (· ++ ·) (congrArg (List.flatMap · _) (funext fun e => ?_)) (congrArg (List.flatMap · _) (funext fun i => ?_))
      · obtain ⟨src, z⟩ := e
        cases src <;> simp only [entryTerms, voices, optTerm_eq]
      · simp only [talkbackTerms, voices, optTerm_eq, and_term]
    · simp only [relayTerms, voices, optTerm_eq]
      cases s.relay.selection with
      | main =>
        refine congrArg (List.map · _) (funext fun e => ?_)
        obtain ⟨src, z⟩ := e
        cases src <;> simp only [relayEntryTerm, voices]
      | backup => rfl
    · refine congrArg (List.append _) ?_
      simp only [callTerms, voices, optTerm_eq]
      cases s.relay.active with
      | none => rfl
      | some a => exact (List.append_nil _).symm
end

section
/-! A frame (2.5, 2.6, 9.1, 9.2). -/

namespace Sys2Proof.Machine

variable {s t u : State} {n m : Fin 4} {edge : Bool}

/-! ## The receivers at a frame (R153) -/

/-- A receiver after a frame: the last column of R153. -/
def movedOn (x : Receiver) : Receiver :=
  if x.state = .locked then
    match x.newest with
    | some f => { x with held := f, newest := none, missed := 0 }
    | none =>
      if linkSpent x then { x with state := .lost, held := Table.replicate 16 0, missed := 0, ramp := off }
      else { x with missed := x.missed + 1 }
  else x

/-- What a frame does to a receiver, by the cases of R153. -/
inductive Advance (n : Fin 4) (s : State) : Receiver → State → Prop where
  | idle (other : (s.receiver n).state ≠ .locked) : Advance n s (s.receiver n) s
  | takes (f : Table Int 16) (locked : (s.receiver n).state = .locked) (newest : (s.receiver n).newest = some f) :
      Advance n s { s.receiver n with held := f, newest := none, missed := 0 }
        (s.modReceiver n (fun x => { x with held := f, newest := none, missed := 0 }))
  | bridges (locked : (s.receiver n).state = .locked) (newest : (s.receiver n).newest = none)
      (missed : (s.receiver n).missed < 4) :
      Advance n s { s.receiver n with missed := (s.receiver n).missed + 1 }
        (s.modReceiver n (fun x => { x with missed := x.missed + 1 }))
  | loses (locked : (s.receiver n).state = .locked) (newest : (s.receiver n).newest = none)
      (missed : 4 ≤ (s.receiver n).missed) :
      Advance n s { s.receiver n with state := .lost, held := Table.replicate 16 0, missed := 0, ramp := off }
        (loseLink n s)

theorem advance_cases (n : Fin 4) (s : State) : Advance n s (movedOn (s.receiver n)) (advanceReceiver n s) := by
  by_cases locked : (s.receiver n).state = .locked
  · cases newest : (s.receiver n).newest with
    | some f =>
      have moved : movedOn (s.receiver n) = { s.receiver n with held := f, newest := none, missed := 0 } := by
        simp only [movedOn, locked, if_true, newest]
      have state : advanceReceiver n s = s.modReceiver n (fun x => { x with held := f, newest := none, missed := 0 }) := by
        simp only [advanceReceiver, locked, newest]
      rw [moved, state]
      exact .takes f locked newest
    | none =>
      by_cases spent : linkSpent (s.receiver n) = true
      · have moved : movedOn (s.receiver n) =
            { s.receiver n with state := .lost, held := Table.replicate 16 0, missed := 0, ramp := off } := by
          simp only [movedOn, locked, if_true, newest, spent]
        have state : advanceReceiver n s = loseLink n s := by simp only [advanceReceiver, locked, newest, spent, if_true]
        rw [moved, state]
        exact .loses locked newest ((linkSpent_iff _).1 spent).2.2
      · have moved : movedOn (s.receiver n) = { s.receiver n with missed := (s.receiver n).missed + 1 } := by
          simp only [movedOn, locked, if_true, newest, if_neg spent]
        have state : advanceReceiver n s = s.modReceiver n (fun x => { x with missed := x.missed + 1 }) := by
          simp only [advanceReceiver, locked, newest, if_neg spent]
        rw [moved, state]
        exact .bridges locked newest (not_le.1 fun full => spent ((linkSpent_iff _).2 ⟨locked, newest, full⟩))
  · have moved : movedOn (s.receiver n) = s.receiver n := if_neg locked
    have state : advanceReceiver n s = s := by
      unfold advanceReceiver
      dsimp only
      split
      · exact absurd ‹_› locked
      all_goals rfl
    rw [moved, state]
    exact .idle locked

theorem advanceReceiver_spent (spent : linkSpent (s.receiver n) = true) : advanceReceiver n s = loseLink n s := by
  obtain ⟨locked, empty, -⟩ := (linkSpent_iff _).1 spent
  simp only [advanceReceiver, locked, empty, spent, if_true]

theorem advanceReceiver_stays (stays : linkSpent (s.receiver n) = false) :
    advanceReceiver n s = s ∨ ∃ f : Receiver → Receiver, advanceReceiver n s = s.modReceiver n f := by
  have way := advance_cases n s
  generalize movedOn (s.receiver n) = x, advanceReceiver n s = t at *
  cases way with
  | idle => exact .inl rfl
  | takes | bridges => exact .inr ⟨_, rfl⟩
  | loses locked newest missed => exact absurd ((linkSpent_iff _).2 ⟨locked, newest, missed⟩) (by simp [stays])

theorem advanceReceiver_receiver (n m : Fin 4) (s : State) :
    (advanceReceiver n s).receiver m = if n = m then movedOn (s.receiver m) else s.receiver m := by
  have way := advance_cases n s
  by_cases same : n = m
  · subst same
    rw [if_pos rfl]
    generalize movedOn (s.receiver n) = x, advanceReceiver n s = t at *
    cases way with
    | idle => rfl
    | takes | bridges => exact (modReceiver_receiver ..).trans (if_pos rfl)
    | loses => exact (loseLink_receiver ..).trans (if_pos rfl)
  · rw [if_neg same]
    generalize movedOn (s.receiver n) = x, advanceReceiver n s = t at *
    cases way with
    | idle => rfl
    | takes | bridges => exact (modReceiver_receiver ..).trans (if_neg same)
    | loses => exact (loseLink_receiver ..).trans (if_neg same)

theorem advanceReceiver_entry (n : Fin 4) (s : State) (el : Element) :
    (advanceReceiver n s).entry? el = if el = .link n ∧ linkSpent (s.receiver n) = true then none else s.entry? el := by
  cases spent : linkSpent (s.receiver n) with
  | true =>
    rw [advanceReceiver_spent spent, loseLink_entry]
    simp only [and_true]
  | false =>
    rw [if_neg (by simp)]
    rcases advanceReceiver_stays spent with e | ⟨f, e⟩ <;> rw [e]
    rfl

theorem advanceReceiver_attention (n : Fin 4) (s : State) :
    (advanceReceiver n s).attention =
      if linkSpent (s.receiver n) = true then (raiseLinkChange n s).attention else s.attention := by
  cases spent : linkSpent (s.receiver n) with
  | true => rw [advanceReceiver_spent spent, loseLink_attention, if_pos rfl]
  | false =>
    rw [if_neg (by simp)]
    rcases advanceReceiver_stays spent with e | ⟨f, e⟩ <;> rw [e]
    rfl

/-- The state but for the receivers, the fade table, the slots, and what is raised. -/
def besidesReceivers (s : State) : State :=
  { besidesFades s with links := { s.links with receivers := Table.replicate 4 {} } }

theorem besidesReceivers_advanceReceiver (s : State) (n : Fin 4) :
    besidesReceivers (advanceReceiver n s) = besidesReceivers s := by
  cases spent : linkSpent (s.receiver n) with
  | true =>
    rw [advanceReceiver_spent spent]
    show besidesReceivers (directWrite (.link n) off _) = _
    rw [directWrite]
    show besidesReceivers ((removeEntry (.link n) _).modReceiver n _) = _
    simp [besidesReceivers, besidesFades, State.modReceiver]
  | false =>
    rcases advanceReceiver_stays spent with e | ⟨f, e⟩
    · rw [e]
    · rw [e]
      rfl

/-- The state but for the links, the mixer, the fade table, the slots, the end that is due, and what is raised. -/
def besidesFrame (s : State) : State := { besidesFades s with links := {}, mixer := {}, ending := {} }

/-- The four receivers move on. -/
def advanceAll (s : State) : State := (List.finRange 4).foldl (fun s n => advanceReceiver n s) s

theorem advanceAll_linkAt (n : Fin 4) (s : State) :
    linkAt n (advanceAll s) =
      (movedOn (s.receiver n), if linkSpent (s.receiver n) = true then none else s.entry? (.link n)) := by
  have once := foldl_once (f := fun s n => advanceReceiver n s) (get := linkAt n) (i := n) (l := List.finRange 4)
    (g := fun x => (movedOn x.1, if linkSpent x.1 = true then none else x.2))
    (fun u => by simp only [linkAt, advanceReceiver_receiver, advanceReceiver_entry, if_true, true_and]; rfl)
    (fun u j _ h => by
      have apart : Element.link n ≠ .link j := fun e => h (Element.link.inj e).symm
      simp only [linkAt, advanceReceiver_receiver, advanceReceiver_entry, if_neg h, apart, false_and, if_false])
    (List.nodup_finRange 4) s
  exact once.trans (if_pos (List.mem_finRange n))

theorem advanceAll_entry (s : State) (el : Element) :
    (advanceAll s).entry? el = if ∃ n, el = .link n ∧ linkSpent (s.receiver n) = true then none else s.entry? el := by
  by_cases link : ∃ n, el = .link n
  · obtain ⟨n, rfl⟩ := link
    have same : (∃ m, Element.link n = .link m ∧ linkSpent (s.receiver m) = true) ↔ linkSpent (s.receiver n) = true :=
      ⟨fun ⟨m, e, h⟩ => Element.link.inj e ▸ h, fun h => ⟨n, rfl, h⟩⟩
    rw [if_congr same rfl rfl]
    exact congrArg Prod.snd (advanceAll_linkAt n s)
  · rw [if_neg fun ⟨n, e, _⟩ => link ⟨n, e⟩]
    exact foldl_keeps (fun u => u.entry? el) (f := fun s n => advanceReceiver n s)
      (fun u n => (advanceReceiver_entry n u el).trans (if_neg fun a => link ⟨n, a.1⟩)) _ s

theorem besidesReceivers_advanceAll (s : State) : besidesReceivers (advanceAll s) = besidesReceivers s :=
  foldl_keeps besidesReceivers besidesReceivers_advanceReceiver _ s

/-- Links that bridge or receive raise nothing. -/
theorem foldl_attention_stays {l : List (Fin 4)} (distinct : l.Nodup) (h : ∀ n ∈ l, linkSpent (s.receiver n) = false) :
    (l.foldl (fun s n => advanceReceiver n s) s).attention = s.attention := by
  induction l generalizing s with
  | nil => rfl
  | cons n l ih =>
    obtain ⟨fresh, distinct⟩ := List.nodup_cons.1 distinct
    have first : (advanceReceiver n s).attention = s.attention :=
      (advanceReceiver_attention n s).trans (if_neg (by simp [h n List.mem_cons_self]))
    refine (ih distinct fun m hm => ?_).trans first
    rw [advanceReceiver_receiver, if_neg fun e => fresh (by rw [e]; exact hm)]
    exact h m (List.mem_cons_of_mem n hm)

/-- The loss of link `n` has been raised. -/
def lossRaised (n : Fin 4) (s : State) : Prop :=
  s.attention.flags.getLsbD 4 = true ∧ inSet s.attention.details.links n = true

theorem lossRaised_advanceReceiver (j : Fin 4) (h : lossRaised n s) : lossRaised n (advanceReceiver j s) := by
  unfold lossRaised
  rw [advanceReceiver_attention]
  split
  · refine ⟨?_, ?_⟩
    · show (s.attention.flags ||| only (condBit .linkChange)).getLsbD 4 = true
      rw [BitVec.getLsbD_or, h.1, Bool.true_or]
    · show inSet (s.attention.details.links ||| only j) n = true
      rw [inSet_or, h.2, Bool.true_or]
  · exact h

theorem foldl_lossRaised {l : List (Fin 4)} (mem : n ∈ l) (distinct : l.Nodup) (spent : linkSpent (s.receiver n) = true) :
    lossRaised n (l.foldl (fun s n => advanceReceiver n s) s) := by
  induction l generalizing s with
  | nil => cases mem
  | cons j l ih =>
    obtain ⟨-, distinct⟩ := List.nodup_cons.1 distinct
    by_cases h : j = n
    · subst h
      have raised := raiseLinkChange_raised j s
      have first : lossRaised j (advanceReceiver j s) := by
        unfold lossRaised
        rw [advanceReceiver_attention, if_pos spent]
        refine ⟨?_, raised.2⟩
        rw [raised.1, BitVec.getLsbD_or]
        exact Bool.or_true _
      exact List.foldlRecOn l (fun s n => advanceReceiver n s) first fun u hu m _ => lossRaised_advanceReceiver m hu
    · refine ih ((List.mem_cons.1 mem).resolve_left (Ne.symm h)) distinct ?_
      rw [advanceReceiver_receiver, if_neg h]
      exact spent

theorem advanceAll_fallback (s : State) : (advanceAll s).attention.flags.getLsbD 3 = s.attention.flags.getLsbD 3 :=
  foldl_keeps (fun u => u.attention.flags.getLsbD 3) (f := fun s n => advanceReceiver n s) (fun u n => by
    rw [advanceReceiver_attention]
    split
    · show (u.attention.flags ||| only (condBit .linkChange)).getLsbD 3 = _
      rw [BitVec.getLsbD_or]
      exact Bool.or_false _
    · rfl) _ s

/-! ## What a frame tells the clock (R147, R150) -/

/-- WCK becomes absent in this frame, or is absent. -/
def wckLost (edge : Bool) (c : Clock) : Bool := decide (c.source = .internal) && !edge && decide (3 ≤ c.wckAge + 1)

/-- The clock after a frame has told it of WCK. -/
def watched (edge : Bool) (c : Clock) : Clock :=
  { c with
    source := if c.source = .internal ∧ edge = true ∧ c.returnWaiting = true then .wck else c.source
    wckAge := if c.source = .wck ∨ edge = true then 0 else min (c.wckAge + 1) 3
    returnWaiting := if c.source = .internal ∧ edge = true ∨ wckLost edge c = true then false else c.returnWaiting }

theorem watchWck_eq (edge : Bool) (s : State) :
    watchWck edge s =
      if (wckLost edge s.links.clock && s.links.clock.returnWaiting) = true then
        raiseClockFallback (s.modClock (watched edge))
      else s.modClock (watched edge) := by
  have same : ∀ {f : Clock → Clock}, f s.links.clock = watched edge s.links.clock → s.modClock f = s.modClock (watched edge) :=
    fun h => by rw [State.modClock, h]; rfl
  unfold watchWck
  cases source : s.links.clock.source with
  | wck =>
    have lost : wckLost edge s.links.clock = false := by simp [wckLost, source]
    rw [lost, Bool.false_and, if_neg Bool.false_ne_true]
    exact same (by simp [watched, lost, source])
  | internal =>
    cases edge with
    | true =>
      have lost : wckLost true s.links.clock = false := by simp [wckLost]
      rw [lost, Bool.false_and, if_neg Bool.false_ne_true]
      simp only [if_true]
      cases waits : s.links.clock.returnWaiting with
      | true =>
        exact same (f := fun x => { x with source := .wck, returnWaiting := false, wckAge := 0 })
          (by simp [watched, source, waits])
      | false => exact same (f := fun x => { x with wckAge := 0 }) (by simp [watched, lost, source, waits])
    | false =>
      have aged := same (f := fun x => { x with
          wckAge := min (x.wckAge + 1) 3
          returnWaiting := if wckLost false x = true then false else x.returnWaiting }) (by simp [watched, source])
      have absent : wckPresent (s.modClock (fun x => { x with wckAge := min (x.wckAge + 1) Config.wckPeriods })) =
          !wckLost false s.links.clock := by
        have age : wckLost false s.links.clock = decide (3 ≤ s.links.clock.wckAge + 1) := by simp [wckLost, source]
        rw [age, ← decide_not]
        refine decide_eq_decide.2 ?_
        show min (s.links.clock.wckAge + 1) 3 < 3 ↔ _
        omega
      simp only [Bool.false_eq_true, if_false, absent, Bool.not_not]
      rw [← aged]
      cases lost : wckLost false s.links.clock <;> cases waits : s.links.clock.returnWaiting <;>
        simp [abandonReturn, State.modClock, lost, waits, Config.wckPeriods]

/-! ## The samples (R34, R36) -/

/-- What a frame computes from. -/
def heard (s : State) : State :=
  { State.reset with
    table := s.table, foldback := s.foldback, relay := s.relay
    links := { receivers := s.links.receivers } }

theorem computeFrame_heard (input : Table (Table Int 16) 4) (s : State) : computeFrame input s = computeFrame input (heard s) :=
  rfl

theorem peakSample_heard (input : Table (Table Int 16) 4) (o : Outputs) (s : State) (p : Point) :
    peakSample input o s p = peakSample input o (heard s) p := by
  cases p <;> rfl

/-! ## The frame (R34, R148) -/

theorem watchWck_links (edge : Bool) (s : State) :
    (watchWck edge s).links = { s.links with clock := watched edge s.links.clock } := by
  rw [watchWck_eq]
  split <;> rfl

theorem watchWck_frame (edge : Bool) (s : State) :
    watchWck edge s = { s with links := (watchWck edge s).links, attention := (watchWck edge s).attention } := by
  rw [watchWck_eq]
  split <;> rfl

theorem watchWck_attention (edge : Bool) (s : State) :
    (watchWck edge s).attention.flags.getLsbD 3 =
      (s.attention.flags.getLsbD 3 || (wckLost edge s.links.clock && s.links.clock.returnWaiting)) ∧
    ((wckLost edge s.links.clock && s.links.clock.returnWaiting) = false → (watchWck edge s).attention = s.attention) := by
  rw [watchWck_eq]
  cases wckLost edge s.links.clock && s.links.clock.returnWaiting with
  | true =>
    refine ⟨?_, nofun⟩
    show (s.attention.flags ||| only (condBit .clockFallback)).getLsbD 3 = _
    rw [BitVec.getLsbD_or]
    rfl
  | false => exact ⟨(Bool.or_false _).symm, fun _ => rfl⟩

theorem countFrame_eq (s : State) (none : s.ending.due = false) :
    countFrame s = { s with
      links := { s.links with clock := { s.links.clock with
        frameCount := if s.links.clock.frameCount + 1 < 48 then s.links.clock.frameCount + 1 else 0 } }
      ending := { s.ending with due := decide (48 ≤ s.links.clock.frameCount + 1) } } := by
  by_cases few : s.links.clock.frameCount + 1 < 48
  · have due : decide (48 ≤ s.links.clock.frameCount + 1) = s.ending.due := by
      rw [none]
      exact decide_eq_false (Nat.not_le.2 few)
    rw [if_pos few, due]
    exact if_pos few
  · have due : decide (48 ≤ s.links.clock.frameCount + 1) = true := decide_eq_true (Nat.not_lt.1 few)
    rw [if_neg few, due]
    exact if_neg few

theorem oneFrame_eq (s : State) : oneFrame s = countFrame (mixFrame (linkInput s) (advanceAll s)) := rfl

/-- The state that a frame leaves, from the state `v` that its receivers leave. -/
theorem oneFrame_of {v : State} (moved : advanceAll u = v) (none : v.ending.due = false) :
    oneFrame u = { mixFrame (linkInput u) v with
      links := { v.links with clock := { v.links.clock with
        frameCount := if v.links.clock.frameCount + 1 < 48 then v.links.clock.frameCount + 1 else 0 } }
      ending := { v.ending with due := decide (48 ≤ v.links.clock.frameCount + 1) } } := by
  rw [oneFrame_eq, moved]
  exact countFrame_eq (mixFrame (linkInput u) v) none

/-- What a receiver supplies to a frame, and how it moves on (R153). -/
theorem movedOn_table (x : Receiver) :
    (x.state ≠ .locked → supplied x = Table.replicate 16 0 ∧ movedOn x = x) ∧
    (x.state = .locked → ∀ f, x.newest = some f →
      supplied x = f ∧ movedOn x = { x with held := f, newest := none, missed := 0 }) ∧
    (x.state = .locked → x.newest = none → x.missed < 4 →
      supplied x = x.held ∧ movedOn x = { x with missed := x.missed + 1 }) ∧
    (x.state = .locked → x.newest = none → 4 ≤ x.missed →
      supplied x = Table.replicate 16 0 ∧
        movedOn x = { x with state := .lost, held := Table.replicate 16 0, missed := 0, ramp := -400 }) := by
  refine ⟨fun other => ⟨?_, if_neg other⟩, fun locked f newest => ?_, fun locked empty few => ?_, fun locked empty full => ?_⟩
  · unfold supplied
    split
    · exact absurd ‹_› other
    all_goals rfl
  · simp only [supplied, movedOn, locked, newest, if_true, and_self]
  · have held : linkSpent x = false := Bool.eq_false_iff.2 fun spent =>
      absurd ((linkSpent_iff x).1 spent).2.2 (Nat.not_le.2 few)
    have bridged : x.missed < Config.missedTop := few
    simp only [supplied, movedOn, locked, empty, if_true, held, bridged, Bool.false_eq_true, if_false, and_self]
  · have spent : linkSpent x = true := (linkSpent_iff x).2 ⟨locked, empty, full⟩
    have top : ¬x.missed < Config.missedTop := Nat.not_lt.2 full
    simp only [supplied, movedOn, locked, empty, if_true, spent, top, if_false]
    exact ⟨trivial, rfl⟩

theorem linkInput_get (n : Fin 4) (s : State) : (linkInput s).get n = supplied (s.receiver n) := Table.get_map ..

end Sys2Proof.Machine

open Sys2Proof Sys2Proof.Machine

/-- Settles O24. -/
theorem frameComputes : Obligations.FrameComputes := by
  unfold Obligations.FrameComputes
  refine ⟨fun edge s live none => ?_, fun edge s live due => ?_⟩
  · have part : exec (.frame edge) s = .next (oneFrame (watchWck edge s)) := by
      refine (outsideReset_ok live).trans ?_
      rw [partFrame, overdueEnd, if_neg (by rw [none]; exact Bool.false_ne_true)]
    have links := watchWck_links edge s
    have told := watchWck_frame edge s
    obtain ⟨fallback, quiet⟩ := watchWck_attention edge s
    generalize watchWck edge s = u at *
    have receiver : ∀ n, u.receiver n = s.receiver n := fun n => congrArg (fun x => x.receivers.get n) links
    have entry : ∀ el, u.entry? el = s.entry? el := entry_congr (congrArg (fun x => x.fades) told)
    have input : linkInput u = linkInput s := congrArg (fun x => x.receivers.map supplied) links
    have at_ := fun n => advanceAll_linkAt n u
    have entries := advanceAll_entry u
    have aside := besidesReceivers_advanceAll u
    have still := advanceAll_fallback u
    have stays := foldl_attention_stays (s := u) (List.nodup_finRange 4)
    have raises := fun n => foldl_lossRaised (s := u) (List.mem_finRange n) (List.nodup_finRange 4)
    change (∀ n ∈ _, _) → (advanceAll u).attention = _ at stays
    change ∀ n, _ → lossRaised n (advanceAll u) at raises
    have due : (advanceAll u).ending.due = false :=
      (congrArg (fun x => x.ending.due) aside).trans ((congrArg (fun x => x.ending.due) told).trans none)
    have left := oneFrame_of rfl due
    generalize advanceAll u = v at *
    simp only [receiver, entry] at at_ entries stays raises
    have clock : v.links.clock = watched edge s.links.clock :=
      (congrArg (fun x => x.links.clock) aside).trans (congrArg (fun x => x.clock) links)
    generalize oneFrame u = t at *
    have before : heard v = heard { s with links := t.links } := by
      have table : v.table = s.table := (congrArg (fun x => x.table) aside).trans (congrArg (fun x => x.table) told)
      have foldback : v.foldback = s.foldback :=
        (congrArg (fun x => x.foldback) aside).trans (congrArg (fun x => x.foldback) told)
      have relay : v.relay = s.relay := (congrArg (fun x => x.relay) aside).trans (congrArg (fun x => x.relay) told)
      rw [left]
      simp only [heard, table, foldback, relay]
    have out : t.mixer.out = computeFrame (linkInput s) { s with links := t.links } := by
      rw [computeFrame_heard, ← before, ← input, left]
      exact computeFrame_heard _ v
    have mixer : v.mixer = s.mixer := (congrArg (fun x => x.mixer) aside).trans (congrArg (fun x => x.mixer) told)
    have frame : besidesFrame t = besidesFrame s := by
      rw [left]
      have first := congrArg besidesFrame aside
      have second := congrArg besidesFrame told
      exact first.trans second
    have attention : t.attention = v.attention := by rw [left]; rfl
    refine ⟨t, part, out, fun b => ?_, fun i => ?_, ?_, ⟨?_, ?_, ?_, fun unspent kept => ?_⟩, fun n => ?_,
      fun n => linkSpent_iff _, fun el => ?_, ?_, ?_, ?_⟩
    · rw [out]
      exact Table.get_ofFn ..
    · rw [peakSample_heard, ← before, ← mixer, left]
      refine (Table.get_ofFn ..).trans ?_
      rw [input]
      rfl
    · rw [left, ← mixer]
      rfl
    · rw [left, clock]
      rfl
    · rw [left, clock]
      refine congrArg (fun x : Ending => { x with due := decide (48 ≤ s.links.clock.frameCount + 1) }) ?_
      exact (congrArg (fun x => x.ending) aside).trans (congrArg (fun x => x.ending) told)
    · rw [attention, still]
      exact fallback
    · rw [attention, stays fun n _ => unspent n]
      exact quiet kept
    · have own : t.receiver n = movedOn (s.receiver n) := by
        rw [left]
        exact congrArg Prod.fst (at_ n)
      rw [own, linkInput_get, attention]
      obtain ⟨idle, takes, bridges, loses⟩ := movedOn_table (s.receiver n)
      refine ⟨idle, takes, bridges, fun locked empty missed => ?_⟩
      obtain ⟨silent, lost⟩ := loses locked empty missed
      exact ⟨silent, lost, raises n ((linkSpent_iff _).2 ⟨locked, empty, missed⟩)⟩
    · rw [← entries el, left]
      rfl
    · rw [left]
      exact (congrArg (fun x => x.links.outputs) aside).trans (congrArg (fun x => x.outputs) links)
    · exact congrArg (fun x => { x with
        mixer := t.mixer, links := t.links, attention := t.attention, fades := t.fades, engine := t.engine
        ending := t.ending }) frame
    · exact congrArg (fun x => { x.engine with slots := s.engine.slots }) frame
  · intro u
    have stands := (run_intervalEnd (G := False) (s := s) none none none nofun).besidesEnd
    have liveAfter : u.inReset = false := (besidesEnd_inReset stands).trans live
    have open_ : u.ending.due = false := rfl
    refine ⟨?_, liveAfter, open_, fun runs => exec_controlIntervalEnd live due runs⟩
    have late : overdueEnd s = u := if_pos due
    have early : overdueEnd u = u := if_neg (by rw [open_]; exact Bool.false_ne_true)
    have same : partFrame edge s = partFrame edge u := congrArg (fun x => oneFrame (watchWck edge x)) (late.trans early.symm)
    calc exec (.frame edge) s
        = .next (partFrame edge s) := outsideReset_ok live
      _ = .next (partFrame edge u) := by rw [same]
      _ = exec (.frame edge) u := (outsideReset_ok liveAfter).symm
end

section
/-! What one action of a cue leaves, and the test for completion after it (5.4, 5.2). -/

namespace Sys2Proof.Machine

variable {G : Prop} {s t u v : State} {i j k : Fin 8}

/-! ## The test for completion of one slot (R90) -/

theorem modSlot_modSlot (f g : Slot → Slot) (s : State) : (s.modSlot k f).modSlot k g = s.modSlot k (fun x => g (f x)) := by
  have slots : (s.engine.slots.modify k f).modify k g = s.engine.slots.modify k (fun x => g (f x)) := by
    refine Table.ext_get fun i => ?_
    simp only [Table.get_modify]
    split <;> rfl
  show { s with engine := { s.engine with slots := (s.engine.slots.modify k f).modify k g } } = _
  rw [slots]
  rfl

theorem modSlot_comm (h : j ≠ k) (f g : Slot → Slot) (s : State) :
    (s.modSlot k f).modSlot j g = (s.modSlot j g).modSlot k f := by
  have slots : (s.engine.slots.modify k f).modify j g = (s.engine.slots.modify j g).modify k f := by
    refine Table.ext_get fun i => ?_
    simp only [Table.get_modify]
    by_cases hj : j = i
    · rw [if_pos hj, if_neg fun e => h (hj.trans e.symm), if_neg fun e => h (hj.trans e.symm), if_pos hj]
    · rw [if_neg hj, if_neg hj]
  show { s with engine := { s.engine with slots := (s.engine.slots.modify k f).modify j g } } = _
  rw [slots]
  rfl

theorem settle_idle (h : finished (s.slot j) = false) : settle j s = s := by
  rw [settle, h]
  rfl

theorem settle_done (h : finished (s.slot j) = true) :
    settle j s = raiseCueDone ((s.slot j).cue.getD 0) (s.slot j).skipped (s.modSlot j (fun _ => {})) := by
  rw [settle, h]
  rfl

theorem settle_slot_ne (h : j ≠ i) (s : State) : (settle j s).slot i = s.slot i := by
  rcases settle_cases j s with ⟨-, e⟩ | ⟨-, e⟩ <;> rw [e]
  exact (modSlot_slot ..).trans (if_neg h)

theorem settle_modSlot (h : j ≠ k) (f : Slot → Slot) (s : State) : settle j (s.modSlot k f) = (settle j s).modSlot k f := by
  have same : (s.modSlot k f).slot j = s.slot j := (modSlot_slot ..).trans (if_neg (Ne.symm h))
  cases fin : finished (s.slot j) with
  | false => rw [settle_idle fin, settle_idle (by rw [same, fin])]
  | true =>
    rw [settle_done fin, settle_done (by rw [same, fin]), same, modSlot_comm h]
    rfl

theorem foldl_settle_idle {l : List (Fin 8)} (h : ∀ j ∈ l, finished (s.slot j) = false) :
    l.foldl (fun s j => settle j s) s = s := by
  induction l with
  | nil => rfl
  | cons j l ih =>
    rw [List.foldl_cons, settle_idle (h j List.mem_cons_self)]
    exact ih fun i hi => h i (List.mem_cons_of_mem j hi)

/-! ## The test of the other slots (R81, R83, R85) -/

/-- No slot but one is finished. -/
def unfinished (k : Fin 8) (s : State) : Prop := ∀ j, j ≠ k → finished (s.slot j) = false

theorem mem_others : j ∈ (List.finRange 8).filter (fun j => decide (j ≠ k)) ↔ j ≠ k := by simp

theorem settleOthers_idle (h : unfinished k s) : settleOthers k s = s :=
  foldl_settle_idle fun j hj => h j (mem_others.1 hj)

/-- Where one other slot alone may be finished, it alone is tested. -/
theorem settleOthers_one (hj : j ≠ k) (h : ∀ i, i ≠ k → i ≠ j → finished (s.slot i) = false) :
    settleOthers k s = settle j s := by
  have mem : j ∈ (List.finRange 8).filter (fun j => decide (j ≠ k)) := mem_others.2 hj
  have nodup : ((List.finRange 8).filter (fun j => decide (j ≠ k))).Nodup := (List.nodup_finRange 8).filter _
  unfold settleOthers
  have each : ∀ i ∈ (List.finRange 8).filter (fun j => decide (j ≠ k)), i ≠ k := fun i hi => mem_others.1 hi
  generalize (List.finRange 8).filter (fun j => decide (j ≠ k)) = l at *
  obtain ⟨before, after, rfl⟩ := List.append_of_mem mem
  obtain ⟨-, fresh, apart⟩ := List.nodup_append.1 nodup
  have first : ∀ i ∈ before, i ≠ j := fun i hi e => apart i hi j List.mem_cons_self e
  have later : ∀ i ∈ after, i ≠ j := fun i hi e => (List.nodup_cons.1 fresh).1 (e ▸ hi)
  rw [List.foldl_append, List.foldl_cons, foldl_settle_idle fun i hi => h i (each i (by simp [hi])) (first i hi)]
  refine foldl_settle_idle fun i hi => ?_
  rw [settle_slot_ne (Ne.symm (later i hi))]
  exact h i (each i (by simp [hi])) (later i hi)

theorem settleOthers_modSlot (k : Fin 8) (f : Slot → Slot) (s : State) :
    settleOthers k (s.modSlot k f) = (settleOthers k s).modSlot k f := by
  unfold settleOthers
  have each : ∀ i ∈ (List.finRange 8).filter (fun j => decide (j ≠ k)), i ≠ k := fun i hi => mem_others.1 hi
  generalize (List.finRange 8).filter (fun j => decide (j ≠ k)) = l at *
  induction l generalizing s with
  | nil => rfl
  | cons j l ih =>
    rw [List.foldl_cons, List.foldl_cons, settle_modSlot (each j List.mem_cons_self)]
    exact ih (settle j s) fun i hi => each i (List.mem_cons_of_mem j hi)

theorem settleOthers_slot (k : Fin 8) (s : State) : (settleOthers k s).slot k = s.slot k :=
  foldl_stands (get := fun u => u.slot k) (fun u _ hj => settle_slot_ne (mem_others.1 hj) u) s

/-! ## The end of an action (R85, R90) -/

/-- The test for completion of the slot that ran the action, with `rest` still pending. -/
theorem settle_rest (running : (s.slot k).running = true) (rest : List PendingAction) :
    settle k (s.modSlot k (fun x => { x with actions := rest })) = afterAction k rest s := by
  have own : (s.modSlot k (fun x => { x with actions := rest })).slot k = { s.slot k with actions := rest } :=
    (modSlot_slot ..).trans (if_pos rfl)
  have test : finished ((s.modSlot k (fun x => { x with actions := rest })).slot k) = true ↔ rest = [] ∧ (s.slot k).owned = 0 := by
    rw [own, finished, running]
    simp
  unfold afterAction
  by_cases fin : rest = [] ∧ (s.slot k).owned = 0
  · rw [if_pos fin, settle_done (test.2 fin), own, modSlot_modSlot]
    rfl
  · rw [if_neg fin, settle_idle (Bool.eq_false_iff.2 fun e => fin (test.1 e))]

theorem task_settleOthers (k : Fin 8) (s : State) : sameTask (s.slot k) ((settleOthers k s).slot k) := by
  rw [settleOthers_slot]
  exact ⟨rfl, rfl⟩

section
variable {test : PendingAction → Bool} {q : PendingAction} {rest : List PendingAction} (mem : q ∈ (s.slot k).actions)
  (running : (s.slot k).running = true) (drop : (s.slot k).actions.eraseP test = rest)
include mem running drop

/-- An action of the list executes, and the first that passes the test leaves the list. -/
theorem takeBy_eq : takeBy test k s q =
    (settleOthers k (execAction k false q.action s)).modSlot k (fun x => { x with actions := rest }) := by
  obtain ⟨-, ea⟩ := (run_execAction (G := True) false (.inl running) mem).task (k := k) fun _ => acting_running
  rw [takeBy, settleOthers_modSlot]
  refine modSlot_congr ?_
  rw [settleOthers_slot, ea, drop]

omit drop in
theorem execAction_running : ((settleOthers k (execAction k false q.action s)).slot k).running = true := by
  obtain ⟨er, -⟩ := (run_execAction (G := True) false (.inl running) mem).task (k := k) fun _ => acting_running
  rw [settleOthers_slot, er, running]

/-- Its slot is then tested. -/
theorem settle_takeBy :
    settle k (takeBy test k s q) = afterAction k rest (settleOthers k (execAction k false q.action s)) := by
  rw [takeBy_eq mem running drop]
  exact settle_rest (execAction_running mem running) rest

end

theorem unfinished_of (same : ∀ j, j ≠ k → t.slot j = s.slot j) (h : unfinished k s) : unfinished k t := fun j hj => by
  rw [same j hj]
  exact h j hj

/-- Where the slots stand, no other cue completes. -/
theorem ends_still {ends : State → Prop} (slots : t.engine.slots = s.engine.slots) (quiet : unfinished k s)
    (h : ends (settleOthers k t)) : ends t := by
  rwa [settleOthers_idle (unfinished_of (fun j _ => congrArg (fun x => x.get j) slots) quiet)] at h

/-! ## Actions that are skipped (R86, R89) -/

/-- What a skip with ACTION_SKIPPED leaves. -/
def skippedBy (k : Fin 8) (s : State) : State :=
  { s.modSlot k (fun x => { x with skipped := x.skipped + 1 }) with
    attention := { s.attention with
      flags := s.attention.flags ||| 0x200#16
      details := { s.attention.details with skips := min (s.attention.details.skips + 1) 255 } } }

theorem skipAction_eq (k : Fin 8) (s : State) : skipAction k s = skippedBy k s := rfl

theorem settleOthers_skip (h : unfinished k s) : settleOthers k (skipAction k s) = skippedBy k s :=
  settleOthers_idle (unfinished_of (fun _ hj => (modSlot_slot ..).trans (if_neg (Ne.symm hj))) h)

/-- A call request that is turned away (R88, R89). -/
theorem callRequest_turnedAway {q : Fin 16} (h : cannotAct s (.call q)) : (callRequest q .cue s).1.isAccepted = false := by
  rcases h with none | lives | ⟨a, active, waits, full, high⟩
  · rw [callRequest_empty none]
    rfl
  · by_cases source : (s.preset q).source.isSome = true
    · rw [callRequest_lives source lives]
      rfl
    · rw [callRequest_empty (Option.not_isSome_iff_eq_none.1 source)]
      rfl
  · by_cases source : (s.preset q).source.isSome = true
    · cases lives : callLives q s with
      | true =>
        rw [callRequest_lives source lives]
        rfl
      | false =>
        rw [callRequest_full source lives active waits (joinQueue_full full high)]
        rfl
    · rw [callRequest_empty (Option.not_isSome_iff_eq_none.1 source)]
      rfl

theorem actOn_cannot {b : ActionBody} (h : cannotAct s b) : actOn k false b s = skipAction k s := by
  cases b with
  | level el z d =>
    have gone : s.available el = false := h
    simp only [actOn, gone, Bool.false_eq_true, if_false]
  | member r g =>
    have vacant : (s.role r).active = false := h
    simp only [actOn, vacant, Bool.false_eq_true, if_false]
  | route r b =>
    have vacant : (s.role r).active = false := h
    simp only [actOn, vacant, Bool.false_eq_true, if_false]
  | call q => simp only [actOn, callRequest_turnedAway h, Bool.false_eq_true, if_false]
  | trigger code => exact h.elim

/-! ## LEVEL (R87) -/

/-- The engine but for the slots. -/
def engineSide (s : State) : CueEngine := { s.engine with slots := Table.replicate 8 {} }

theorem engineSide_fadeRequest (el : Element) (z : Int) (d : Nat) (o : FadeOwner) (s : State) :
    engineSide (fadeRequest el z d o s).2 = engineSide s := by simp [engineSide]

theorem engine_of_engineSide (h : engineSide t = engineSide s) : t.engine = { s.engine with slots := t.engine.slots } :=
  congrArg (fun x => { x with slots := t.engine.slots }) h

theorem lostTo_eq (j : Fin 8) (e : Option FadeEntry) :
    lostTo j e = if e.any (fun e => decide (e.owner = .cue j)) then 1 else 0 := by
  cases e with
  | none => rfl
  | some e => simp [lostTo, gains]

theorem fadeRequest_attention {el : Element} {cur z : Int} {d : Nat} {o : FadeOwner} (hv : s.value? el = some cur)
    (h : (d = 0 ∨ elemClamp el z = cur) ∨ (s.entry? el).isSome ∨ s.fades.length < 128) :
    (fadeRequest el z d o s).2.attention = s.attention := by
  by_cases direct : d = 0 ∨ elemClamp el z = cur
  · rw [fadeRequest_set hv direct]
    exact directWrite_attention ..
  · obtain ⟨hd, hz⟩ := not_or.1 direct
    cases he : s.entry? el with
    | some old =>
      rw [fadeRequest_replaces hv hd hz he]
      simp
    | none =>
      have room : s.fades.length < 128 := by
        rcases h with h | h | h
        · exact absurd h direct
        · simp [he] at h
        · exact h
      rw [fadeRequest_new hv hd hz he room]
      simp

/-- What a fade request of class CUE makes of the owned-fade counts (R44, R46, R47). -/
theorem fadeRequest_counts {el : Element} {cur z : Int} {d : Nat} (hv : s.value? el = some cur) (i : Fin 8) :
    (fadeRequest el z d (.cue k) s).2.slot i = { s.slot i with
      owned := (s.slot i).owned +
        (if i = k ∧ ((fadeRequest el z d (.cue k) s).2.entry? el).isSome then 1 else 0) - lostTo i (s.entry? el) } := by
  have gain : gains (.cue k) i = if i = k then 1 else 0 := by
    simp only [gains, FadeOwner.cue.injEq, eq_comm]
  by_cases direct : d = 0 ∨ elemClamp el z = cur
  · rw [fadeRequest_set hv direct, directWrite_slot, entry_directWrite, if_pos rfl]
    simp
  · obtain ⟨hd, hz⟩ := not_or.1 direct
    by_cases place : (s.entry? el).isSome ∨ s.fades.length < 128
    · have placed := (fadeRequest_fading (z := z) (o := .cue k) hv hd hz place).2.1.1
      rw [placed]
      cases he : s.entry? el with
      | some old =>
        rw [fadeRequest_replaces hv hd hz he, replaceEntry_slot]
        simp [fadeEntry, gain, lostTo]
      | none =>
        rw [fadeRequest_new hv hd hz he (place.resolve_left (by simp [he])), newEntry_slot]
        simp [fadeEntry, gain, lostTo]
    · obtain ⟨empty, full⟩ := not_or.1 place
      rw [fadeRequest_snaps hv hd hz (Option.not_isSome_iff_eq_none.1 empty) (Nat.not_lt.1 full), snapTo_slot, directWrite_slot,
        entry_snapTo, if_pos rfl]
      simp

theorem levelLeaves_fadeRequest {el : Element} {cur z : Int} {d : Nat} (hv : s.value? el = some cur) :
    levelLeaves k el z d cur s (fadeRequest el z d (.cue k) s).2 := by
  have counts := fadeRequest_counts (k := k) (z := z) (d := d) hv
  refine ⟨fun direct => (fadeRequest_stands hv direct).2, fun timed place => ?_, fun timed full => ?_,
    fun h => fadeRequest_attention hv h, fun x hx => ⟨entry_fadeRequest_ne hx .., value_fadeRequest_ne hx ..⟩, ?_,
    fun j hj => ?_, engine_of_engineSide (engineSide_fadeRequest ..), fadeRequest_fresh .., fadeRequest_cues ..,
    fadeRequest_port .., fadeRequest_clock .., fadeRequest_monitors ..⟩
  · obtain ⟨hd, hz⟩ := not_or.1 timed
    obtain ⟨-, ⟨entry, value⟩, ending⟩ := fadeRequest_fading (o := .cue k) hv hd hz place
    refine ⟨entry, value, fun due => ?_⟩
    rw [ending, if_pos due]
    exact List.mem_cons_self
  · obtain ⟨hd, hz⟩ := not_or.1 timed
    obtain ⟨empty, few⟩ := not_or.1 full
    obtain ⟨-, ⟨entry, value⟩, attention⟩ := fadeRequest_snapped (o := .cue k) hv hd hz (Option.not_isSome_iff_eq_none.1 empty)
      (Nat.not_lt.1 few)
    exact ⟨entry, value, attention⟩
  · rw [counts, lostTo_eq]
    simp
  · rw [counts, lostTo_eq]
    simp [hj]

/-- A cue whose last fade the LEVEL took over completes (R46, R90). -/
theorem settleOthers_level {el : Element} {cur z : Int} {d : Nat} (hv : s.value? el = some cur) (quiet : unfinished k s) :
    settleOthers k (fadeRequest el z d (.cue k) s).2 = overtaken k (s.entry? el) (fadeRequest el z d (.cue k) s).2 := by
  have counts := fadeRequest_counts (k := k) (z := z) (d := d) hv
  have still : ∀ i, i ≠ k → lostTo i (s.entry? el) = 0 → (fadeRequest el z d (.cue k) s).2.slot i = s.slot i := fun i hi none => by
    rw [counts, none]
    simp [hi]
  generalize (fadeRequest el z d (.cue k) s).2 = v at *
  have idle : (∀ i, i ≠ k → lostTo i (s.entry? el) = 0) → settleOthers k v = v := fun none =>
    settleOthers_idle (unfinished_of (fun i hi => still i hi (none i hi)) quiet)
  cases he : s.entry? el with
  | none => exact idle fun i _ => by rw [he]; rfl
  | some e =>
    unfold overtaken
    cases ho : e.owner with
    | host | system =>
      simp only [Option.map_some, ho]
      exact idle fun i _ => by simp [he, lostTo, gains, ho]
    | cue j =>
      simp only [Option.map_some, ho]
      by_cases own : j = k
      · rw [if_neg fun a => a.1 own]
        exact idle fun i hi => by simp [he, lostTo, gains, ho, own, Ne.symm hi]
      · rw [settleOthers_one own fun i hi other => ?_]
        · by_cases fin : (v.slot j).running = true ∧ (v.slot j).actions = [] ∧ (v.slot j).owned = 0
          · obtain ⟨running, none, zero⟩ := fin
            rw [if_pos ⟨own, running, none, zero⟩, afterAction, if_pos ⟨rfl, zero⟩, settle_done (by simp [finished, running, none, zero])]
            rfl
          · rw [if_neg fun a => fin a.2, settle_idle]
            simpa [finished, and_assoc] using fin
        · rw [still i hi (by simp [he, lostTo, gains, ho, Ne.symm other])]
          exact quiet i hi

/-! ## CALL (R88) -/

/-- A change of the Relay Unit leaves every slot, no duck being faded by a cue (R44). -/
theorem Change.slots_calling {p : Part} (h : Change G p s t) (hp : p ∈ calling) (law : Machine.classLaw s) (i : Fin 8) :
    t.slot i = s.slot i := by
  rcases hp with rfl | rfl | rfl | ⟨n, rfl⟩
  · cases h; rfl
  · cases h; rfl
  · cases h; rfl
  · cases h with
    | fade _ el z d o =>
      have open_ : ∀ e, s.entry? (.duck n) = some e → e.owner = .system := fun e he => by
        by_contra other
        have := law.1 e (List.mem_of_find?_eq_some he) other
        rw [entry_element he] at this
        cases this
      have lost : lostTo i (s.entry? (.duck n)) = 0 := by
        cases he : s.entry? (.duck n) with
        | none => rfl
        | some e => simp [lostTo, gains, open_ e he]
      rcases fadeRequest_spec (.duck n) z d .system s with
        ⟨-, e⟩ | ⟨cur, -, ⟨-, e⟩ | ⟨-, -, ⟨old, he, e⟩ | ⟨-, -, e⟩ | ⟨-, -, e⟩⟩⟩ <;> rw [e]
      · rw [directWrite_slot, lost]
        rfl
      · rw [replaceEntry_slot]
        simp [fadeEntry, gains, open_ old he]
      · rw [newEntry_slot]
        simp [fadeEntry, gains]
      · rw [snapTo_slot, directWrite_slot, lost]
        rfl

theorem callRequest_slots (law : classLaw s) (q : Fin 16) (o : Origin) (i : Fin 8) :
    (callRequest q o s).2.slot i = s.slot i :=
  ((run_callRequest (G := True) q o).keeps (P := fun u => classLaw u ∧ u.slot i = s.slot i)
    (fun _ hp _ _ c h => ⟨c.classLaw h.1, (c.slots_calling hp h.1 i).trans h.2⟩) ⟨law, rfl⟩).2

/-- An accepted CALL acts as its request does, and completes no other cue. -/
theorem settleOthers_call {q : Fin 16} {r : CallReply} (law : classLaw s) (quiet : unfinished k s)
    (request : callRequest q .cue s = (r, t)) (accepted : r.isAccepted = true) :
    settleOthers k (actOn k false (.call q) s) = t := by
  have slots := callRequest_slots law q .cue
  have act : actOn k false (.call q) s = t := by simp only [actOn, request, accepted, if_true]
  rw [request] at slots
  rw [act]
  exact settleOthers_idle (unfinished_of (fun j _ => slots j) quiet)

theorem callActs_actOn {q : Fin 16} {ends : State → Prop} (law : classLaw s) (quiet : unfinished k s)
    (source : (s.preset q).source.isSome) (h : ends (settleOthers k (actOn k false (.call q) s))) : callActs q k s ends := by
  have slots := callRequest_slots law q .cue
  have port := congrArg (fun x => x.port) (settings_callRequest q .cue s)
  refine ⟨fun idle queue => ⟨fun holds => ?_, fun none => ?_⟩, fun a active lives => ⟨fun waits => ⟨fun room => ?_, ?_⟩,
    fun urgent lower => ?_⟩⟩
  · have request := callRequest_idle (o := .cue) source (callLives_none idle queue) idle
    rw [settleOthers_call law quiet request rfl] at h
    rw [request] at slots port
    exact ⟨_, h, callHolds_advance queue holds, slots k, port⟩
  · have request := callRequest_idle (o := .cue) source (callLives_none idle queue) idle
    have pick : pickCall (countArrival s) (newCall q .cue s :: s.relay.queue) = (Option.none, [], [q]) := by
      rw [queue]
      exact pickCall_none (s := countArrival s) (l := [newCall q .cue s]) fun c hc => by
        rw [List.mem_singleton.1 hc]
        exact none
    rw [settleOthers_call law quiet request rfl, advance_at, advanced, pick] at h
    simp only [activeSet, activeDepth, handover_none] at h
    have left : callReported q .noTarget { s with relay := { s.relay with arrivals := (newCall q .cue s).serial } } =
        ([q].foldl (fun s p => raiseCallChange p .noTarget s) (countArrival s)).modRelay
          (fun x => { x with active := Option.none, queue := [] }) := by
      simp only [callReported, idle, queue, List.foldl_cons, List.foldl_nil]
      rfl
    rw [left]
    exact h
  · have request := callRequest_joins (o := .cue) source lives active waits (joinQueue_place room)
    rw [settleOthers_call law quiet request rfl, countArrival_joins] at h
    exact h
  · rintro d ⟨mem, full, less, least⟩
    have out := victim_unique mem least
    have request := callRequest_joins (o := .cue) source lives active waits (joinQueue_displaces full out less)
    rw [settleOthers_call law quiet request rfl, countArrival_displaces] at h
    exact h
  · have request := callRequest_preempts (o := .cue) source lives active ⟨urgent, lower⟩
    have relay := advance_relay a.stations (newCall q .cue s :: s.relay.queue)
      (raiseCallChange a.call.preset .preempted (countArrival s))
    rw [settleOthers_call law quiet request rfl] at h
    rw [request] at slots port
    exact ⟨_, h, callEnded_preempted (newCall q .cue s :: s.relay.queue) a s, congrArg (fun x => x.arrivals) relay, slots k, port⟩

/-! ## What an action of delay 0 or that falls due leaves -/

/-- The outcomes of an action, by its kind (R86 to R89). -/
theorem action_outcomes {a : Action} {ends : State → Prop} (quiet : unfinished k s)
    (h : ends (settleOthers k (execAction k false a s))) :
    (flagSet s.engine.safes (safeFlag a.body) = true → ends s) ∧
    (flagSet s.engine.safes (safeFlag a.body) = false →
      (cannotAct s a.body → ends (skippedBy k s)) ∧
      (∀ r g, a.body = .member r g → (s.role r).active = true → ends (s.modRole r (fun x => { x with group := g }))) ∧
      (∀ r b, a.body = .route r b → (s.role r).active = true → ends (s.modRole r (fun x => { x with buses := b }))) ∧
      (∀ code, a.body = .trigger code →
        (s.engine.triggers.length < 16 → ends (s.modEngine (fun x => { x with triggers := x.triggers ++ [code] }))) ∧
        (16 ≤ s.engine.triggers.length → ends { s with attention := { s.attention with
          flags := s.attention.flags ||| 0x800#16
          details := { s.attention.details with lost := min (s.attention.details.lost + 1) 255 } } })) ∧
      (∀ el z time cur, a.body = .level el z time → s.available el = true → s.value? el = some cur →
        ∃ v, ends (overtaken k (s.entry? el) v) ∧ levelLeaves k el z time cur s v) ∧
      (∀ q, classLaw s → a.body = .call q → (s.preset q).source.isSome → callActs q k s ends)) := by
  refine ⟨fun safe => ?_, fun bare => ?_⟩
  · rwa [execAction, if_pos safe, settleOthers_idle quiet] at h
  · rw [execAction, if_neg (by rw [bare]; exact Bool.false_ne_true)] at h
    refine ⟨fun cannot => ?_, fun r g body active => ?_, fun r b body active => ?_, fun code body => ⟨fun room => ?_, fun full => ?_⟩,
      fun el z time cur body available value => ?_, fun q law body source => ?_⟩
    · rwa [actOn_cannot cannot, settleOthers_skip quiet] at h
    · have act : actOn k false a.body s = s.modRole r (fun x => { x with group := g }) := by
        simp only [body, actOn, active, if_true]
      rw [act] at h
      exact ends_still rfl quiet h
    · have act : actOn k false a.body s = s.modRole r (fun x => { x with buses := b }) := by
        simp only [body, actOn, active, if_true]
      rw [act] at h
      exact ends_still rfl quiet h
    · have act : actOn k false a.body s = s.modEngine (fun x => { x with triggers := x.triggers ++ [code] }) := by
        rw [body]
        exact if_pos room
      rw [act] at h
      exact ends_still rfl quiet h
    · have act : actOn k false a.body s = raiseTriggerLost s := by
        rw [body]
        exact if_neg (Nat.not_lt.2 full)
      rw [act] at h
      exact ends_still rfl quiet h
    · have act : actOn k false a.body s = (fadeRequest el z time (.cue k) s).2 := by
        simp only [body, actOn, available, if_true, Bool.false_eq_true, if_false]
      rw [act, settleOthers_level value quiet] at h
      exact ⟨_, h, levelLeaves_fadeRequest value⟩
    · rw [body] at h
      exact callActs_actOn law quiet source h

end Sys2Proof.Machine
end

section
/-! ACTION_DUE: the slots are taken from the oldest to the youngest (5.4). -/

namespace Sys2Proof.Machine

variable {G : Prop} {s t u : State} {i j k : Fin 8}

/-! ## The order of the slots (R79, R85) -/

/-- Slot `i` is taken before slot `j`: it is older, or of one age and of the higher number. -/
def before (s : State) (i j : Fin 8) : Prop := slotAge s j < slotAge s i ∨ slotAge s i = slotAge s j ∧ j < i

theorem before_trans (h : before s i j) (h' : before s j k) : before s i k := by
  unfold before at *
  omega

theorem insertByAge_before {l : List (Fin 8)} (sorted : l.Pairwise (before s)) (first : ∀ j ∈ l, i < j) :
    (insertByAge s i l).Pairwise (before s) := by
  induction l with
  | nil => exact List.pairwise_singleton ..
  | cons j l ih =>
    obtain ⟨head, tail⟩ := List.pairwise_cons.1 sorted
    rw [insertByAge]
    split
    · refine List.pairwise_cons.2 ⟨fun m hm => ?_, sorted⟩
      have one : before s i j := .inl ‹_›
      rcases List.mem_cons.1 hm with rfl | hm
      · exact one
      · exact before_trans one (head m hm)
    · rename_i young
      refine List.pairwise_cons.2 ⟨fun m hm => ?_, ih tail fun m hm => first m (List.mem_cons_of_mem j hm)⟩
      rcases (mem_insertByAge s i m l).1 hm with rfl | hm
      · have low := first j List.mem_cons_self
        unfold before
        omega
      · exact head m hm

theorem slotsByAge_sorted (s : State) : (slotsByAge s).Pairwise (before s) := by
  have ascending : ((List.finRange 8).filter (fun k => (s.slot k).running)).Pairwise (· < ·) :=
    (List.pairwise_lt_finRange 8).filter _
  unfold slotsByAge
  generalize (List.finRange 8).filter (fun k => (s.slot k).running) = l at *
  induction l with
  | nil => exact List.Pairwise.nil
  | cons i l ih =>
    obtain ⟨first, ascending⟩ := List.pairwise_cons.1 ascending
    rw [List.foldr_cons]
    refine insertByAge_before (ih ascending) fun j hj => first j ?_
    have members : ∀ l : List (Fin 8), j ∈ l.foldr (insertByAge s) [] ↔ j ∈ l := fun l => by
      induction l with
      | nil => rfl
      | cons m l ih => rw [List.foldr_cons, mem_insertByAge, ih, List.mem_cons]
    exact (members l).1 hj

/-- Slots in the order in which they are taken are known by their set. -/
theorem eq_of_before {l m : List (Fin 8)} (hl : l.Pairwise (before s)) (hm : m.Pairwise (before s))
    (same : ∀ i, i ∈ l ↔ i ∈ m) : l = m := by
  have irrefl : ∀ {i}, ¬ before s i i := fun h => by unfold before at h; omega
  have nodup : ∀ {l : List (Fin 8)}, l.Pairwise (before s) → l.Nodup := fun h => h.imp fun {a b} less same => by
    rw [same] at less
    exact irrefl less
  exact ((List.perm_ext_iff_of_nodup (nodup hl) (nodup hm)).2 same).eq_of_pairwise
    (fun a b _ _ h h' => absurd (before_trans h h') irrefl) hl hm

/-! ## What taking an action leaves of what the slots run -/

/-- A slot runs the same actions, and while one is pending it is RUNNING and of one age as before. -/
def runsOn (x y : Slot) : Prop :=
  y.actions = x.actions ∧ (x.actions ≠ [] → y.running = x.running ∧ y.serial = x.serial)

theorem runsOn_refl (x : Slot) : runsOn x x := ⟨rfl, fun _ => ⟨rfl, rfl⟩⟩

theorem runsOn_trans {x y z : Slot} (h : runsOn x y) (h' : runsOn y z) : runsOn x z := by
  obtain ⟨actions, rest⟩ := h
  obtain ⟨actions', rest'⟩ := h'
  refine ⟨actions'.trans actions, fun pending => ?_⟩
  obtain ⟨running, serial⟩ := rest pending
  obtain ⟨running', serial'⟩ := rest' (by rw [actions]; exact pending)
  exact ⟨running'.trans running, serial'.trans serial⟩

theorem Change.runsOn {p : Part} (h : Change G p s t) (hp : p.running i = false) : Machine.runsOn (s.slot i) (t.slot i) := by
  obtain ⟨running, actions⟩ := h.task hp
  refine ⟨actions, fun _ => ⟨running, ?_⟩⟩
  cases h with
  | start | wipe | reset | abandon => cases hp
  | slot _ j | free _ j => rw [modSlot_slot, if_neg (by simpa [Part.running] using hp)]
  | skips _ j =>
    rw [modSlot_slot]
    split <;> rfl
  | fade => rw [fadeRequest_slot]
  | complete => rw [completed_slot]
  | write => rw [directWrite_slot]
  | remove => rw [removeEntry_slot]
  | advance => simp only [stepOn, write_slot]; rfl
  | _ => rfl

theorem runsOn_settle (j i : Fin 8) (s : State) : runsOn (s.slot i) ((settle j s).slot i) := by
  by_cases pending : (s.slot i).actions = []
  · refine ⟨?_, fun more => absurd pending more⟩
    rcases settle_cases j s with ⟨-, e⟩ | ⟨-, e⟩ <;> rw [e]
    show ((s.modSlot j fun _ => {}).slot i).actions = _
    rw [modSlot_slot]
    split
    · exact pending.symm
    · rfl
  · rw [settle_slot_of_pending j pending]
    exact runsOn_refl _

theorem runsOn_settleOthers (j i : Fin 8) (s : State) : runsOn (s.slot i) ((settleOthers j s).slot i) := by
  unfold settleOthers
  exact List.foldlRecOn (motive := fun u => runsOn (s.slot i) (u.slot i)) _ _ (runsOn_refl _)
    fun u h m _ => runsOn_trans h (runsOn_settle m i u)

section
variable {q : PendingAction} (running : (s.slot j).running = true) (mem : q ∈ (s.slot j).actions)
include running mem

theorem runsOn_execAction (i : Fin 8) : runsOn (s.slot i) ((execAction j false q.action s).slot i) :=
  (run_execAction (G := True) false (.inl running) mem).keeps (P := fun u => runsOn (s.slot i) (u.slot i))
    (fun _ hp _ _ c h => runsOn_trans h (c.runsOn (acting_running hp))) (runsOn_refl _)

/-- The other slots run on. -/
theorem takeFalling_other (hi : i ≠ j) : runsOn (s.slot i) ((settle j (takeFalling j s q)).slot i) := by
  refine runsOn_trans (runsOn_trans (runsOn_execAction running mem i) ?_) (runsOn_settle j i _)
  have dropped : ((execAction j false q.action s).modSlot j (fun x => { x with actions := x.actions.eraseP fallsDue })).slot i =
      (execAction j false q.action s).slot i := (modSlot_slot ..).trans (if_neg (Ne.symm hi))
  have others := runsOn_settleOthers j i
    ((execAction j false q.action s).modSlot j (fun x => { x with actions := x.actions.eraseP fallsDue }))
  rwa [dropped] at others

/-- The slot runs what is left of its list. -/
theorem takeFalling_own :
    runsOn { s.slot j with actions := (s.slot j).actions.eraseP fallsDue } ((settle j (takeFalling j s q)).slot j) := by
  obtain ⟨actions, rest⟩ := runsOn_execAction running mem j
  obtain ⟨still, serial⟩ := rest (List.ne_nil_of_mem mem)
  refine runsOn_trans ?_ (runsOn_settle j j _)
  rw [takeFalling, settleOthers_slot, modSlot_slot, if_pos rfl]
  exact ⟨congrArg (·.eraseP fallsDue) actions, fun _ => ⟨still, serial⟩⟩

end

/-! ## The slots that are taken first -/

theorem mem_olderDue : i ∈ olderDue k s ↔
    (s.slot i).running = true ∧ slotAge s k < slotAge s i ∧ (falling i s).isEmpty = false := by
  rw [olderDue, List.mem_filter, mem_slotsByAge, Bool.and_eq_true, decide_eq_true_eq, Bool.not_eq_true']

theorem olderDue_sorted (k : Fin 8) (s : State) : (olderDue k s).Pairwise (before s) := (slotsByAge_sorted s).filter _

theorem olderDue_congr (h : u.engine = s.engine) : olderDue k u = olderDue k s := by
  have order : before u = before s := by
    funext i j
    simp only [before, slotAge, State.slot, h]
  refine eq_of_before (order ▸ olderDue_sorted k u) (olderDue_sorted k s) fun i => ?_
  simp only [mem_olderDue, slotAge, falling, State.slot, h]

/-- A slot has an action that falls due at the end that is due. -/
def fallsAt (i : Fin 8) (s : State) : Prop := (s.slot i).running = true ∧ (falling i s).isEmpty = false

theorem falling_isEmpty_iff (i : Fin 8) (s : State) :
    (falling i s).isEmpty = false ↔ ∃ p ∈ (s.slot i).actions, p.remaining ≤ 1 := by
  rw [falling, ← Bool.not_eq_true, List.isEmpty_iff, List.filter_eq_nil_iff]
  simp [fallsDue]

theorem mem_olderDue' : i ∈ olderDue k s ↔ fallsAt i s ∧ slotAge s k < slotAge s i := by
  rw [mem_olderDue, fallsAt]
  tauto

theorem pending_of_falling (h : (falling i s).isEmpty = false) : (s.slot i).actions ≠ [] := by
  obtain ⟨p, hp, -⟩ := (falling_isEmpty_iff i s).1 h
  exact List.ne_nil_of_mem hp

theorem falling_of (h : runsOn (s.slot i) (u.slot i)) : falling i u = falling i s := congrArg (List.filter fallsDue) h.1

theorem fallsAt_of (h : runsOn (s.slot i) (u.slot i)) : fallsAt i u ↔ fallsAt i s := by
  unfold fallsAt
  rw [falling_of h]
  refine and_congr_left fun falls => ?_
  rw [(h.2 (pending_of_falling falls)).1]

theorem slotAge_of (serial : u.engine.serial = s.engine.serial) (h : runsOn (s.slot i) (u.slot i))
    (falls : (falling i s).isEmpty = false) : slotAge u i = slotAge s i := by
  rw [slotAge, slotAge, serial, (h.2 (pending_of_falling falls)).2]

theorem serial_takeFalling (j : Fin 8) (q : PendingAction) (s : State) :
    (settle j (takeFalling j s q)).engine.serial = s.engine.serial := by
  have first := congrArg (fun x => x.engine.serial) (settings_settle j (takeFalling j s q))
  have second := congrArg (fun x => x.engine.serial) (settings_settleOthers j
    ((execAction j false q.action s).modSlot j (fun x => { x with actions := x.actions.eraseP fallsDue })))
  have third := congrArg (fun x => x.engine.serial) (settings_execAction j false q.action s)
  exact first.trans (second.trans third)

section
variable {p : PendingAction} {more : List PendingAction} (running : (s.slot j).running = true) (falls : falling j s = p :: more)
include running falls

omit running in
theorem mem_of_falling : p ∈ (s.slot j).actions := (List.mem_filter.1 (falls ▸ List.mem_cons_self : p ∈ falling j s)).1

/-- After its first action has been taken, the slot has the others that fall due. -/
theorem falling_own : falling j (settle j (takeFalling j s p)) = more := by
  have own := takeFalling_own running (mem_of_falling falls)
  rw [falling, own.1, filter_eraseP]
  exact congrArg List.tail falls

/-- The slot takes the rest of its actions at once, or it has none left. -/
theorem takeSlot_resumes :
    (more = [] → takeSlot s j = settle j (takeFalling j s p)) ∧
      (more ≠ [] → takeSlot (settle j (takeFalling j s p)) j = takeSlot s j) := by
  have whole : takeSlot s j = settle j (more.foldl (takeFalling j) (takeFalling j s p)) := by rw [takeSlot, falls, List.foldl_cons]
  refine ⟨fun none => by rw [whole, none, List.foldl_nil], fun some => ?_⟩
  have mem := mem_of_falling falls
  have left : falling j (takeFalling j s p) = more := by
    have task := takeBy_task (test := fallsDue) (.inl running) mem
    rw [takeFalling_eq, falling, task.2, filter_eraseP]
    exact congrArg List.tail falls
  have waits : ((takeFalling j s p).slot j).actions ≠ [] := fun none => by
    rw [falling, none] at left
    exact some left.symm
  have stays : settle j (takeFalling j s p) = takeFalling j s p := settle_idle (by simp [finished, waits])
  rw [stays, whole, takeSlot, left]

/-- The oldest slot leads the slots that are taken before slot `k`, as long as it has an action that falls due. -/
theorem olderDue_after (young : slotAge s k < slotAge s j) (due : fallsAt k s)
    (oldest : ∀ i, i ≠ j → fallsAt i s → slotAge s i < slotAge s j) :
    let rest := (olderDue k s).filter (fun i => decide (i ≠ j))
    olderDue k s = j :: rest ∧
      olderDue k (settle j (takeFalling j s p)) = if more = [] then rest else j :: rest := by
  intro rest
  have mem := mem_of_falling falls
  have serial := serial_takeFalling j p s
  have other := fun i (hi : i ≠ j) => takeFalling_other (i := i) running mem hi
  have own := takeFalling_own running mem
  have left := falling_own running falls
  generalize settle j (takeFalling j s p) = u at *
  have apart : k ≠ j := fun e => Nat.lt_irrefl _ (e ▸ young)
  have inRest : ∀ i, i ∈ rest ↔ (fallsAt i s ∧ slotAge s k < slotAge s i) ∧ i ≠ j := fun i => by
    rw [List.mem_filter, mem_olderDue', decide_eq_true_eq]
  have falls' : fallsAt j s := ⟨running, by rw [falls]; rfl⟩
  have tail : ∀ v : State, (∀ i, i ≠ j → fallsAt i s → slotAge v i = slotAge s i) → rest.Pairwise (before v) := fun v ages => by
    have sorted : rest.Pairwise (before s) := (olderDue_sorted k s).filter _
    refine sorted.imp_of_mem fun {a b} ha hb h => ?_
    obtain ⟨⟨fallsA, -⟩, neA⟩ := (inRest a).1 ha
    obtain ⟨⟨fallsB, -⟩, neB⟩ := (inRest b).1 hb
    have one := ages a neA fallsA
    have two := ages b neB fallsB
    unfold before at *
    omega
  have whole : ∀ v : State, (∀ i, i ≠ j → fallsAt i s → slotAge v i = slotAge s i) → slotAge v j = slotAge s j →
      (j :: rest).Pairwise (before v) := fun v ages own => by
    refine List.pairwise_cons.2 ⟨fun i hi => ?_, tail v ages⟩
    obtain ⟨⟨at_, -⟩, ne⟩ := (inRest i).1 hi
    have less := oldest i ne at_
    have one := ages i ne at_
    exact .inl (by omega)
  refine ⟨eq_of_before (olderDue_sorted k s) (whole s (fun _ _ _ => rfl) rfl) fun i => ?_, ?_⟩
  · rw [mem_olderDue', List.mem_cons, inRest]
    by_cases hi : i = j
    · subst hi
      simp [falls', young]
    · simp [hi]
  · have ages : ∀ i, i ≠ j → fallsAt i s → slotAge u i = slotAge s i := fun i hi at_ =>
      slotAge_of serial (other i hi) at_.2
    have members : ∀ i, i ≠ j → (i ∈ olderDue k u ↔ fallsAt i s ∧ slotAge s k < slotAge s i) := fun i hi => by
      rw [mem_olderDue', fallsAt_of (other i hi), ages k apart due]
      refine and_congr_right fun at_ => ?_
      rw [ages i hi at_]
    by_cases none : more = []
    · have gone : ¬ fallsAt j u := fun h => by
        have some := h.2
        rw [left, none] at some
        cases some
      rw [if_pos none]
      refine eq_of_before (olderDue_sorted k u) (tail u ages) fun i => ?_
      by_cases hi : i = j
      · rw [inRest, mem_olderDue', hi]
        simp [gone]
      · rw [members i hi, inRest]
        simp [hi]
    · have pending : (s.slot j).actions.eraseP fallsDue ≠ [] := fun empty => none (by
        rw [← left, falling, own.1, empty]
        rfl)
      obtain ⟨runs, same⟩ := own.2 pending
      have ageJ : slotAge u j = slotAge s j := by rw [slotAge, slotAge, serial, same]
      have at_ : fallsAt j u := ⟨runs.trans running, by rw [left]; simpa using none⟩
      rw [if_neg none]
      refine eq_of_before (olderDue_sorted k u) (whole u ages ageJ) fun i => ?_
      by_cases hi : i = j
      · rw [mem_olderDue', hi, ageJ, ages k apart due]
        simp [at_, young]
      · rw [members i hi, List.mem_cons, inRest]
        simp [hi]

end

/-! ## ACTION_DUE (R85) -/

section
variable {p : PendingAction} {more : List PendingAction} (parts : takesParts .cue s) (uncounted : s.ending.counted = false)
  (free : s.engine.hold = false) (running : (s.slot k).running = true) (falls : falling k s = p :: more)
include parts uncounted free running falls

theorem exec_actionDue :
    exec (.actionDue k) s = .next (settle k (takeFalling k ((olderDue k s).foldl takeSlot (beginBlock .cue s)) p)) := by
  refine (blockPart_ok parts).trans ?_
  simp only [actionDue, free, uncounted, running, falls, Bool.not_false, Bool.and_self, if_true]

/-- Where no older slot has an action that falls due, the action executes on the state as it stands. -/
theorem exec_actionDue_first {rest : List PendingAction} (drop : (s.slot k).actions.eraseP fallsDue = rest)
    (first : ∀ j, fallsAt j s → slotAge s j ≤ slotAge s k) :
    exec (.actionDue k) s =
      .next (afterAction k rest (settleOthers k (execAction k false p.action (beginBlock .cue s)))) := by
  have none : olderDue k s = [] := List.eq_nil_iff_forall_not_mem.2 fun j hj => by
    obtain ⟨due, older⟩ := mem_olderDue'.1 hj
    exact absurd older (Nat.not_lt.2 (first j due))
  rw [exec_actionDue parts uncounted free running falls, none, List.foldl_nil, takeFalling_eq]
  exact congrArg _ (settle_takeBy (s := beginBlock .cue s) (mem_of_falling falls) running drop)

end

/-- What one such part leaves to the next: an end that the Cue Engine has begun and not counted, and no HOLD. -/
theorem takeFalling_part {q : PendingAction} (parts : takesParts .cue s) (uncounted : s.ending.counted = false)
    (free : s.engine.hold = false) (running : (s.slot j).running = true) (mem : q ∈ (s.slot j).actions)
    (u : State) (after : u = settle j (takeFalling j (beginBlock .cue s) q)) :
    takesParts .cue u ∧ u.ending.counted = false ∧ u.engine.hold = false ∧ beginBlock .cue u = u := by
  obtain ⟨live, due, runs, -⟩ := parts
  have run : Run True (taking j) (beginBlock .cue s) (settle j (takeFalling j (beginBlock .cue s) q)) := by
    rw [takeFalling_eq]
    exact (run_takeBy (s := beginBlock .cue s) (.inl running) mem).trans
      (run_settle (.inr (.inl rfl)) (.inr (.inr ⟨j, rfl⟩)))
  have stands : besidesEnd (settle j (takeFalling j (beginBlock .cue s) q)) = besidesEnd (beginBlock .cue s) :=
    run.stands fun p hp _ _ c => c.besidesEnd (taking_ofEnd hp)
  have ending := run.ending_stands fun p hp => taking_timing hp
  have hold := congrArg (fun x => x.engine.hold) (run.settings fun p hp => taking_acts hp)
  rw [← after] at stands ending hold
  refine ⟨⟨(besidesEnd_inReset stands).trans live, ?_, (besidesEnd_paused stands).trans runs, .inr ?_⟩, ?_, hold.trans free, ?_⟩
  · rw [ending]; exact due
  · rw [ending]; rfl
  · rw [ending]; exact uncounted
  · have same : { u.ending with begun := true, block := some .cue } = u.ending := by rw [ending]; rfl
    show { u with ending := { u.ending with begun := true, block := some .cue } } = u
    rw [same]

theorem falling_waiting {waiting rest : List PendingAction} {p : PendingAction} (h : (s.slot k).actions = waiting ++ p :: rest)
    (wait : ∀ q ∈ waiting, 1 < q.remaining) (due : p.remaining ≤ 1) :
    (∃ more, falling k s = p :: more) ∧ (s.slot k).actions.eraseP fallsDue = waiting ++ rest := by
  have none : waiting.filter fallsDue = [] := List.filter_eq_nil_iff.2 fun q hq => by simp [fallsDue, wait q hq]
  have falls : fallsDue p = true := decide_eq_true due
  rw [falling, h, List.filter_append, none, List.filter_cons_of_pos falls]
  refine ⟨⟨_, rfl⟩, ?_⟩
  rw [List.eraseP_append_right _ fun q hq => by simp [fallsDue, wait q hq], List.eraseP_cons_of_pos falls]

end Sys2Proof.Machine

open Sys2Proof Sys2Proof.Machine

/-- Settles O43: the slots taken first are those of `olderDue`, which the oldest of them leads and is taken from by
`olderDue_after`; what the action then leaves is `action_outcomes`. -/
theorem actionDueExecutes : Obligations.ActionDueExecutes := by
  unfold Obligations.ActionDueExecutes
  intro isDue
  have falls : ∀ {s : State} {k : Fin 8}, isDue s k ↔ fallsAt k s := fun {s k} => by rw [fallsAt, falling_isEmpty_iff]
  refine ⟨fun j k s parts uncounted free dueK dueJ young oldest => ?_,
    fun k waiting p rest s parts uncounted free running actions wait due quiet first => ?_⟩
  · have oldest' : ∀ i, i ≠ j → fallsAt i s → slotAge s i < slotAge s j := fun i hi at_ => oldest i hi (falls.2 at_)
    have apart : k ≠ j := fun e => Nat.lt_irrefl _ (e ▸ young)
    obtain ⟨runJ, someJ⟩ := falls.1 dueJ
    obtain ⟨runK, someK⟩ := falls.1 dueK
    obtain ⟨p, more, hp⟩ := List.exists_cons_of_ne_nil (by simpa using someJ : falling j s ≠ [])
    obtain ⟨q, others, hq⟩ := List.exists_cons_of_ne_nil (by simpa using someK : falling k s ≠ [])
    have leads : olderDue j s = [] := List.eq_nil_iff_forall_not_mem.2 fun i hi => by
      obtain ⟨at_, older⟩ := mem_olderDue'.1 hi
      by_cases same : i = j
      · exact Nat.lt_irrefl _ (same ▸ older)
      · exact absurd older (Nat.not_lt.2 (oldest' i same at_).le)
    have taken := exec_actionDue parts uncounted free runJ hp
    rw [leads, List.foldl_nil] at taken
    obtain ⟨before', after⟩ := olderDue_after (s := beginBlock .cue s) runJ hp young (falls.1 dueK) oldest'
    obtain ⟨done, resumes⟩ := takeSlot_resumes (s := beginBlock .cue s) runJ hp
    have part := takeFalling_part parts uncounted free runJ (mem_of_falling hp) _ rfl
    have other := takeFalling_other (s := beginBlock .cue s) (i := k) runJ (mem_of_falling hp) apart
    have firstK := exec_actionDue parts uncounted free runK hq
    rw [olderDue_congr (s := s) (u := beginBlock .cue s) rfl] at before' after
    generalize settle j (takeFalling j (beginBlock .cue s) p) = u at *
    obtain ⟨parts', uncounted', free', begun⟩ := part
    have hq' : falling k u = q :: others := (falling_of other).trans hq
    have runK' : (u.slot k).running = true := (other.2 (pending_of_falling someK)).1.trans runK
    refine ⟨u, taken, ?_⟩
    rw [firstK, exec_actionDue parts' uncounted' free' runK' hq', begun, before', after, List.foldl_cons]
    by_cases none : more = []
    · rw [if_pos none, done none]
    · rw [if_neg none, List.foldl_cons, resumes none]
  · obtain ⟨⟨more, hp⟩, drop⟩ := falling_waiting actions wait due
    have done := exec_actionDue_first parts uncounted free running hp drop fun j at_ => first j (falls.2 at_)
    exact action_outcomes (s := beginBlock .cue s) (ends := fun v => exec (.actionDue k) s = .next (afterAction k (waiting ++ rest) v))
      quiet done
end

section
/-! GO with a free slot: the start of the cue, its actions of delay 0, and its completion (5.3). -/

namespace Sys2Proof.Machine

variable {G : Prop} {s t u v : State} {i j k : Fin 8} {src : GoSource} {cue : Cue}

/-! ## The stages of a GO (R81) -/

theorem modSlot_same {f : Slot → Slot} (h : f (s.slot k) = s.slot k) : s.modSlot k f = s := by
  have slots : s.engine.slots.modify k f = s.engine.slots := by
    refine Table.ext_get fun i => ?_
    rw [Table.get_modify]
    split
    · subst_vars; exact h
    · rfl
  rw [State.modSlot, slots]

/-- The slot is finished once its actions of delay 0 have executed. -/
def completes (k : Fin 8) (rest : List PendingAction) (v : State) : Bool := decide (rest = [] ∧ (v.slot k).owned = 0)

theorem afterAction_running (running : (v.slot k).running = true) (rest : List PendingAction) :
    ((afterAction k rest v).slot k).running = !completes k rest v := by
  unfold afterAction completes
  by_cases h : rest = [] ∧ (v.slot k).owned = 0
  · rw [if_pos h, decide_eq_true h]
    show ((v.modSlot k _).slot k).running = _
    rw [modSlot_slot, if_pos rfl]
    rfl
  · rw [if_neg h, decide_eq_false h, modSlot_slot, if_pos rfl, running]
    rfl

/-- The stages of a GO once the slot is known and its actions of delay 0 have left `v` and `rest` (R81, R84). -/
theorem fireGo_leaves {forced : Option Nat} {rest : List PendingAction} (room : makeRoom s = (forced, u))
    (free : freeSlot u = some k) (run : runDue k (startCue k src cue u) = v.modSlot k (fun x => { x with actions := rest }))
    (running : (v.slot k).running = true) :
    fireGo src cue s =
      (⟨cue.number, k, u.engine.serial + 1#32, nextAbove cue.number u.cues.cues, forced, completes k rest v⟩,
        afterAction k rest (raiseCueFired cue.number v)) := by
  have last : settle k (raiseCueFired cue.number (runDue k (startCue k src cue u))) =
      afterAction k rest (raiseCueFired cue.number v) := by
    rw [run]
    exact settle_rest (s := raiseCueFired cue.number v) running rest
  have mark : ((afterAction k rest (raiseCueFired cue.number v)).slot k).running = !completes k rest v :=
    afterAction_running (v := raiseCueFired cue.number v) running rest
  simp only [fireGo, room, free, Option.getD_some, last, mark, Bool.not_not]
  rfl

theorem goRequest_fires (free : s.engine.hold = false) (standby : standbyCue s = some cue) :
    goRequest s = .ok (goFields (fireGo .port cue s).1, (fireGo .port cue s).2) := by
  simp only [goRequest, goEvent, free, Bool.false_eq_true, if_false, standby]

/-! ## The actions of delay 0 -/

theorem runDue_none (h : ∀ p ∈ (s.slot k).actions, due p = false) :
    runDue k s = s.modSlot k (fun x => { x with actions := (s.slot k).actions }) := by
  rw [runDue_eq, List.filter_eq_nil_iff.2 fun p hp => by simp [h p hp], List.foldl_nil, modSlot_same rfl]

/-- The one action that is due executes and leaves the list. -/
theorem runDue_first {p : PendingAction} {rest : List PendingAction} (running : (s.slot k).running = true)
    (actions : (s.slot k).actions = p :: rest) (first : due p = true) (others : ∀ q ∈ rest, due q = false) :
    runDue k s = (settleOthers k (execAction k false p.action s)).modSlot k (fun x => { x with actions := rest }) := by
  have none : rest.filter due = [] := List.filter_eq_nil_iff.2 fun q hq => by simp [others q hq]
  rw [runDue_eq, actions, List.filter_cons_of_pos first, none, List.foldl_cons, List.foldl_nil]
  refine takeBy_eq (by rw [actions]; exact List.mem_cons_self) running ?_
  rw [actions, List.eraseP_cons_of_pos first]

/-- TRIGGER actions of delay 0, with their codes. -/
def triggersNow (codes : List Nat) : List PendingAction := codes.map (fun c => ⟨⟨0, .trigger c⟩, 0⟩)

/-- The state after codes have joined the trigger queue. -/
def queued (codes : List Nat) (s : State) : State := s.modEngine (fun x => { x with triggers := x.triggers ++ codes })

theorem queued_queued (l m : List Nat) (s : State) : queued m (queued l s) = queued (l ++ m) s := by
  simp only [queued, State.modEngine, List.append_assoc]

theorem queued_modSlot (l : List Nat) (f : Slot → Slot) (s : State) : queued l (s.modSlot k f) = (queued l s).modSlot k f := rfl

theorem actOn_trigger (forced : Bool) (c : Nat) (room : s.engine.triggers.length < 16) :
    actOn k forced (.trigger c) s = queued [c] s := if_pos room

theorem execAction_trigger (forced : Bool) {a : Action} (c : Nat) (body : a.body = .trigger c)
    (room : s.engine.triggers.length < 16) : execAction k forced a s = queued [c] s := by
  have bare : flagSet s.engine.safes (safeFlag a.body) = false := by rw [body]; rfl
  rw [execAction, bare, body]
  exact actOn_trigger (k := k) forced c room

theorem runDue_triggers {codes : List Nat} (running : (s.slot k).running = true)
    (actions : (s.slot k).actions = triggersNow codes) (quiet : unfinished k s)
    (room : s.engine.triggers.length + codes.length ≤ 16) :
    runDue k s = (queued codes s).modSlot k (fun x => { x with actions := [] }) := by
  have all : (triggersNow codes).filter due = triggersNow codes := List.filter_eq_self.2 fun p hp => by
    obtain ⟨c, -, rfl⟩ := List.mem_map.1 hp
    rfl
  rw [runDue_eq, actions, all]
  clear all
  induction codes generalizing s with
  | nil =>
    have same : queued [] s = s := by simp only [queued, State.modEngine, List.append_nil]
    rw [same, modSlot_same (by rw [← show (s.slot k).actions = [] from actions])]
    rfl
  | cons c codes ih =>
    have acts := execAction_trigger (k := k) false (a := ⟨0, .trigger c⟩) c rfl (s := s) (by simp at room; omega)
    have one : takeBy due k s ⟨⟨0, .trigger c⟩, 0⟩ =
        (queued [c] s).modSlot k (fun x => { x with actions := triggersNow codes }) := by
      rw [takeBy_eq (rest := triggersNow codes) (by rw [actions]; exact List.mem_cons_self) running (by rw [actions]; rfl), acts]
      exact congrArg (fun x => State.modSlot x k _) (settleOthers_idle (unfinished_of (fun _ _ => rfl) quiet))
    have own : ((queued [c] s).modSlot k (fun x => { x with actions := triggersNow codes })).slot k =
        { s.slot k with actions := triggersNow codes } := (modSlot_slot ..).trans (if_pos rfl)
    have next := ih (s := (queued [c] s).modSlot k (fun x => { x with actions := triggersNow codes }))
      (by rw [own]; exact running) (by rw [own])
      (unfinished_of (fun i hi => (modSlot_slot ..).trans (if_neg (Ne.symm hi))) quiet)
      (by
        show (s.engine.triggers ++ [c]).length + codes.length ≤ 16
        simp only [List.length_append, List.length_cons, List.length_nil] at room ⊢
        omega)
    show (triggersNow codes).foldl (takeBy due k) (takeBy due k s _) = _
    rw [one, next]
    rw [queued_modSlot, queued_queued, modSlot_modSlot]
    rfl

/-! ## A GO of the host with a free slot (R81, R84) -/

theorem startCue_startedBy (k : Fin 8) (cue : Cue) (s : State) : startCue k .port cue s = startedBy k cue s := rfl

theorem startedBy_slot (k : Fin 8) (cue : Cue) (s : State) :
    (startedBy k cue s).slot k = firedSlot cue (s.engine.serial + 1#32) .port := startCue_slot k .port cue s

theorem startedBy_slot_ne (h : j ≠ k) (cue : Cue) (s : State) : (startedBy k cue s).slot j = s.slot j := by
  rw [← startCue_startedBy, startCue, modSlot_slot, if_neg (Ne.symm h)]
  rfl

/-- What the GO leaves and answers, once its actions of delay 0 have left `v` and `rest`. -/
theorem exec_go_leaves {rest : List PendingAction} (ready : accepts s) (standby : standbyCue s = some cue)
    (hold : s.engine.hold = false) (free : freeSlot s = some k)
    (run : runDue k (startedBy k cue s) = v.modSlot k (fun x => { x with actions := rest }))
    (running : (v.slot k).running = true) (same : settings v = settings (startedBy k cue s)) :
    exec .go s = .next (goLeaves k cue rest v) := by
  have room : makeRoom s = (none, s) := by simp only [makeRoom, free]
  have fires := fireGo_leaves (src := .port) (cue := cue) room free run running
  have serial : s.engine.serial + 1#32 = v.engine.serial := (congrArg (fun x => x.engine.serial) same).symm
  have next : nextAbove cue.number s.cues.cues = v.cues.standby := (congrArg (fun x => x.cues.standby) same).symm
  have done : (if completes k rest v then 1 else 0) = if rest = [] ∧ (v.slot k).owned = 0 then 1 else 0 := by
    unfold completes
    simp only [decide_eq_true_eq]
  refine (next_answered ready (goRequest_fires hold standby)).trans ?_
  rw [fires, goFields, onOff, done, serial, next]
  rfl

end Sys2Proof.Machine

open Sys2Proof Sys2Proof.Machine

/-- Settles O38: the actions of delay 0 run by `runDue_first` or `runDue_triggers`, and `fireGo_leaves` takes the later stages. -/
theorem goStartsSlot : Obligations.GoStartsSlot := by
  unfold Obligations.GoStartsSlot
  intro cue k s ready standby hold free
  have own := startedBy_slot k cue s
  have idle : (s.slot k).running = false := freeSlot_some free
  have running : ((startedBy k cue s).slot k).running = true := by rw [own]; rfl
  have actions : ((startedBy k cue s).slot k).actions = cue.actions.map (fun a => ⟨a, a.delay⟩) := by rw [own]; rfl
  have waits : ∀ {l : List Action}, (∀ a ∈ l, 1 ≤ a.delay) →
      ∀ p ∈ l.map (fun a => (⟨a, a.delay⟩ : PendingAction)), due p = false := fun {l} late p hp => by
    obtain ⟨a, ha, rfl⟩ := List.mem_map.1 hp
    exact decide_eq_false (Nat.pos_iff_ne_zero.1 (late a ha))
  have plain : (∀ a ∈ cue.actions, 1 ≤ a.delay) →
      exec .go s = .next (goLeaves k cue (cue.actions.map (fun a => ⟨a, a.delay⟩)) (startedBy k cue s)) := fun late =>
    exec_go_leaves ready standby hold free (actions ▸ runDue_none (by rw [actions]; exact waits late)) running rfl
  refine ⟨fun _ late => ⟨plain late, fun j hj => startedBy_slot_ne hj cue s⟩, fun none => ?_, fun quiet => ?_⟩
  · have bare := plain (by rw [none]; nofun)
    rwa [none] at bare
  · have quiet' : unfinished k (startedBy k cue s) := unfinished_of (fun j hj => startedBy_slot_ne hj cue s) quiet
    refine ⟨fun codes now room => ?_, fun b rest now late => ?_⟩
    · refine exec_go_leaves ready standby hold free (runDue_triggers running ?_ quiet' room) running rfl
      rw [actions, now, List.map_map]
      rfl
    · have first : ((startedBy k cue s).slot k).actions = ⟨⟨0, b⟩, 0⟩ :: rest.map (fun a => ⟨a, a.delay⟩) := by
        rw [actions, now]
        rfl
      have mem : (⟨⟨0, b⟩, 0⟩ : PendingAction) ∈ ((startedBy k cue s).slot k).actions := by rw [first]; exact List.mem_cons_self
      have settled := settings_settleOthers k (execAction k false ⟨0, b⟩ (startedBy k cue s))
      have acted := settings_execAction k false ⟨0, b⟩ (startedBy k cue s)
      have done := exec_go_leaves ready standby hold free (runDue_first running first rfl (waits late))
        (execAction_running mem running) (settled.trans acted)
      obtain ⟨safe, bare⟩ := action_outcomes (a := ⟨0, b⟩) (s := startedBy k cue s)
        (ends := fun v => exec .go s = .next (goLeaves k cue (rest.map (fun a => ⟨a, a.delay⟩)) v)) quiet' done
      intro u left ends
      refine ⟨safe, fun clear => ?_⟩
      obtain ⟨skips, member, route, trigger, level, call⟩ := bare clear
      refine ⟨skips, member, route, fun code body full => (trigger code body).2 full, level, fun q law body source =>
        call q ?_ body source⟩
      exact (Change.start (G := True) s k .port cue idle (standbyCue_listed standby)).classLaw law
end

section
/-! GO of every source, and the forced completion of the oldest cue (5.3, 5.7). -/

namespace Sys2Proof.Machine

variable {G : Prop} {s t u v : State} {i j k : Fin 8} {src : GoSource} {cue : Cue} {e : FadeEntry} {el : Element}

/-! ## What a GO that fires leaves (R71, R81) -/

/-- CUE_FIRED names the cue. -/
def reportsFired (cue : Cue) (t : State) : Prop :=
  t.attention.details.fired = some cue.number ∧ t.attention.flags.getLsbD 5 = true

theorem reportsFired_raise (cue : Cue) (s : State) : reportsFired cue (raiseCueFired cue.number s) := by
  refine ⟨rfl, ?_⟩
  show (s.attention.flags ||| 0x20#16).getLsbD 5 = true
  rw [BitVec.getLsbD_or, show (0x20#16).getLsbD 5 = true from rfl, Bool.or_true]

theorem reportsFired_settle (h : reportsFired cue s) (k : Fin 8) : reportsFired cue (settle k s) := by
  rcases settle_cases k s with ⟨-, e⟩ | ⟨-, e⟩ <;> rw [e]
  · exact h
  · obtain ⟨detail, flag⟩ := h
    refine ⟨detail, ?_⟩
    show (s.attention.flags ||| 0x40#16).getLsbD 5 = true
    rw [BitVec.getLsbD_or, flag, Bool.true_or]

theorem reportsFired_fireGo (src : GoSource) (cue : Cue) (s : State) : reportsFired cue (fireGo src cue s).2 := by
  rw [fireGo_eq]
  exact reportsFired_settle (reportsFired_raise cue _) _

theorem firedBy_of_settings (same : settings t = settings (fired cue s)) (reports : reportsFired cue t) : firedBy cue s t := by
  obtain ⟨detail, flag⟩ := reports
  exact ⟨congrArg (fun x => x.cues.cues) same, congrArg (fun x => x.cues.standby) same, congrArg (fun x => x.engine.serial) same,
    congrArg (fun x => x.engine.lastInterval) same, congrArg (fun x => x.engine.timer) same,
    congrArg (fun x => x.engine.follow) same, congrArg (fun x => x.engine.hold) same, congrArg (fun x => x.engine.safes) same,
    detail, flag, congrArg (fun x => x.monitors) same, congrArg (fun x => x.mixer) same,
    congrArg (fun x => x.links.clock) same, congrArg (fun x => x.links.outputs) same, congrArg (fun x => x.resets) same,
    congrArg (fun x => x.pending) same, congrArg (fun x => x.foldback.talkbacks) same,
    congrArg (fun x => x.relay.presets) same⟩

theorem firedBy_fireGo (src : GoSource) (cue : Cue) (s : State) : firedBy cue s (fireGo src cue s).2 :=
  firedBy_of_settings (settings_fireGo src cue s) (reportsFired_fireGo src cue s)

/-- An acting edge of GO_N is a GO of the line (R76, R80). -/
theorem goPress_fires {e : Edge} (acts : edgeActs s.engine.goInput e = true) (hold : s.engine.hold = false)
    (standby : standbyCue s = some cue) :
    goPress e s = (fireGo .line cue (s.modEngine (fun x => { x with goInput := acceptEdge e x.goInput }))).2 := by
  rw [goPress_acts acts]
  exact goUnasked_fires (s := s.modEngine (fun x => { x with goInput := acceptEdge e x.goInput })) .line hold standby

/-- The timer has counted, and the follow compare is disarmed (R94, R95). -/
def disarmed (s : State) : State := s.modEngine (fun x => { x with timer := x.timer + 1, follow := none })

/-- The follow compare that reaches its time at an end gives a GO (R94, R95). -/
theorem takeCounts_fires {time : Nat} (hold : s.engine.hold = false) (armed : s.engine.follow = some time)
    (reached : max time 1 ≤ s.engine.timer + 1) (below : s.engine.timer < Config.timerTop) (standby : standbyCue s = some cue) :
    firedBy cue (s.modEngine (fun x => { x with timer := x.timer + 1 })) (takeCounts s) ∧ (takeCounts s).port = s.port := by
  have same := settings_countSlots s
  obtain ⟨cues, timer, follow, held⟩ := followView_eq_iff.1 (followView_countSlots s)
  have fires := countTimer_reached (s := countSlots s) (by rw [held, hold]) (by rw [follow, armed]) (by rwa [timer]) (by rwa [timer])
  have left : takeCounts s = (fireGo .follow cue (disarmed (countSlots s))).2.modEnding (fun x => { x with counted := true }) := by
    refine congrArg (fun u => State.modEnding u (fun x => { x with counted := true })) (fires.trans (goUnasked_fires .follow ?_ ?_))
    · exact held.trans hold
    · show (countSlots s).cues.standby.bind (fun n => (countSlots s).cues.cues.find? (fun c => c.number = n)) = _
      rw [cues]
      exact standby
  have settled := settings_fireGo .follow cue (disarmed (countSlots s))
  have reports := reportsFired_fireGo .follow cue (disarmed (countSlots s))
  rw [left]
  generalize (fireGo .follow cue (disarmed (countSlots s))).2 = w at *
  have port : w.port = s.port := (congrArg (fun x => x.port) settled).trans (congrArg (fun x => x.port) same)
  refine ⟨firedBy_of_settings (t := w.modEnding _) (Eq.trans (b := settings w) rfl (settled.trans ?_)) reports, port⟩
  show settings (fired cue (disarmed (settings (countSlots s)))) = settings (fired cue (disarmed (settings s)))
  rw [same]

/-! ## The completion of the entries a cue owns (R53, R56) -/

/-- The completion of an entry that a cue may own tells no owner of its element (R53). -/
theorem completeEntry_open (opens : elemOpen e.element = true) (s : State) : completeEntry e s = completed e s := by
  rw [completeEntry_eq]
  cases h : e.element with
  | xout r => rw [h] at opens; cases opens
  | _ => rfl

theorem completed_attention (e : FadeEntry) (s : State) : (completed e s).attention = s.attention := by
  simp [completed]

theorem completed_triggers (e : FadeEntry) (s : State) : (completed e s).engine.triggers = s.engine.triggers := by
  simp [completed]

section
variable {l : List FadeEntry} (owned : ∀ e ∈ l, e.owner = .cue k ∧ elemOpen e.element = true)
include owned

/-- They lower the one owner's count alone, and raise nothing. -/
theorem completeAll_stands (s : State) :
    (l.foldl (fun s e => completeEntry e s) s).attention = s.attention ∧
      (l.foldl (fun s e => completeEntry e s) s).engine.triggers = s.engine.triggers ∧
      ∀ j, j ≠ k → (l.foldl (fun s e => completeEntry e s) s).slot j = s.slot j := by
  refine ⟨foldl_stands (get := fun u => u.attention) (fun u e he => ?_) s,
    foldl_stands (get := fun u => u.engine.triggers) (fun u e he => ?_) s, fun j hj =>
    foldl_stands (get := fun u => u.slot j) (fun u e he => ?_) s⟩
  all_goals
    obtain ⟨owner, opens⟩ := owned e he
    rw [completeEntry_open opens]
  · exact completed_attention e u
  · exact completed_triggers e u
  · rw [completed_slot, owner, gains, if_neg (fun h => hj (FadeOwner.cue.inj h).symm)]
    rfl

theorem completeAll_value_ne (other : ∀ e ∈ l, e.element ≠ el) (s : State) :
    (l.foldl (fun s e => completeEntry e s) s).value? el = s.value? el := by
  refine foldl_stands (get := fun u => u.value? el) (fun u e he => ?_) s
  rw [completeEntry_open (owned e he).2, completed_value, if_neg (Ne.symm (other e he))]

/-- The element of each stands at its target. -/
theorem completeAll_value (distinct : (l.map (fun e => e.element)).Nodup) (mem : e ∈ l) (s : State) :
    (l.foldl (fun s e => completeEntry e s) s).value? e.element =
      (s.value? e.element).map (fun _ => elemClamp e.element e.target) := by
  obtain ⟨first, last, rfl⟩ := List.append_of_mem mem
  rw [List.map_append, List.map_cons] at distinct
  obtain ⟨-, fresh, apart⟩ := List.nodup_append.1 distinct
  have later : ∀ x ∈ last, x.element ≠ e.element := fun x hx h =>
    (List.nodup_cons.1 fresh).1 (h ▸ List.mem_map_of_mem hx)
  have sooner : ∀ x ∈ first, x.element ≠ e.element := fun x hx h =>
    apart x.element (List.mem_map_of_mem hx) e.element List.mem_cons_self h
  rw [List.foldl_append, List.foldl_cons,
    completeAll_value_ne (fun x hx => owned x (by simp [hx])) later,
    completeEntry_open (owned e mem).2, completed_value, if_pos rfl,
    completeAll_value_ne (fun x hx => owned x (by simp [hx])) sooner]

end

theorem mem_completeAll (l : List FadeEntry) (s : State) (e : FadeEntry) :
    e ∈ (l.foldl (fun s e => completeEntry e s) s).fades ↔ e ∈ s.fades ∧ ∀ x ∈ l, e.element ≠ x.element := by
  induction l generalizing s with
  | nil => simp
  | cons x l ih =>
    rw [List.foldl_cons, ih, completeEntry_fades]
    simp [and_assoc]

section
variable (classes : classLaw s)
include classes

theorem owned_open : ∀ e ∈ s.fades.filter (fun e => e.owner = .cue k), e.owner = .cue k ∧ elemOpen e.element = true := by
  intro e he
  obtain ⟨mem, owner⟩ := List.mem_filter.1 he
  have owner : e.owner = .cue k := of_decide_eq_true owner
  exact ⟨owner, classes.1 e mem (by rw [owner]; nofun)⟩

theorem completeOwned_stands (k : Fin 8) :
    (completeOwned k s).attention = s.attention ∧ (completeOwned k s).engine.triggers = s.engine.triggers ∧
      ∀ j, j ≠ k → (completeOwned k s).slot j = s.slot j :=
  completeAll_stands (owned_open classes) s

theorem completeOwned_value_ne (other : ∀ e ∈ s.fades, e.owner = .cue k → e.element ≠ el) :
    (completeOwned k s).value? el = s.value? el := by
  refine completeAll_value_ne (owned_open classes) (fun e he => ?_) s
  obtain ⟨mem, owner⟩ := List.mem_filter.1 he
  exact other e mem (of_decide_eq_true owner)

theorem completeOwned_value (law : fadeLaw s) (mem : e ∈ s.fades) (owner : e.owner = .cue k) :
    (completeOwned k s).value? e.element = (s.value? e.element).map (fun _ => elemClamp e.element e.target) :=
  completeAll_value (owned_open classes) (law.2.sublist (List.filter_sublist.map _))
    (List.mem_filter.2 ⟨mem, decide_eq_true owner⟩) s

end

/-- Exactly the entries of other owners stay. -/
theorem mem_completeOwned (law : fadeLaw s) (k : Fin 8) (e : FadeEntry) :
    e ∈ (completeOwned k s).fades ↔ e ∈ s.fades ∧ e.owner ≠ .cue k := by
  refine (mem_completeAll ..).trans (and_congr_right fun mem => ⟨fun apart owner => ?_, fun owner x hx same => ?_⟩)
  · exact apart e (List.mem_filter.2 ⟨mem, decide_eq_true owner⟩) rfl
  · obtain ⟨there, owns⟩ := List.mem_filter.1 hx
    exact owner (List.inj_on_of_nodup_map law.2 mem there same ▸ of_decide_eq_true owns)

/-! ## The oldest cue makes room (R83) -/

/-- The state in which the forced cue's actions have executed. -/
def forcedActions (k : Fin 8) (s : State) : State :=
  (s.slot k).actions.foldl (fun s p => settleOthers k (execAction k true p.action s)) s

theorem forceComplete_eq (k : Fin 8) (s : State) :
    forceComplete k s =
      raiseCueForced ((s.slot k).cue.getD 0) ((completeOwned k (forcedActions k s)).modSlot k (fun _ => {})) := rfl

theorem forcedActions_laws (running : (s.slot k).running = true) (law : fadeLaw s) (classes : classLaw s) :
    fadeLaw (forcedActions k s) ∧ classLaw (forcedActions k s) := by
  have run := run_forcedActions (G := True) (l := (s.slot k).actions) (.inl running) fun _ h => h
  exact ⟨run.fadeLaw law, run.keeps (P := classLaw) (fun _ _ _ _ change => change.classLaw) classes⟩

/-- The oldest of eight RUNNING slots is the one taken. -/
theorem makeRoom_oldest (full : ∀ j, (s.slot j).running = true)
    (oldest : ∀ j, j ≠ k → (s.engine.serial - (s.slot j).serial).toNat < (s.engine.serial - (s.slot k).serial).toNat) :
    makeRoom s = ((s.slot k).cue, forceComplete k s) := by
  have none : freeSlot s = none := List.find?_eq_none.2 fun j _ => by simp [full j]
  have mem := (mem_slotsByAge s k).2 (full k)
  have sorted := slotsByAge_sorted s
  unfold makeRoom
  rw [none]
  generalize slotsByAge s = l at mem sorted
  cases l with
  | nil => cases mem
  | cons j l =>
    obtain rfl : j = k := by
      by_contra hj
      rcases List.mem_cons.1 mem with h | h
      · exact hj h.symm
      · have first := (List.pairwise_cons.1 sorted).1 k h
        have := oldest j hj
        unfold before slotAge at first
        omega
    rfl

theorem freeSlot_only (free : (u.slot k).running = false) (full : ∀ j, j ≠ k → (u.slot j).running = true) :
    freeSlot u = some k := by
  cases h : freeSlot u with
  | none => exact absurd (freeSlot_none h k) (by rw [free]; nofun)
  | some j =>
    by_contra hj
    have := full j fun e => hj (e ▸ rfl)
    rw [freeSlot_some h] at this
    cases this

/-- What a GO of the host leaves that force-completes the cue of slot `k`, whose actions have left `v` (R83, R84). -/
def forcedGo (k : Fin 8) (cue : Cue) (s v : State) : State :=
  answered 25 [.two cue.number, .byte (num k), .four (s.engine.serial + 1#32).toNat,
      .two ((nextAbove cue.number s.cues.cues).getD 0), .two ((s.slot k).cue.getD 0), .byte 0]
    (raiseCueFired cue.number (startCue k .port cue
      (raiseCueForced ((s.slot k).cue.getD 0) ((completeOwned k v).modSlot k (fun _ => {})))))

/-- The slot that runs the cue from a GO of the host on (R78, R81). -/
def freshSlot (cue : Cue) (s : State) : Slot :=
  ⟨true, some cue.number, s.engine.serial + 1#32, some .port, 0, cue.actions.map (fun a => ⟨a, a.delay⟩), 0, 0⟩

/-- The new cue runs in the slot of the forced one, which CUE_FORCED and the answer name (R83, R84). -/
def forcedStart (k : Fin 8) (cue : Cue) (s t : State) : Prop :=
  t.slot k = freshSlot cue s ∧
    t.attention.details.forced = some ((s.slot k).cue.getD 0) ∧ t.attention.flags.getLsbD 7 = true ∧
    (∀ e ∈ t.fades, e.owner ≠ .cue k) ∧
    t.port.response = .ready ⟨.ok, 25, [.two cue.number, .byte (num k), .four (s.engine.serial + 1#32).toNat,
      .two (t.cues.standby.getD 0), .two ((s.slot k).cue.getD 0), .byte 0]⟩

section
variable (ready : accepts s) (standby : standbyCue s = some cue) (hold : s.engine.hold = false) (some_ : cue.actions ≠ [])
  (late : ∀ a ∈ cue.actions, 1 ≤ a.delay) (full : ∀ j, (s.slot j).running = true)
  (oldest : ∀ j, j ≠ k → (s.engine.serial - (s.slot j).serial).toNat < (s.engine.serial - (s.slot k).serial).toNat)
  (law : fadeLaw s) (classes : classLaw s) (acted : forcedActions k s = v) (others : ∀ j, j ≠ k → v.slot j = s.slot j)
include full law classes acted

theorem forcedActions_owned : fadeLaw v ∧ classLaw v := by
  rw [← acted]
  exact forcedActions_laws (full k) law classes

include others

theorem forced_slot_ne (hj : j ≠ k) :
    (raiseCueForced ((s.slot k).cue.getD 0) ((completeOwned k v).modSlot k (fun _ => {}))).slot j = s.slot j := by
  obtain ⟨-, classes⟩ := forcedActions_owned full law classes acted
  obtain ⟨-, -, stand⟩ := completeOwned_stands classes k
  exact (modSlot_slot ..).trans ((if_neg (Ne.symm hj)).trans ((stand j hj).trans (others j hj)))

include ready standby hold some_ late oldest

theorem exec_go_forced : exec .go s = .next (forcedGo k cue s v) := by
  have slots := fun j hj => forced_slot_ne (j := j) full law classes acted others hj
  have room := makeRoom_oldest full oldest
  rw [forceComplete_eq, acted] at room
  have same : settings _ = settings s := (congrArg settings (forceComplete_eq k s)).symm.trans (settings_forceComplete k s)
  rw [acted] at same
  have own : (raiseCueForced ((s.slot k).cue.getD 0) ((completeOwned k v).modSlot k (fun _ => {}))).slot k = {} :=
    (modSlot_slot ..).trans (if_pos rfl)
  unfold forcedGo
  generalize raiseCueForced ((s.slot k).cue.getD 0) ((completeOwned k v).modSlot k (fun _ => {})) = u at *
  have free : freeSlot u = some k := freeSlot_only (by rw [own]) fun j hj => by rw [slots j hj, full j]
  have slot := startCue_slot k .port cue u
  have running : ((startCue k .port cue u).slot k).running = true := by rw [slot]; rfl
  have run := runDue_none (k := k) (s := startCue k .port cue u) (by
    intro p hp
    rw [slot] at hp
    obtain ⟨a, ha, rfl⟩ := List.mem_map.1 hp
    exact decide_eq_false (Nat.pos_iff_ne_zero.1 (late a ha)))
  have pending : ((startCue k .port cue u).slot k).actions ≠ [] := by
    rw [slot]
    exact fun h => some_ (List.map_eq_nil_iff.1 h)
  have fires := fireGo_leaves (src := .port) (cue := cue) room free run running
  have stays : afterAction k ((startCue k .port cue u).slot k).actions (raiseCueFired cue.number (startCue k .port cue u)) =
      raiseCueFired cue.number (startCue k .port cue u) :=
    (if_neg fun h => pending h.1).trans (modSlot_same rfl)
  have open_ : completes k ((startCue k .port cue u).slot k).actions (startCue k .port cue u) = false :=
    decide_eq_false fun h => pending h.1
  have serial : u.engine.serial = s.engine.serial := congrArg (fun x => x.engine.serial) same
  have cues : u.cues = s.cues := congrArg (fun x => x.cues) same
  refine (next_answered ready (goRequest_fires hold standby)).trans ?_
  rw [fires, stays, open_, serial, cues, goFields]
  cases (s.slot k).cue <;> rfl

/-- What every GO leaves that force-completes a cue. -/
theorem forcedGo_leaves : ∃ t, exec .go s = .next t ∧ firedBy cue s t ∧ forcedStart k cue s t ∧
    (∀ j, j ≠ k → t.slot j = s.slot j) ∧
    t.attention = { v.attention with
      flags := v.attention.flags ||| 0xA0#16
      details := { v.attention.details with forced := some ((s.slot k).cue.getD 0), fired := some cue.number } } ∧
    t.fades = (completeOwned k v).fades ∧ t.value? = (completeOwned k v).value? ∧
    t.engine.triggers = v.engine.triggers := by
  have slots := fun j hj => forced_slot_ne (j := j) full law classes acted others hj
  have same : settings _ = settings s := (congrArg settings (forceComplete_eq k s)).symm.trans (settings_forceComplete k s)
  rw [acted] at same
  have none := completeOwned_owner k v
  obtain ⟨-, open_⟩ := forcedActions_owned full law classes acted
  obtain ⟨quiet, triggers, -⟩ := completeOwned_stands open_ k
  refine ⟨_, exec_go_forced ready standby hold some_ late full oldest law classes acted others, ?_⟩
  unfold forcedGo
  generalize hw : completeOwned k v = w at *
  have flags : (w.attention.flags ||| 0x80#16) ||| 0x20#16 = w.attention.flags ||| 0xA0#16 := by rw [BitVec.or_assoc]; rfl
  have serial : w.engine.serial = s.engine.serial := congrArg (fun x => x.engine.serial) same
  have cues : w.cues.cues = s.cues.cues := congrArg (fun x => x.cues.cues) same
  have fires : firedBy cue s (raiseCueFired cue.number (startCue k .port cue
      (raiseCueForced ((s.slot k).cue.getD 0) (w.modSlot k (fun _ => {}))))) :=
    firedBy_of_settings (Eq.trans rfl (settings_fired same cue)) (reportsFired_raise cue _)
  refine ⟨fires, ⟨?_, rfl, ?_, none, ?_⟩, fun j hj => ?_, ?_, rfl, rfl, triggers⟩
  · refine (startCue_slot k .port cue _).trans ?_
    show firedSlot cue (w.engine.serial + 1#32) .port = _
    rw [serial]
    rfl
  · show ((w.attention.flags ||| 0x80#16) ||| 0x20#16).getLsbD 7 = true
    rw [flags, BitVec.getLsbD_or, show (0xA0#16).getLsbD 7 = true from rfl, Bool.or_true]
  · show _ = PortResponse.ready ⟨.ok, 25, [_, _, _, .two ((nextAbove cue.number w.cues.cues).getD 0), _, _]⟩
    rw [cues]
    rfl
  · refine Eq.trans ?_ (slots j hj)
    show (startCue k .port cue _).slot j = _
    rw [startCue, modSlot_slot, if_neg (Ne.symm hj)]
    rfl
  · rw [← quiet, ← flags]
    rfl

end

/-! ## The forced actions (R83, R86 to R88) -/

/-- Actions whose safe flags are set leave nothing. -/
theorem forcedActions_safe (quiet : unfinished k s)
    (safe : ∀ p ∈ (s.slot k).actions, flagSet s.engine.safes (safeFlag p.action.body) = true) : forcedActions k s = s := by
  unfold forcedActions
  generalize (s.slot k).actions = l at safe
  induction l with
  | nil => rfl
  | cons p l ih =>
    have none : execAction k true p.action s = s := if_pos (safe p List.mem_cons_self)
    rw [List.foldl_cons, none, settleOthers_idle quiet]
    exact ih fun q hq => safe q (List.mem_cons_of_mem p hq)

/-- TRIGGER actions append their codes in order (R88, R91). -/
theorem forcedActions_triggers {codes : List Nat} (quiet : unfinished k s)
    (bodies : (s.slot k).actions.map (fun p => p.action.body) = codes.map .trigger)
    (room : s.engine.triggers.length + codes.length ≤ 16) : forcedActions k s = queued codes s := by
  unfold forcedActions
  generalize (s.slot k).actions = l at bodies
  induction codes generalizing s l with
  | nil =>
    obtain rfl := List.map_eq_nil_iff.1 bodies
    simp only [queued, State.modEngine, List.append_nil, List.foldl_nil]
  | cons c codes ih =>
    cases l with
    | nil => cases bodies
    | cons p l =>
      obtain ⟨body, bodies⟩ := List.cons.inj bodies
      rw [List.length_cons] at room
      have quiet' : unfinished k (queued [c] s) := quiet
      rw [List.foldl_cons, execAction_trigger true c body (by omega), settleOthers_idle quiet']
      refine (ih quiet' (by simp [queued, State.modEngine]; omega) l bodies).trans (queued_queued ..)

/-- A LEVEL action is written at once, every fade time being taken as 0 (R45, R83). -/
theorem forcedActions_level {p : PendingAction} {z : Int} {time : Nat} (quiet : unfinished k s)
    (actions : (s.slot k).actions = [p]) (body : p.action.body = .level el z time)
    (clear : flagSet s.engine.safes (elemFlag el) = false) (there : s.available el = true)
    (unowned : ∀ e, s.entry? el = some e → ∀ j, j ≠ k → e.owner ≠ .cue j) :
    stands el (elemClamp el z) (forcedActions k s) ∧ ∀ j, j ≠ k → (forcedActions k s).slot j = s.slot j := by
  obtain ⟨cur, hv⟩ := value_of_available there
  obtain ⟨-, leaves⟩ := fadeRequest_stands (d := 0) (o := .cue k) (z := z) hv (.inl rfl)
  have slots : ∀ j, j ≠ k → (fadeRequest el z 0 (.cue k) s).2.slot j = s.slot j := fun j hj => by
    have none : lostTo j (s.entry? el) = 0 := by
      cases he : s.entry? el with
      | none => rfl
      | some e => exact if_neg (unowned e he j hj)
    rw [fadeRequest_set hv (.inl rfl), directWrite_slot, none]
    rfl
  have whole : forcedActions k s = (fadeRequest el z 0 (.cue k) s).2 := by
    have bare : flagSet s.engine.safes (safeFlag p.action.body) = false := by rw [body]; exact clear
    rw [forcedActions, actions, List.foldl_cons, List.foldl_nil, execAction, bare, body]
    simp only [actOn, there, Bool.false_eq_true, if_false, if_true]
    exact settleOthers_idle (unfinished_of slots quiet)
  rw [whole]
  exact ⟨leaves, slots⟩

end Sys2Proof.Machine

open Sys2Proof Sys2Proof.Machine

/-- Settles O37: every GO that fires is `fireGo`, and a forced completion is `forcedGo_leaves` over what the forced actions leave. -/
theorem goFires : Obligations.GoFires := by
  unfold Obligations.GoFires
  refine ⟨fun cue e s standby => ⟨fun ready hold => ?_, fun takes => lineEdge_ok takes, fun acts hold => ?_,
    fun time parts counted hold armed reached below => ?_⟩,
    fun cue k s ready law classes standby hold some late full quiet oldest => ?_⟩
  · have fires := firedBy_fireGo .port cue s
    have named : (fireGo .port cue s).1.cue = cue.number := by simp only [fireGo]
    have go := goRequest_fires hold standby
    generalize fireGo .port cue s = w at *
    rw [goFields, named] at go
    exact ⟨_, next_answered ready go, fires, _, rfl⟩
  · have same := settings_fireGo .line cue (s.modEngine (fun x => { x with goInput := acceptEdge e x.goInput }))
    have fires := firedBy_fireGo .line cue (s.modEngine (fun x => { x with goInput := acceptEdge e x.goInput }))
    rw [goPress_fires acts hold standby]
    generalize (fireGo .line cue (s.modEngine (fun x => { x with goInput := acceptEdge e x.goInput }))).2 = w at *
    exact ⟨fires, congrArg (fun x => x.port) same, congrArg (fun x => x.engine.goInput) same⟩
  · obtain ⟨fires, port⟩ := takeCounts_fires (s := beginBlock .cue s) hold armed reached below standby
    have ending := takeCounts_ending (beginBlock .cue s)
    refine ⟨_, (blockPart_ok parts).trans (congrArg _ (followGo_reached hold counted armed reached)), fires, port, ?_⟩
    rw [ending]
    exact ⟨rfl, rfl, rfl⟩
  · have go := fun v acted others => forcedGo_leaves (v := v) ready standby hold some late full oldest law classes acted others
    have quiet : unfinished k s := quiet
    intro forced started
    refine ⟨fun safe => ?_, fun codes bodies room => ?_, fun p el z time actions body clear there unowned => ?_⟩
    · obtain ⟨t, run, fires, starts, slots, attention, fades, values, -⟩ :=
        go s (forcedActions_safe quiet safe) fun _ _ => rfl
      refine ⟨t, run, fires, starts, slots, attention, fun e => ?_, fun e mem owner value => ?_, fun el other => ?_⟩
      · rw [fades]
        exact mem_completeOwned law k e
      · rw [values, completeOwned_value classes law mem owner]
        obtain ⟨z, hz⟩ := Option.isSome_iff_exists.1 value
        rw [hz]
        rfl
      · rw [values]
        exact completeOwned_value_ne classes other
    · obtain ⟨t, run, fires, starts, -, -, -, -, triggers⟩ :=
        go (queued codes s) (forcedActions_triggers quiet bodies room) fun _ _ => rfl
      exact ⟨t, run, fires, starts, triggers⟩
    · obtain ⟨⟨gone, value⟩, others⟩ := forcedActions_level quiet actions body clear there unowned
      obtain ⟨-, classes'⟩ := forcedActions_laws (full k) law classes
      obtain ⟨t, run, fires, starts, -, -, fades, values, -⟩ := go _ rfl others
      have absent : ∀ e ∈ (forcedActions k s).fades, e.element ≠ el := fun e he => by
        simpa using List.find?_eq_none.1 gone e he
      refine ⟨t, run, fires, starts, ?_, ?_⟩
      · rw [State.entry?, fades]
        exact List.find?_eq_none.2 fun e he => by
          simpa using absent e ((mem_completeAll ..).1 he).1
      · rw [values, completeOwned_value_ne classes' fun e he _ => absent e he, value]
end

section
/-! A GO and the filter of CALL_N: the one neither reads nor writes the other (5.1, 5.3). -/

namespace Sys2Proof.Machine

variable {s t u v : State} {f g : State → State} {i j k : Fin 8}

/-- The state with the record of CALL_N replaced. -/
def withCall (c : ShowInput) (s : State) : State := s.modEngine (fun x => { x with callInput := c })

/-- What neither reads nor writes the record of CALL_N. -/
def blind (f : State → State) : Prop := ∀ c s, f (withCall c s) = withCall c (f s)

theorem blind.comp (hf : blind f) (hg : blind g) : blind (fun s => f (g s)) := fun c s => by
  show f (g (withCall c s)) = _
  rw [hg, hf]

theorem blind_id : blind (fun s => s) := fun _ _ => rfl

theorem blind_foldl {β : Type} {step : State → β → State} (h : ∀ b, blind (fun s => step s b)) (l : List β) :
    blind (fun s => l.foldl step s) := fun c s => by
  induction l generalizing s with
  | nil => rfl
  | cons b l ih => exact (congrArg (fun x => l.foldl step x) (h b c s)).trans (ih _)

/-- A choice that the record of CALL_N does not decide. -/
theorem blind_ite {p : State → Bool} (hp : ∀ c s, p (withCall c s) = p s) (hf : blind f) (hg : blind g) :
    blind (fun s => if p s then f s else g s) := fun c s => by
  by_cases h : p s = true
  · exact (if_pos ((hp c s).trans h)).trans ((hf c s).trans (congrArg (withCall c) (if_pos h).symm))
  · exact (if_neg ((hp c s).symm ▸ h)).trans ((hg c s).trans (congrArg (withCall c) (if_neg h).symm))

/-! ## Fades (3.4 to 3.7) -/

theorem blind_lossReport (o : FadeOwner) : blind (lossReport o) := fun c s => by cases o <;> rfl

theorem blind_gainReport (o : FadeOwner) : blind (gainReport o) := fun c s => by cases o <;> rfl

theorem blind_noteFresh (el : Element) : blind (noteFresh el) :=
  blind_ite (p := fun s => s.ending.due) (fun _ _ => rfl) (fun _ _ => rfl) blind_id

theorem blind_write (el : Element) (z : Int) : blind (fun s => s.write el z) := fun c s => by cases el <;> rfl

theorem blind_removeEntry (el : Element) : blind (removeEntry el) := fun c s => by
  have same : (withCall c s).entry? el = s.entry? el := rfl
  unfold removeEntry
  rw [same]
  cases s.entry? el with
  | none => rfl
  | some e => exact blind_lossReport e.owner c { s with fades := s.fades.filter (fun x => x.element ≠ el) }

theorem blind_directWrite (el : Element) (z : Int) : blind (directWrite el z) :=
  (blind_write el z).comp (blind_removeEntry el)

theorem blind_newEntry (e : FadeEntry) : blind (newEntry e) :=
  ((blind_noteFresh e.element).comp (blind_gainReport e.owner)).comp (g := fun s => { s with fades := s.fades ++ [e] })
    fun _ _ => rfl

theorem blind_replaceEntry (old e : FadeEntry) : blind (replaceEntry old e) :=
  (((blind_noteFresh e.element).comp (blind_lossReport old.owner)).comp (blind_gainReport e.owner)).comp
    (g := fun s => { s with fades := s.fades.map (fun x => if x.element = e.element then e else x) }) fun _ _ => rfl

theorem blind_fadeRequest (el : Element) (z : Int) (d : Nat) (o : FadeOwner) :
    blind (fun s => (fadeRequest el z d o s).2) := fun c s => by
  have value : (withCall c s).value? el = s.value? el := rfl
  have entry : (withCall c s).entry? el = s.entry? el := rfl
  have fades : (withCall c s).fades = s.fades := rfl
  simp only [fadeRequest, value, entry, fades]
  cases s.value? el with
  | none => rfl
  | some cur =>
    by_cases direct : min d Config.longestFade = 0 ∨ elemClamp el z = cur
    · simp only [if_pos direct]
      exact blind_directWrite ..
    · simp only [if_neg direct]
      cases s.entry? el with
      | some old => exact blind_replaceEntry ..
      | none =>
        by_cases room : s.fades.length < Config.fadePlaces
        · simp only [if_pos room]
          exact blind_newEntry ..
        · simp only [if_neg room]
          exact congrArg (raiseFadeSnap 1) (blind_directWrite ..)

/-! ## Completions (1.9, 3.6, 5.2) -/

theorem blind_settle (k : Fin 8) : blind (settle k) :=
  blind_ite (p := fun s => finished (s.slot k)) (fun _ _ => rfl) (fun _ _ => rfl) blind_id

theorem blind_settleOthers (k : Fin 8) : blind (settleOthers k) := blind_foldl (fun j => blind_settle j) _

theorem blind_endCrossfade (r : Fin 64) : blind (endCrossfade r) := fun c s => by
  have same : (withCall c s).role r = s.role r := rfl
  have unbound : ∀ o, blind (unbindOpt o) := fun o => by cases o <;> exact fun _ _ => rfl
  unfold endCrossfade
  rw [same, unbound]
  exact blind_directWrite (.xout r) 0 c ((unbindOpt (s.role r).releasing s).modRole r (fun x => { x with releasing := none }))

theorem blind.completeEntry (e : FadeEntry) : blind (completeEntry e) := by
  have done : blind (completed e) := ((blind_lossReport e.owner).comp (blind_write e.element e.target)).comp
    (g := fun s => { s with fades := s.fades.filter (fun x => x.element ≠ e.element) }) fun _ _ => rfl
  refine blind.comp (f := ownerTold e.element) ?_ done
  cases e.element with
  | xout r => exact blind_endCrossfade r
  | _ => exact blind_id

theorem blind.completeOwned (k : Fin 8) : blind (completeOwned k) := fun c s =>
  blind_foldl (fun e => blind.completeEntry e) (s.fades.filter (fun e => e.owner = .cue k)) c s

/-! ## Calls (7.4 to 7.6) -/

theorem blind_handover (o n : BitVec 32) (depth : Int) : blind (handover o n depth) := by
  refine blind_foldl (fun st => ?_) _
  refine blind_ite (p := fun _ => inSet n st) (fun _ _ => rfl) ?_
    (blind_ite (p := fun _ => inSet o st) (fun _ _ => rfl) ?_ blind_id)
  · exact blind.comp (blind_fadeRequest (.duck st) _ _ .system) (g := fun s => s.modStation st (fun x => { x with inCall := true })) fun _ _ => rfl
  · exact blind.comp (blind_fadeRequest (.duck st) _ _ .system) (g := fun s => s.modStation st (fun x => { x with inCall := false })) fun _ _ => rfl

theorem blind_advanced (l : List Call) : blind (advanced l) := fun c s => by
  have told := blind_foldl (step := fun s p => raiseCallChange p .noTarget s) (fun _ _ _ => rfl) (pickCall s l).2.2 c s
  unfold advanced
  rw [pickCall_congr (t := withCall c s) (s := s) fun _ => rfl]
  exact congrArg (fun x => State.modRelay x _) told

theorem blind_advance (o : BitVec 32) (l : List Call) : blind (advance o l) := fun c s => by
  have depth : ∀ a, activeDepth (withCall c s) a = activeDepth s a := fun a => by cases a <;> rfl
  rw [advance_at, advance_at, pickCall_congr (t := withCall c s) (s := s) fun _ => rfl, depth, blind_advanced]
  exact blind_handover o _ _ c (advanced l s)

theorem victim_withCall (c : ShowInput) (s : State) (l : List Call) : victim (withCall c s) l = victim s l := by
  induction l with
  | nil => rfl
  | cons d l ih =>
    rw [victim, victim, ih]
    rfl

theorem joinQueue_withCall (c : ShowInput) (d : Call) (s : State) :
    joinQueue d (withCall c s) = (joinQueue d s).map (fun p => (withCall c p.1, p.2)) := by
  have relay : (withCall c s).relay = s.relay := rfl
  unfold joinQueue
  rw [victim_withCall, relay]
  split
  · rfl
  · cases victim s s.relay.queue with
    | none => rfl
    | some x =>
      show (if _ then _ else _) = Option.map _ (if _ then _ else _)
      split <;> rfl

theorem callRequest_withCall (c : ShowInput) (p : Fin 16) (o : Origin) (s : State) :
    callRequest p o (withCall c s) = ((callRequest p o s).1, withCall c (callRequest p o s).2) := by
  by_cases source : (s.preset p).source.isSome = true
  case neg =>
    have none := Option.not_isSome_iff_eq_none.1 source
    rw [callRequest_empty none, callRequest_empty (s := withCall c s) none]
  cases lives : callLives p s with
  | true => rw [callRequest_lives source lives, callRequest_lives (s := withCall c s) source lives]
  | false =>
    cases active : s.relay.active with
    | none =>
      have next := blind_advance 0#32 (newCall p o s :: s.relay.queue) c (countArrival s)
      have lhs := callRequest_idle (s := withCall c s) (o := o) source lives active
      rw [callRequest_idle source lives active, lhs]
      show (CallReply.accepted _ (activationOutcome (newCall p o s) (advance 0#32 (newCall p o s :: s.relay.queue)
        (withCall c (countArrival s)))) none, advance 0#32 (newCall p o s :: s.relay.queue) (withCall c (countArrival s))) = _
      rw [next]
      rfl
    | some a =>
      by_cases takes : (s.preset p).priority = .urgent ∧ rank a.call.priority < 3
      · have next := blind_advance a.stations (newCall p o s :: s.relay.queue) c
          (raiseCallChange a.call.preset .preempted (countArrival s))
        have lhs := callRequest_preempts (s := withCall c s) (o := o) source lives active takes
        rw [callRequest_preempts source lives active takes, lhs]
        show (CallReply.accepted _ (activationOutcome (newCall p o s) (advance a.stations (newCall p o s :: s.relay.queue)
          (withCall c (raiseCallChange a.call.preset .preempted (countArrival s))))) _, advance a.stations
          (newCall p o s :: s.relay.queue) (withCall c (raiseCallChange a.call.preset .preempted (countArrival s)))) = _
        rw [next]
        rfl
      · have joins := joinQueue_withCall c (newCall p o s) s
        cases join : joinQueue (newCall p o s) s with
        | none =>
          rw [join] at joins
          rw [callRequest_full source lives active takes join]
          exact callRequest_full (s := withCall c s) source lives active takes joins
        | some q =>
          rw [join] at joins
          rw [callRequest_joins source lives active takes join]
          exact callRequest_joins (s := withCall c s) source lives active takes joins

/-! ## The actions of a cue (5.4) -/

theorem blind_skipAction (k : Fin 8) : blind (skipAction k) := fun _ _ => rfl

theorem blind_actOn (k : Fin 8) (forced : Bool) (b : ActionBody) : blind (actOn k forced b) := by
  cases b with
  | level el z d =>
    refine blind_ite (p := fun s => s.available el) (fun c s => ?_) (blind_fadeRequest el z (if forced then 0 else d) (.cue k))
      (blind_skipAction k)
    cases el <;> rfl
  | member r g =>
    exact blind_ite (p := fun s => (s.role r).active) (fun _ _ => rfl)
      (f := fun s => s.modRole r (fun x => { x with group := g })) (fun _ _ => rfl) (blind_skipAction k)
  | route r b =>
    exact blind_ite (p := fun s => (s.role r).active) (fun _ _ => rfl)
      (f := fun s => s.modRole r (fun x => { x with buses := b })) (fun _ _ => rfl) (blind_skipAction k)
  | call q =>
    intro c s
    have asked := callRequest_withCall c q .cue s
    simp only [actOn, asked]
    cases (callRequest q .cue s).1.isAccepted <;> rfl
  | trigger code =>
    intro c s
    show pushTrigger code (withCall c s) = withCall c (pushTrigger code s)
    by_cases room : s.engine.triggers.length < Config.triggerPlaces
    · rw [pushTrigger, pushTrigger, if_pos room, if_pos (by exact room)]
      rfl
    · rw [pushTrigger, pushTrigger, if_neg room, if_neg (by exact room)]
      rfl

theorem blind_execAction (k : Fin 8) (forced : Bool) (a : Action) : blind (execAction k forced a) :=
  blind_ite (p := fun s => flagSet s.engine.safes (safeFlag a.body)) (fun _ _ => rfl) blind_id (blind_actOn k forced a.body)

theorem blind_takeNext (k : Fin 8) (p : PendingAction) :
    blind (fun s => settleOthers k (dropDue k (execAction k false p.action s))) :=
  (blind_settleOthers k).comp (g := fun s => dropDue k (execAction k false p.action s))
    (blind.comp (f := dropDue k) (fun _ _ => rfl) (blind_execAction k false p.action))

theorem blind_runDue (k : Fin 8) : blind (runDue k) := fun c s =>
  blind_foldl (β := PendingAction) (blind_takeNext k)
    ((s.slot k).actions.filter due) c s

/-! ## GO (5.3) -/

theorem blind_forceComplete (k : Fin 8) : blind (forceComplete k) := fun c s => by
  have acted := blind_foldl (step := fun s p => settleOthers k (execAction k true p.action s))
    (fun p => blind.comp (blind_settleOthers k) (blind_execAction k true p.action)) (s.slot k).actions c s
  have owned := (congrArg (completeOwned k) acted).trans (blind.completeOwned k c _)
  exact congrArg (fun x => raiseCueForced ((s.slot k).cue.getD 0) (State.modSlot x k (fun _ => {}))) owned

theorem slotsByAge_withCall (c : ShowInput) (s : State) : slotsByAge (withCall c s) = slotsByAge s := by
  refine eq_of_before (s := s) (slotsByAge_sorted (withCall c s)) (slotsByAge_sorted s) fun i => ?_
  rw [mem_slotsByAge, mem_slotsByAge]
  rfl

theorem makeRoom_withCall (c : ShowInput) (s : State) : makeRoom (withCall c s) = ((makeRoom s).1, withCall c (makeRoom s).2) := by
  have free : freeSlot (withCall c s) = freeSlot s := rfl
  unfold makeRoom
  rw [free, slotsByAge_withCall]
  cases freeSlot s with
  | some k => rfl
  | none =>
    cases slotsByAge s with
    | nil => rfl
    | cons k l => exact congrArg (Prod.mk _) (blind_forceComplete k c s)

theorem blind_fireGo (src : GoSource) (cue : Cue) : blind (fun s => (fireGo src cue s).2) := fun c s => by
  have room := makeRoom_withCall c s
  simp only [fireGo_eq, room]
  generalize (makeRoom s).2 = u
  have free : freeSlot (withCall c u) = freeSlot u := rfl
  rw [free]
  generalize (freeSlot u).getD 0 = k
  have ran := blind_runDue k c (startCue k src cue u)
  exact (congrArg (fun x => settle k (raiseCueFired cue.number x)) ran).trans (blind_settle k c (raiseCueFired cue.number (runDue k (startCue k src cue u))))

theorem blind_goUnasked (src : GoSource) : blind (goUnasked src) := fun c s => by
  have standby : standbyCue (withCall c s) = standbyCue s := rfl
  by_cases hold : s.engine.hold = true
  · rw [goUnasked_held src hold, goUnasked_held (s := withCall c s) src hold]
    rfl
  · have hold := Bool.eq_false_iff.2 hold
    cases next : standbyCue s with
    | none =>
      rw [goUnasked_end src hold next, goUnasked_end (s := withCall c s) src hold next]
      rfl
    | some cue =>
      rw [goUnasked_fires src hold next, goUnasked_fires (s := withCall c s) src hold next]
      exact blind_fireGo src cue c s

end Sys2Proof.Machine
end

section
/-! INPUT_SET, the filters of the lines, and the edges they accept (5.1, 5.3, 9.1). -/

namespace Sys2Proof.Machine

variable {s t u v : State} {f : State → State} {l : Sampled} {i : ShowInput} {e : Edge}

/-! ## INPUT_SET (R77) -/

theorem actingEdgeNum_of {n : Nat} {x : ActingEdge} (h : actingEdgeOf n = some x) : actingEdgeNum x = n := by
  unfold actingEdgeOf at h
  split at h <;> cases h <;> rfl

theorem inputSet_ok {f : InputFields} (any : inputAny f = true) (fields : f.beyond = false) (go : optOk settingOk f.go = true)
    (hold : optOk settingOk f.hold = true) (call : optOk settingOk f.call = true) :
    inputSet f s = .ok ([], s.modEngine (fun x => { x with
      goInput := applySetting f.go x.goInput
      holdInput := applySetting f.hold x.holdInput
      callInput := applySetting f.call x.callInput })) := by
  simp only [inputSet, any, fields, go, hold, call]
  rfl

theorem applySetting_writes {x : InputSetting} (ok : settingOk x = true) (i : ShowInput) :
    (applySetting (some x) i).length = x.length ∧ (applySetting (some x) i).count = 0 ∧
      ((applySetting (some x) i).enable = true ↔ x.enable = 1) ∧
      actingEdgeNum (applySetting (some x) i).edge = x.edge ∧
      (applySetting (some x) i).accepted = i.accepted ∧ (applySetting (some x) i).line = i.line ∧
      (applySetting (some x) i).primed = i.primed := by
  simp only [settingOk, Bool.and_eq_true] at ok
  obtain ⟨⟨-, edge⟩, -⟩ := ok
  obtain ⟨a, ha⟩ := Option.isSome_iff_exists.1 edge
  refine ⟨rfl, rfl, by simp [applySetting, isOn], ?_, rfl, rfl, rfl⟩
  simp only [applySetting, ha, pick]
  exact actingEdgeNum_of ha

/-! ## One sample of a filter (R75) -/

theorem sampleInput_first (h : i.primed = false) :
    sampleInput i = ({ i with accepted := i.line, primed := true, count := 0 }, none) := by
  simp [sampleInput, h]

theorem sampleInput_agrees (h : i.primed = true) (same : i.line = i.accepted) :
    sampleInput i = ({ i with count := 0 }, none) := by
  simp [sampleInput, h, same]

theorem sampleInput_counts (h : i.primed = true) (other : i.line ≠ i.accepted) (below : i.count + 1 < i.length) :
    sampleInput i = ({ i with count := i.count + 1 }, none) := by
  simp [sampleInput, h, other, Nat.not_le.2 below]

theorem sampleInput_accepts (h : i.primed = true) (other : i.line ≠ i.accepted) (reached : i.length ≤ i.count + 1) :
    sampleInput i = ({ i with accepted := i.line, count := 0 }, some (if i.line = .low then .press else .release)) := by
  simp [sampleInput, h, other, reached]

/-- An edge that a sample accepts finds the filter at its level (R75; log 9). -/
theorem acceptEdge_sampled (h : (sampleInput i).2 = some e) : acceptEdge e (sampleInput i).1 = (sampleInput i).1 := by
  by_cases primed : i.primed = true
  case neg => rw [sampleInput_first (Bool.eq_false_iff.2 primed)] at h; cases h
  by_cases same : i.line = i.accepted
  · rw [sampleInput_agrees primed same] at h; cases h
  by_cases reached : i.length ≤ i.count + 1
  case neg => rw [sampleInput_counts primed same (Nat.not_le.1 reached)] at h; cases h
  rw [sampleInput_accepts primed same reached] at h ⊢
  obtain rfl := Option.some.inj h
  cases line : i.line <;> simp [acceptEdge, edgeLevel, primed]

/-! ## Edges (R76, R147) -/

theorem edgeActs_iff (i : ShowInput) (e : Edge) : edgeActs i e = true ↔ i.enable = true ∧
    (i.edge = .both ∨ i.edge = .press ∧ e = .press ∨ i.edge = .release ∧ e = .release) := by
  unfold edgeActs
  cases i.edge <;> simp

theorem lineEdge_paused (live : s.inReset = false) (h : paused s = true) : lineEdge l f s = .next s := by
  rw [lineEdge, outsideReset_ok live, if_pos h]

/-! ## An edge while an end is due (R82; logs 9 and 38) -/

/-- What such an edge leaves, the Cue Engine's counts having left `v`. -/
def edgeDue (l : Sampled) (f : State → State) (u v : State) : State :=
  if sampleRank l ≤ sampleRank u.ending.sampled then f (intervalEnd none none none u)
  else (f (linesBefore l v)).modEnding (fun x => { x with sampled := l })

theorem lineEdge_due (live : s.inReset = false) (due : s.ending.due = true) (runs : paused s = false) :
    lineEdge l f s = .next (edgeDue l f (meetBlock .cue s) (cueCounts (beginBlock .cue (meetBlock .cue s)))) := by
  rw [lineEdge, outsideReset_ok live, runs, due]
  rfl

theorem cueCounts_sampled (s : State) : (cueCounts s).ending.sampled = s.ending.sampled := by
  rw [cueCounts_eq]
  split
  · rfl
  · rw [takeCounts_ending]

theorem edgeDue_hold (f : State → State) :
    edgeDue .hold f u v = match u.ending.sampled with
      | .none => (f v).modEnding (fun x => { x with sampled := .hold })
      | .hold | .go | .all => f (intervalEnd none none none u) := by
  unfold edgeDue
  cases lines : u.ending.sampled <;> rfl

section
variable (same : v.ending.sampled = u.ending.sampled)
include same

theorem edgeDue_go (f : State → State) :
    edgeDue .go f u v = match u.ending.sampled with
      | .none => (f (sampleHold v)).modEnding (fun x => { x with sampled := .go })
      | .hold => (f v).modEnding (fun x => { x with sampled := .go })
      | .go | .all => f (intervalEnd none none none u) := by
  unfold edgeDue linesBefore
  rw [same]
  cases u.ending.sampled <;> rfl

theorem edgeDue_all (f : State → State) :
    edgeDue .all f u v = match u.ending.sampled with
      | .none => (f (sampleGo (sampleHold v))).modEnding (fun x => { x with sampled := .all })
      | .hold => (f (sampleGo v)).modEnding (fun x => { x with sampled := .all })
      | .go => (f v).modEnding (fun x => { x with sampled := .all })
      | .all => f (intervalEnd none none none u) := by
  unfold edgeDue linesBefore
  rw [same]
  cases u.ending.sampled <;> rfl

end

/-! ## The samples of one end, line by line (R75, R76) -/

theorem blind.callInput (h : blind f) (s : State) : (f s).engine.callInput = s.engine.callInput :=
  congrArg (fun x => x.engine.callInput) (h s.engine.callInput s)

theorem blind_goEdge (e : Edge) : blind (goEdge e) :=
  blind_ite (p := fun s => edgeActs s.engine.goInput e) (fun _ _ => rfl) (blind_goUnasked .line) blind_id

/-- The state with the records of GO_N and CALL_N replaced. -/
def withLines (g c : ShowInput) (s : State) : State := withCall c (s.modEngine (fun x => { x with goInput := g }))

theorem holdEdge_withLines (e : Edge) (g c : ShowInput) (s : State) :
    holdEdge e (withLines g c s) = withLines g c (holdEdge e s) := by
  have input : (withLines g c s).engine.holdInput = s.engine.holdInput := rfl
  have held : (withLines g c s).engine.hold = s.engine.hold := rfl
  unfold holdEdge takeHold
  rw [input, held]
  cases edgeActs s.engine.holdInput e <;> cases s.engine.hold <;> rfl

theorem sampleHold_none (h : (sampleInput s.engine.holdInput).2 = none) :
    sampleHold s = s.modEngine (fun x => { x with holdInput := (sampleInput s.engine.holdInput).1 }) := by
  rw [sampleHold, h]
  rfl

theorem sampleHold_some (h : (sampleInput s.engine.holdInput).2 = some e) :
    sampleHold s = holdEdge e (s.modEngine (fun x => { x with holdInput := (sampleInput s.engine.holdInput).1 })) := by
  rw [sampleHold, h]
  rfl

theorem sampleGo_none (h : (sampleInput s.engine.goInput).2 = none) :
    sampleGo s = s.modEngine (fun x => { x with goInput := (sampleInput s.engine.goInput).1 }) := by
  rw [sampleGo, h]
  rfl

theorem sampleGo_some (h : (sampleInput s.engine.goInput).2 = some e) :
    sampleGo s = goEdge e (s.modEngine (fun x => { x with goInput := (sampleInput s.engine.goInput).1 })) := by
  rw [sampleGo, h]
  rfl

theorem sampleHold_callInput (s : State) : (sampleHold s).engine.callInput = s.engine.callInput := by
  cases h : (sampleInput s.engine.holdInput).2 with
  | none => rw [sampleHold_none h]; rfl
  | some e =>
    rw [sampleHold_some h, holdEdge, takeHold]
    split
    · split <;> rfl
    · rfl

theorem sampleGo_callInput (s : State) : (sampleGo s).engine.callInput = s.engine.callInput := by
  cases h : (sampleInput s.engine.goInput).2 with
  | none => rw [sampleGo_none h]; rfl
  | some e => rw [sampleGo_some h, (blind_goEdge e).callInput]; rfl

theorem takesEdges_sampled (h : takesEdges s) (run : Run False sampling s t) : takesEdges t := by
  obtain ⟨live, runs, due⟩ := h
  have same := Run.besidesEnd (run.mono sampling_sub_ends)
  have ending := run.ending_stands fun _ => sampling_timing
  exact ⟨(besidesEnd_inReset same).trans live, (besidesEnd_paused same).trans runs, by rw [ending]; exact due⟩

section
variable (takes : takesEdges s)
include takes

/-- HOLD_N's edge comes as its press command does, on the state in which all three lines have been sampled. -/
theorem exec_sampledHold (h : (sampleInput s.engine.holdInput).2 = some e) :
    exec (.holdNPress e) (withLines (sampleInput s.engine.goInput).1 (sampleInput s.engine.callInput).1
        (s.modEngine (fun x => { x with holdInput := (sampleInput s.engine.holdInput).1 }))) =
      .next (withLines (sampleInput s.engine.goInput).1 (sampleInput s.engine.callInput).1 (sampleHold s)) := by
  refine (lineEdge_ok (f := holdPress e) (by exact takes)).trans ?_
  have level := acceptEdge_sampled h
  rw [sampleHold_some h, ← holdEdge_withLines]
  generalize (sampleInput s.engine.holdInput).1 = i at *
  refine congrArg (fun x => (.next (holdEdge e x) : Out)) ?_
  show withLines (sampleInput s.engine.goInput).1 (sampleInput s.engine.callInput).1
    (s.modEngine (fun x => { x with holdInput := acceptEdge e i })) = _
  rw [level]

/-- GO_N's comes after it. -/
theorem exec_sampledGo (h : (sampleInput s.engine.goInput).2 = some e) (c : ShowInput) :
    exec (.goNPress e) (withLines (sampleInput s.engine.goInput).1 c s) = .next (withCall c (sampleGo s)) := by
  refine (lineEdge_ok (f := goPress e) (by exact takes)).trans ?_
  have level := acceptEdge_sampled h
  rw [sampleGo_some h, ← blind_goEdge]
  generalize (sampleInput s.engine.goInput).1 = i at *
  refine congrArg (fun x => (.next (goEdge e x) : Out)) ?_
  show withCall c (s.modEngine (fun x => { x with goInput := acceptEdge e i })) = _
  rw [level]

/-- CALL_N's is the last. -/
theorem sampledCall (h : (sampleInput s.engine.callInput).2 = some e) :
    lineEdge .all (callKey e) (withCall (sampleInput s.engine.callInput).1 s) = .next (sampleCall s) := by
  refine (lineEdge_ok (f := callKey e) (by exact takes)).trans ?_
  have level := acceptEdge_sampled h
  rw [sampleCall, h]
  generalize (sampleInput s.engine.callInput).1 = i at *
  refine congrArg (fun x => (.next (callEdge e x) : Out)) ?_
  show s.modEngine (fun x => { x with callInput := acceptEdge e i }) = _
  rw [level]

end

end Sys2Proof.Machine

open Sys2Proof Sys2Proof.Machine

/-- Settles O42: the filter and the edges case by case; that CALL_N may be sampled before the edge of GO_N acts is
`blind_goEdge`. -/
theorem inputSetWrites : Obligations.InputSetWrites := by
  unfold Obligations.InputSetWrites
  refine ⟨fun f s ready any fields go hold call => ⟨next_answered ready (inputSet_ok any fields go hold call),
      fun x i ok => applySetting_writes ok i, fun i => rfl⟩,
    fun i => ⟨sampleInput_first, sampleInput_agrees, sampleInput_counts, fun primed other reached => ?_⟩, edgeActs_iff,
    fun e s live stops => ⟨lineEdge_paused live stops, lineEdge_paused live stops, lineEdge_paused live stops,
      lineEdge_paused live stops⟩,
    fun e s => ⟨goPress_idle, holdPress_idle, callKey_idle, fun takes => ⟨lineEdge_ok takes, lineEdge_ok takes,
      lineEdge_ok takes, lineEdge_ok takes⟩⟩,
    fun e s live due runs => ?_, fun s takes => ?_⟩
  · rw [sampleInput_accepts primed other reached]
    cases i.line <;> rfl
  · intro u w v upTo
    have counts : cueCounts w = v := cueCounts_eq w
    have same : v.ending.sampled = u.ending.sampled := counts ▸ cueCounts_sampled w
    have beside := besidesEnd_meetBlock .cue s
    have edge : ∀ l f, lineEdge l f s = .next (edgeDue l f u v) := fun l f => counts ▸ lineEdge_due live due runs
    refine ⟨_, exec_controlIntervalEnd ((besidesEnd_inReset beside).trans live) ((meetBlock_due ..).trans due)
      ((besidesEnd_paused beside).trans runs), rfl, ?_, ?_, ?_⟩
    · refine (edge .hold (holdPress e)).trans ?_
      rw [edgeDue_hold]
      cases u.ending.sampled <;> rfl
    · refine (edge .go (goPress e)).trans ?_
      rw [edgeDue_go same]
      cases u.ending.sampled <;> rfl
    · have key : exec (match e with | .press => .callNPress | .release => .callNRelease) s = lineEdge .all (callKey e) s := by
        cases e <;> rfl
      refine key.trans ((edge .all (callKey e)).trans ?_)
      rw [edgeDue_all same]
      cases u.ending.sampled <;> rfl
  · intro g h c
    have goInput : (sampleHold s).engine.goInput = s.engine.goInput := (sampleHold_timer s).2
    have callInput : (sampleGo (sampleHold s)).engine.callInput = s.engine.callInput :=
      (sampleGo_callInput _).trans (sampleHold_callInput s)
    have takesHeld := takesEdges_sampled takes run_sampleHold
    have takesGone := takesEdges_sampled takesHeld (run_sampleGo nofun)
    have last := fun e he => sampledCall (e := e) takesGone (by rw [callInput]; exact he)
    rw [callInput] at last
    refine ⟨withLines g.1 c.1 (sampleHold s), withCall c.1 (sampleGo (sampleHold s)), ⟨fun none => ?_, fun e he =>
      exec_sampledHold takes he⟩, fun none => ?_, fun e he => ?_, fun none => ?_, last .press, last .release⟩
    · rw [sampleHold_none none]
      rfl
    · rw [sampleGo_none (by rw [goInput]; exact none), goInput]
      rfl
    · have go := exec_sampledGo takesHeld (e := e) (by rw [goInput]; exact he) c.1
      rwa [goInput] at go
    · rw [sampleInputs, sampleCall, callInput, show (sampleInput s.engine.callInput).2 = Option.none from none]
      rfl
end
